-- ==== Sys2Proof/Word.lean ====
section
/-! DEFINITION. The word types of the part and their plainest arithmetic. -/

namespace Sys2Proof

/-- A register word or a memory word, R5. -/
abbrev Word := BitVec 32
/-- A byte, R10. -/
abbrev Byte := BitVec 8

/-- The word with value n, modulo 2^32. -/
def Word.ofNat (n : Nat) : Word := BitVec.ofNat 32 n

end Sys2Proof
end

