-- ==== Sys2Proof/Syntax.lean ====
section
/-! DEFINITION. The commands of the block: one constructor per row of the opcode table, with what comes from outside as
its operands, and the types those operands use. -/

namespace Sys2Proof

/-- The two processors that reach the package address map, R28; a debug-port access counts as the Keeper's (R545). -/
inductive Side where
  | keeper | link
  deriving DecidableEq, Repr

/-- The width of a processor access, R10. -/
inductive AccSize where
  | byte | half | word
  deriving DecidableEq, Repr

/-- A GTS, R40: SEC:FRAC as one 80-bit number and UNC. -/
structure Gts where
  t : BitVec 80
  unc : BitVec 16
  deriving DecidableEq, Repr

/-- The channels of a crossing, R20. -/
inductive Channel where
  | event | data
  deriving DecidableEq, Repr

/-- A merge point: the output of a cluster's edge towards the hub, or the hub's output towards a block named by its
index of R565. -/
inductive MergePoint where
  | edge (cluster : Fin 8)
  | hub (dst : Fin 43)
  | slice (cluster : Fin 8)
  deriving DecidableEq, Repr

/-- The continuous sources of Float, R67. -/
inductive TimeSource where
  | pps | gang | scrim
  deriving DecidableEq, Repr

/-- What the flash answers to an operation. -/
inductive Answer where
  | ok | fail
  deriving DecidableEq, Repr

/-- Who accesses a timer, R407: the Keeper, the Link processor or a watch core. -/
inductive TimerUser where
  | keeper | link
  | core (c : Fin 16)
  deriving DecidableEq, Repr

/-- How a two-wire transaction ends on the wires, R364 to R366: with the bytes read, the PEC byte among them, or with a
byte not acknowledged, or with a START or STOP within a byte. -/
inductive BusEnd where
  | bytes (b : List (BitVec 8))
  | anack | dnack | busErr
  deriving DecidableEq, Repr

/-- What an alert response meets, R376: the byte read, no acknowledge, or another controller winning. -/
inductive AlertEnd where
  | byte (b : BitVec 8)
  | nack | lost
  deriving DecidableEq, Repr

/-- How a bus clear ends, R374 and R375: with a STOP, with SDA or SCL still low, with another controller's START, or
with both lines found high. -/
inductive ClearEnd where
  | stop | low | start | high
  deriving DecidableEq, Repr

/-- A mesh report, R498. -/
structure MeshRep where
  gts : Gts
  subj : Nat
  cause : Nat
  epoch : Nat
  count : Nat
  flags : Nat
  hops : Nat
  first : Nat
  deriving DecidableEq, Repr

/-- The payload of a Scrim frame, R487 to R499, by its type; the spec lists the contents and gives no byte layout. -/
inductive ScrimBody where
  | beacon (role epoch hops parent : Nat) (unc : BitVec 16) (gts : Gts) (watched gateway : Bool)
  | leave
  | treq
  | tresp
  | tfollow (t2 t3 : BitVec 80) (unc : BitVec 16)
  | data (origin msg dkind dest epoch : Nat) (ack : Bool) (bytes : List (BitVec 8))
  | report (r : MeshRep)
  | returned (origin msg to_ tomsg epoch node : Nat)
  | ack (origin msg to_ tomsg : Nat) (busy : Bool)
  | role (origin msg holder role epoch : Nat)
  | other
  deriving DecidableEq, Repr

/-- A Scrim frame, R487: key slot, hops left, domain, transmitter, receiver, frame counter; whether its MIC verifies
under the domain key of its slot (R488); its payload. -/
structure ScrimFrame where
  slot : Nat
  left : Nat
  domain : Nat
  tx : Nat
  rx : Nat
  fc : Nat
  mic : Bool
  body : ScrimBody
  deriving DecidableEq, Repr

/-- An island other than a watch core's, R539: a tile, a cluster's control, slice, memory or edge, a region's hub half, or
a package block by its identifier of R435. -/
inductive Island where
  | tile (t : Fin 32)
  | cluster (n : Fin 8)
  | slice (n : Fin 8)
  | memory (n : Fin 8)
  | edge (n : Fin 8)
  | region (south : Bool)
  | block (d : Fin 65536)
  deriving DecidableEq, Repr

/-- The commands, one per row of the opcode table, in the table's order. -/
inductive Instr where
  /-- REGISTER_WRITE, R6: A write to a register field that has no behaviour of its own stores, clears or sets it
  according to its type. Operands: the processor, the address, the width, and the value written, none for a read. -/
  | registerWrite (p : Side) (a : BitVec 32) (size : AccSize) (v : Option (BitVec 32))
  /-- CORE_DIE_RESET, R38: A reset that clears the core die puts Glanyx in SAMPLE, powers the SAMPLE domains and
  starts the Keeper in Undercoat. -/
  | coreDieReset
  /-- PORST, R545: PORST_N held low for 1 µs or more resets both dies, and its rise starts the core die as a power-on
  reset. Operands: the HPn_SEL straps as they are sampled. -/
  | porst (sel : BitVec 4)
  /-- CROSSING_TIMEOUT, R26: A handshake left unacknowledged for 2 µs is released, its packet or flit is discarded and
  a fault is raised. Operands: the merge point whose next packet or flit is not acknowledged. -/
  | crossingTimeout (m : MergePoint)
  /-- MERGE_POINT_GRANT, R21: A merge point grants one waiting packet or flit in round-robin order, event packets
  before flits. Operands: the merge point that grants. -/
  | mergePointGrant (m : MergePoint)
  /-- MDATA_READ, R35: A read of CLn_MDATA returns the addressed word of the selected cluster memory and advances ADDR
  when INC is 1. Operands: the processor, the cluster. -/
  | mdataRead (p : Side) (n : Fin 8)
  /-- MDATA_WRITE, R35: A write of CLn_MDATA stores the addressed word, or is refused for the program memory of a core
  that is not halted. Operands: the processor, the cluster, the word written. -/
  | mdataWrite (p : Side) (n : Fin 8) (v : BitVec 32)
  /-- REF_SETTLE_DONE, R45: The reference settling time after REF_EN rises ends and the TB starts the PLL. -/
  | refSettleDone
  /-- PLL_LOCK, R45: The TB PLL achieves lock and time taps begin to follow the accumulator. -/
  | pllLock
  /-- HANDOVER_TO_KEEP, R54: At the next crystal tick the TB loads the accumulator's time into the KEEP timekeeper and
  stops the PLL. -/
  | handoverToKeep
  /-- HANDOVER_FROM_KEEP, R57: At the first crystal tick after PLL lock the TB loads the accumulator from the KEEP
  timekeeper and resumes fine capture. -/
  | handoverFromKeep
  /-- FI_EDGE_CAPTURE, R49: An enabled fine-interpolator engine captures a selected edge on its pin with 125 ps bins.
  Operands: an edge, in a 125 ps bin of the present nanosecond. -/
  | fiEdgeCapture (pin : Fin 48) (rise : Bool) (bin : Fin 8)
  /-- COARSE_EDGE_CAPTURE, R50: An EIO edge that no enabled engine serves is captured at 1 ns from the EIO block's
  time tap and sent to slices that watch the pin. -/
  | coarseEdgeCapture (pin : Fin 48) (rise : Bool)
  /-- RING_START, R55: In WATCH or SKIM an edge on EIO0 to EIO15 or PPS_IN starts a free calibrated gated ring.
  Operands: an edge on EIO0 to EIO15, or on PPS_IN as 16. -/
  | ringStart (pin : Fin 17) (rise : Bool)
  /-- RING_STOP, R55: At the next crystal tick a running gated ring stops and its edge is stamped from the tick less
  its count. Operands: the cycles the ring counted. -/
  | ringStop (ring : Fin 4) (count : Nat)
  /-- SLOW_EDGE_STAMP, R56: In WATCH or SKIM an edge on EIO16 to EIO47 is stamped at the midpoint of its crystal tick
  period. -/
  | slowEdgeStamp (pin : Fin 48) (rise : Bool)
  /-- RING_CALIBRATION, R55: At the first lock after a start and every 60 s, the TB calibrates each gated ring and
  records the crystal temperature. Operands: the period measured against the 1 GHz counter, in fs. -/
  | ringCalibration (ring : Fin 4) (periodFs : Nat)
  /-- CRYSTAL_TEMP_READ, R58: The crystal temperature sensor is read, and the KEEP timekeeper correction is set from
  the model bin. Operands: the reading, signed, in 1/16 K. -/
  | crystalTempRead (temp : BitVec 16)
  /-- FLOAT_LEARN, R63: Every 60 s in LOCKED with U_clk below 100 ns, Float adds frequency-offset entries to the bins
  of the interval's temperature. Operands: the two mean offsets in units of 2^-40, the mean temperature and its
  span in 1/16 K. -/
  | floatLearn (ref xk temp : Int) (span : Nat)
  /-- PPS_EDGE, R69: An edge on PPS_IN is accepted or rejected, labelled and offered to Float as a measurement. -/
  | ppsEdge (rise : Bool) (bin : Fin 8)
  /-- SOURCE_TIMEOUT, R67: A continuous source that delivers no accepted measurement for its time-out period times
  out, and Float reselects or holds over. -/
  | sourceTimeout (src : TimeSource)
  /-- CLAIM_SUBMIT, R71: A write of GO in TB_XK3 submits a host claim, which Float handles by the first applicable
  row. Operands: the word written to TB_XK3. -/
  | claimSubmit (p : Side) (v : Word)
  /-- MEASUREMENT_SUBMIT, R73: A write of GO in TB_XL3 submits a GANG or SCRIM measurement to Float. Operands: the
  word written to TB_XL3. -/
  | measurementSubmit (p : Side) (v : Word)
  /-- CLAIM_EXPIRY, R70: A NEXT_PPS or EDGE claim that sees no qualifying edge within 2 s expires. -/
  | claimExpiry (port : Fin 4)
  /-- TB_COMMIT, R78: A write of TB_COMMIT.GO makes the shadowed TB fields take effect together at the next
  measurement. -/
  | tbCommit (p : Side) (v : Word)
  /-- TB_CTL_WRITE, R76: A write of TB_CTL sets Float enable, REFGATE and sources, and a cleared source bit times that
  source out at once. -/
  | tbCtlWrite (p : Side) (v : Word)
  /-- TB_NOW_SNAPSHOT, R79: A read of TB_NOW0 or TB_PPSCAP0 snapshots the GTS for the processor's later reads of the
  other two words. Operands: a read of TB_NOW0, or of TB_PPSCAP0 where cap. -/
  | tbNowSnapshot (p : Side) (cap : Bool)
  /-- FICTL_WRITE, R85: A write of TB_FICTLn sets an engine's edges and pin, refusing EN 1 when the writer's side does
  not hold the engine. -/
  | fictlWrite (p : Side) (n : Fin 16) (v : Word)
  /-- TILE_COMMIT, R124: A write of TILE_COMMIT.GO checks the shadow set and makes it pending or refuses it. -/
  | tileCommit (p : Side) (t : Fin 32) (v : Word)
  /-- TILE_SET_SWITCH, R126: A pending tile set takes effect at the first frame boundary 2 µs after GO, resetting
  changed lanes. -/
  | tileSetSwitch (t : Fin 32)
  /-- ACQUISITION_SEND, R569: At its send instant 2 µs before a scheduled instant the tile sends the acquisition to
  its port, or it is not made. Operands: can is false where the tile cannot send at the send instant (R569). -/
  | acquisitionSend (t : Fin 32) (entry : Fin 64) (can : Bool)
  /-- SD_CONVERSION_DONE, R91: A sigma-delta conversion window closes and its code is delivered to the bound tile. -/
  | sdConversionDone (k : Fin 8) (code : BitVec 24)
  /-- AFS_HOLD, R569: An AFS port holds its input at the scheduled instant and delivers the code within 200 ns. -/
  | afsHold (k : Fin 4) (code : BitVec 12)
  /-- EIO_GROUP_SNAPSHOT, R89: An EIO group port snapshots the levels of its 16 pins at the scheduled instant. -/
  | eioGroupSnapshot (g : Fin 3)
  /-- LANE_INPUT, R103: An acquired value enters each named lane's pipeline and, when the CIC gives an output, forms a
  record offered to its consumers. -/
  | laneInput (t : Fin 32)
  /-- CREDIT_RETURN, R570: A credit returns to the tile, which then offers the oldest buffered record to its ring. -/
  | creditReturn (t : Fin 32)
  /-- TFIFO_READ, R112: A read of a tile FIFO by its core returns the next word of the oldest record and removes the
  record after its sixth word. Operands: core c of 16 reads tile t of its cluster. -/
  | tfifoRead (c : Fin 16) (t : Fin 4)
  /-- TILE_LVAL_SNAPSHOT, R134: A read of TILE_LVALn snapshots the lane's value, flags, baseline and average. -/
  | tileLvalSnapshot (p : Side) (t : Fin 32) (l : Fin 16)
  /-- ENGINE_INPUT, R146: A dispatched source-A input is judged by the predicate and drives one transition of the
  engine's state machine with its actions. Operands: parity gives the word offset, from the engine's base, of a
  word that fails its check. -/
  | engineInput (e : Fin 256) (parity : Option (Fin 128))
  /-- B_LANE_RECORD, R150: A dispatched record of an engine's B lane replaces its held B. -/
  | bLaneRecord (e : Fin 256)
  /-- ENGINE_TIMER_EXPIRY, R147: An engine timer expires and delivers one X input. -/
  | engineTimerExpiry (e : Fin 256) (parity : Option (Fin 128))
  /-- ATTENTION_PACKET, R149: An attention packet reaches the host-port block and sets HPn_ATTN.RULE for each port
  named. -/
  | attentionPacket
  /-- COALESCE_WINDOW_CLOSE, R157: A coalescer window closes and emits one summary of the events merged, then frees
  its entry. -/
  | coalesceWindowClose (n : Fin 8)
  /-- LOST_SUMMARY, R159: When space returns the slice emits its buffered records and then a lost-record summary. -/
  | lostSummary (n : Fin 8)
  /-- RS_COMMIT, R151: A write of RS_COMMIT.ENG checks the named engines and makes the set pending or refuses it. -/
  | rsCommit (p : Side) (n : Fin 8) (v : Word)
  /-- RULE_SET_SWITCH, R151: A pending rule set takes effect at a dispatch cycle, keeping or resetting each engine's
  state. -/
  | ruleSetSwitch (n : Fin 8)
  /-- RS_ESTATE_SNAPSHOT, R178: A read of RS_ESTATEe snapshots the engine's state and counters. -/
  | rsEstateSnapshot (p : Side) (e : Fin 256)
  /-- SLICE_RETENTION_IDLE, R163: A WATCH slice with no input for 2^WIDLE µs returns to retention. -/
  | sliceRetentionIdle (n : Fin 8)
  /-- STP_TRIGGER, R170: A rule's STP action arrives and queues or merges a run of its slot. -/
  | stpTrigger
  /-- STP_TRIG, R182: A write of STP_TRIG.GO triggers a run of the slot named. -/
  | stpTrig (p : Side) (v : Word)
  /-- STP_PERIOD, R170: A slot's period expires and triggers a run. -/
  | stpPeriod (slot : Fin 8)
  /-- STP_RUN_START, R170: STP starts the waiting run of highest priority, or preempts a lower run at a layer
  boundary. -/
  | stpRunStart
  /-- STP_RUN_COMPLETE, R168: A model run completes and its result goes to slices and the package event queue.
  Operands: single-bit weight errors corrected during the run, and whether a double-bit error was met. -/
  | stpRunComplete (corrected : Nat) (double : Bool)
  /-- STP_COMMIT, R181: A write of STP_COMMIT.GO checks every enabled slot and commits or refuses the set. -/
  | stpCommit (p : Side) (v : Word)
  /-- STP_IDLE, R433: In RECOGNIZE STP returns to retention after STPIDLE µs without a run. -/
  | stpIdle
  /-- RING_APPEND, R190: The ring writer writes a staged record into its open segment and counts it in NREC. -/
  | ringAppend (r : Fin 40)
  /-- SEGMENT_AGE_CLOSE, R189: A segment whose age reaches 2^MAXAGE s is closed with AGED. -/
  | segmentAgeClose (r : Fin 40)
  /-- ARM, R197: An ARM command binds a FREE batch handle to a ring. -/
  | armBatch (ring : Nat) (handle : Fin 256)
  /-- OPEN, R197: An OPEN command opens an ARMED batch and sets FIRST. -/
  | openBatch (handle : Fin 256)
  /-- CLOSE, R197: A CLOSE command closes an OPEN batch and fixes SEGS. -/
  | closeBatch (handle : Fin 256)
  /-- RELEASE, R197: A RELEASE command frees a batch handle and unpins its segments. -/
  | releaseBatch (handle : Fin 256)
  /-- BOPEN, R197: A rule's BOPEN event packet reaches the writer and acts as OPEN. -/
  | bopen
  /-- BCLOSE, R197: A rule's BCLOSE event packet reaches the writer and acts as CLOSE. -/
  | bclose
  /-- LOG_RCOMMIT, R212: A write of LOG_RCOMMIT0 or LOG_RCOMMIT1 checks the named ring and flash sets and commits or
  refuses them. Operands: hi: LOG_RCOMMIT1. -/
  | logRcommit (p : Side) (hi : Bool) (v : Word)
  /-- RING_SET_SWITCH, R212: A committed ring set takes effect at the writer's next record boundary. -/
  | ringSetSwitch (r : Fin 40)
  /-- FLASH_SET_SWITCH, R212: A committed flash set takes effect after the block in progress, from sector 0 of the new
  region. -/
  | flashSetSwitch
  /-- LOG_ROLD_WRITE, R196: A write of LOG_ROLDr advances a ring's release point. -/
  | logRoldWrite (p : Side) (r : Fin 40) (v : Word)
  /-- LOG_BLOCK_WRITE, R201: The flusher starts writing the oldest closed segment into the next log block. Operands:
  what the flash answers once the frames have run. -/
  | logBlockWrite (ans : Answer)
  /-- LOG_BLOCK_READBACK, R201: A programmed block is read back and, with a matching CRC, its segment is unpinned.
  Operands: the bytes read back, where the Read frame is still in progress. -/
  | logBlockReadback (data : List (BitVec 8))
  /-- INDEX_BLOCK_WRITE, R201: When a sector's data blocks are full the flusher writes its index block. -/
  | indexBlockWrite (ans : Answer)
  /-- SECTOR_ERASE, R202: The flusher erases a sector before writing into it. -/
  | sectorErase (ans : Answer)
  /-- LOG_HEAD_RECOVERY, R203: At start-up Topcoat finds the log head by binary search and sets FHEAD and FLSN before
  FLEN. Operands: the blocks read: sector, block, header and whether its CRC matches. -/
  | logHeadRecovery (found : List (Nat × Nat × List (BitVec 8) × Bool))
  /-- WINDOW_READ, R207: A host read of a window address is translated through the level-1 and level-2 tables into
  batch SRAM. -/
  | windowRead (port : Fin 4) (a : Nat) (words : Nat)
  /-- WINDOW_FAULT_REPORT, R209: Topcoat sends the port a FAULT_REPORT for a recorded window fault and clears VALID. -/
  | windowFaultReport (port : Fin 4)
  /-- HWU_COMMIT, R216: A write of HWU_COMMIT commits the named ports' table base and size and empties their caches. -/
  | hwuCommit (p : Side) (v : Word)
  /-- HWU_INV, R210: A write of HWU_INV empties the named ports' level-2 caches. -/
  | hwuInv (p : Side) (v : Word)
  /-- SENSE_FRAME_RECEIVE, R226: A sense-link frame arrives and is taken, or discarded on a check failure. Operands:
  whether the check bits of the frame under way hold. -/
  | senseFrameReceive (good : Bool)
  /-- SENSE_RESEND, R226: An unacknowledged sense frame is resent, and after three failures the link is declared down. -/
  | senseResend
  /-- SENSE_RETRAIN, R226: Every 1 ms while down the sense block retrains the link. -/
  | senseRetrain (ok : Bool) (dieReset : Bool)
  /-- LINK_TRAINING, R227: On first access or command the link trains, resends configuration and notes a sense-die
  reset. Operands: ok: trained within 50 µs; dieReset: the sense die reports a reset. -/
  | linkTraining (ok : Bool) (dieReset : Bool)
  /-- SENSE_START, R224: The sense block sends the START frame at the scheduled instant less the link latency, opening
  the group windows. Operands: the groups due. -/
  | senseStart (cell therm : Bool)
  /-- SENSE_WINDOW_CLOSE, R225: A conversion window closes and its results are returned as RESULT frames. Operands:
  the codes the group converted, by R223. -/
  | senseWindowClose (cell : Bool) (codes : List Int)
  /-- SENSE_RESULT, R226: A RESULT frame delivers one channel's code and verdict to the bound port. Operands: whether
  the RESULT frame is lost after three resends. -/
  | senseResult (lost : Bool)
  /-- OWTEST_START, R229: An OWTEST opens window A on the cell group before injection on the wire named. -/
  | owtestStart
  /-- OWTEST_WINDOW_A_CLOSE, R229: Window A closes and injection on the wire begins. -/
  | owtestWindowAClose (codes : List Int)
  /-- OWTEST_VERDICT, R230: Window B closes as injection ends and the verdict is formed and sent. -/
  | owtestVerdict (codes : List Int)
  /-- SENSE_VERDICT, R233: A VERDICT frame updates the wire's state for windows that open after it. -/
  | senseVerdict
  /-- OWTEST_RECOVERY_END, R229: The recovery time after an OWTEST ends and the wire's cells are delivered again. -/
  | owtestRecoveryEnd
  /-- SENSE_LAT_CALIBRATE, R224: Every second the sense block calibrates the link latency from round trips. -/
  | senseLatCalibrate (lat : BitVec 16)
  /-- SNS_COMMIT, R244: A write of SNS_COMMIT.GO checks and commits the sense configuration. -/
  | snsCommit (p : Side) (v : Word)
  /-- SNS_OWRUN_SNAPSHOT, R244: A read of SNS_OWRUN snapshots SNS_OWFIX. -/
  | snsOwrunSnapshot (p : Side)
  /-- SNS_EZ_SNAPSHOT, R244: A read of SNS_EZk snapshots SNS_EVk and SNS_ESk. -/
  | snsEzSnapshot (p : Side) (k : Fin 18)
  /-- NOP, R271: Does nothing. Operands: the processor. -/
  | nop (c : Fin 18)
  /-- DUP, R271: Duplicates the top of the data stack. Operands: the processor. -/
  | dup (c : Fin 18)
  /-- DROP, R271: Removes the top of the data stack. Operands: the processor. -/
  | drop (c : Fin 18)
  /-- SWAP, R271: Exchanges the top two entries. Operands: the processor. -/
  | swap (c : Fin 18)
  /-- OVER, R271: Copies the second entry to the top. Operands: the processor. -/
  | over (c : Fin 18)
  /-- ROT, R271: Rotates the third entry to the top. Operands: the processor. -/
  | rot (c : Fin 18)
  /-- NIP, R271: Removes the second entry. Operands: the processor. -/
  | nip (c : Fin 18)
  /-- TUCK, R271: Copies the top entry below the second. Operands: the processor. -/
  | tuck (c : Fin 18)
  /-- DUP2, R271: Duplicates the top two entries. Operands: the processor. -/
  | dup2 (c : Fin 18)
  /-- DROP2, R271: Removes the top two entries. Operands: the processor. -/
  | drop2 (c : Fin 18)
  /-- TOR, R271: Moves the top data entry to the return stack. Operands: the processor. -/
  | tor (c : Fin 18)
  /-- FROMR, R271: Moves the top return entry to the data stack. Operands: the processor. -/
  | fromr (c : Fin 18)
  /-- RFETCH, R271: Copies the top return entry to the data stack. Operands: the processor. -/
  | rfetch (c : Fin 18)
  /-- ADD, R271: Adds the top two entries and sets flags. Operands: the processor. -/
  | add (c : Fin 18)
  /-- SUB, R271: Subtracts the top entry from the second and sets flags. Operands: the processor. -/
  | sub (c : Fin 18)
  /-- ADC, R271: Adds with carry. Operands: the processor. -/
  | adc (c : Fin 18)
  /-- SBC, R271: Subtracts with borrow. Operands: the processor. -/
  | sbc (c : Fin 18)
  /-- NEG, R271: Negates the top entry. Operands: the processor. -/
  | neg (c : Fin 18)
  /-- INC, R271: Adds one to the top entry. Operands: the processor. -/
  | inc (c : Fin 18)
  /-- DEC, R271: Subtracts one from the top entry. Operands: the processor. -/
  | dec (c : Fin 18)
  /-- ABS, R271: Takes the absolute value of the top entry. Operands: the processor. -/
  | abs (c : Fin 18)
  /-- AND, R271: Bitwise AND of the top two entries. Operands: the processor. -/
  | and (c : Fin 18)
  /-- OR, R271: Bitwise OR of the top two entries. Operands: the processor. -/
  | or (c : Fin 18)
  /-- XOR, R271: Bitwise XOR of the top two entries. Operands: the processor. -/
  | xor (c : Fin 18)
  /-- NOT, R271: Bitwise inverse of the top entry. Operands: the processor. -/
  | not (c : Fin 18)
  /-- SHL, R271: Shifts left by the count on top. Operands: the processor. -/
  | shl (c : Fin 18)
  /-- SHR, R271: Shifts right logically. Operands: the processor. -/
  | shr (c : Fin 18)
  /-- SAR, R271: Shifts right arithmetically. Operands: the processor. -/
  | sar (c : Fin 18)
  /-- ROR, R271: Rotates right. Operands: the processor. -/
  | ror (c : Fin 18)
  /-- CMP, R271: Sets flags from a − b and pops both. Operands: the processor. -/
  | cmp (c : Fin 18)
  /-- TST, R271: Sets flags from the top entry and pops it. Operands: the processor. -/
  | tst (c : Fin 18)
  /-- MIN, R271: Signed minimum of the top two entries. Operands: the processor. -/
  | min (c : Fin 18)
  /-- MAX, R271: Signed maximum of the top two entries. Operands: the processor. -/
  | max (c : Fin 18)
  /-- MINU, R271: Unsigned minimum. Operands: the processor. -/
  | minu (c : Fin 18)
  /-- MAXU, R271: Unsigned maximum. Operands: the processor. -/
  | maxu (c : Fin 18)
  /-- SEXTB, R271: Sign-extends bits 7:0. Operands: the processor. -/
  | sextb (c : Fin 18)
  /-- SEXTH, R271: Sign-extends bits 15:0. Operands: the processor. -/
  | sexth (c : Fin 18)
  /-- CLZ, R271: Counts leading zeros. Operands: the processor. -/
  | clz (c : Fin 18)
  /-- MUL, R272: Starts a signed 64-bit product that lands in PH:PL three cycles later. Operands: the processor. -/
  | mul (c : Fin 18)
  /-- MULU, R272: Starts an unsigned 64-bit product that lands in PH:PL three cycles later. Operands: the processor. -/
  | mulu (c : Fin 18)
  /-- PRODUCT_LAND, R272: A multiplier product is written to PH and PL three cycles after its issue. Operands: the
  processor. -/
  | productLand (c : Fin 18)
  /-- MFPH, R272: Pushes PH. Operands: the processor. -/
  | mfph (c : Fin 18)
  /-- MFPL, R272: Pushes PL. Operands: the processor. -/
  | mfpl (c : Fin 18)
  /-- DIV, R274: Issues a long signed division. Operands: the processor. -/
  | div (c : Fin 18)
  /-- DIVU, R274: Issues a long unsigned division. Operands: the processor. -/
  | divu (c : Fin 18)
  /-- REM, R274: Issues a long signed remainder. Operands: the processor. -/
  | rem (c : Fin 18)
  /-- REMU, R274: Issues a long unsigned remainder. Operands: the processor. -/
  | remu (c : Fin 18)
  /-- SQRT, R274: Issues a long integer square root. Operands: the processor. -/
  | sqrt (c : Fin 18)
  /-- LONG_RETIRE, R295: A long instruction retires, writes its outputs and commits its shadow. Operands: the
  processor. -/
  | longRetire (c : Fin 18)
  /-- LDW, R271: Loads a word from data space. Operands: the processor. -/
  | ldw (c : Fin 18)
  /-- LDH, R271: Loads a zero-extended half-word. Operands: the processor. -/
  | ldh (c : Fin 18)
  /-- LDHS, R271: Loads a sign-extended half-word. Operands: the processor. -/
  | ldhs (c : Fin 18)
  /-- LDB, R271: Loads a zero-extended byte. Operands: the processor. -/
  | ldb (c : Fin 18)
  /-- LDBS, R271: Loads a sign-extended byte. Operands: the processor. -/
  | ldbs (c : Fin 18)
  /-- STW, R304: Stores a word through the store buffer. Operands: the processor. -/
  | stw (c : Fin 18)
  /-- STH, R304: Stores a half-word through the store buffer. Operands: the processor. -/
  | sth (c : Fin 18)
  /-- STB, R304: Stores a byte through the store buffer. Operands: the processor. -/
  | stb (c : Fin 18)
  /-- LD_OFF, R271: Loads from the address plus a scaled offset. Operands: the processor. -/
  | ldOff (c : Fin 18)
  /-- ST_OFF, R271: Stores to the address plus a scaled offset. Operands: the processor. -/
  | stOff (c : Fin 18)
  /-- LDP, R261: Reads a word of instruction space. Operands: the processor. -/
  | ldp (c : Fin 18)
  /-- INS, R262: Reads an I/O word at the address on the stack. Operands: the processor. -/
  | ins (c : Fin 18)
  /-- OUTS, R262: Writes an I/O word at the address on the stack. Operands: the processor. -/
  | outs (c : Fin 18)
  /-- IN, R262: Reads an I/O word at an immediate address. Operands: the processor. -/
  | ioIn (c : Fin 18)
  /-- OUT, R262: Writes an I/O word at an immediate address. Operands: the processor. -/
  | ioOut (c : Fin 18)
  /-- MOVB, R273: Issues a long byte copy in data space. Operands: the processor. -/
  | movb (c : Fin 18)
  /-- RET, R271: Jumps to the address popped from the return stack. Operands: the processor. -/
  | ret (c : Fin 18)
  /-- JMPS, R271: Jumps to the address on the data stack. Operands: the processor. -/
  | jmps (c : Fin 18)
  /-- CALLS, R271: Calls the address on the data stack. Operands: the processor. -/
  | calls (c : Fin 18)
  /-- RETI, R303: Pops the frame and returns from an exception or interrupt. Operands: the processor. -/
  | reti (c : Fin 18)
  /-- BARRIER, R296: Waits until no long instruction is in flight and the store buffer is empty. Operands: the
  processor. -/
  | barrier (c : Fin 18)
  /-- WAIT, R301: Waits until an enabled interrupt source is pending. Operands: the processor. -/
  | wait (c : Fin 18)
  /-- TRAP, R271: Raises TRAP with the value popped. Operands: the processor. -/
  | trap (c : Fin 18)
  /-- BREAK, R271: Raises BREAK. Operands: the processor. -/
  | break_ (c : Fin 18)
  /-- LEXIT, R278: Pops the innermost loop. Operands: the processor. -/
  | lexit (c : Fin 18)
  /-- PUSHI, R271: Pushes a sign-extended immediate. Operands: the processor. -/
  | pushi (c : Fin 18)
  /-- BR, R266: Branches always. Operands: the processor. -/
  | br (c : Fin 18)
  /-- BEQ, R266: Branches when Z is 1. Operands: the processor. -/
  | beq (c : Fin 18)
  /-- BNE, R266: Branches when Z is 0. Operands: the processor. -/
  | bne (c : Fin 18)
  /-- BLT, R266: Branches when N differs from V. Operands: the processor. -/
  | blt (c : Fin 18)
  /-- BGE, R266: Branches when N equals V. Operands: the processor. -/
  | bge (c : Fin 18)
  /-- BLTU, R266: Branches when C is 0. Operands: the processor. -/
  | bltu (c : Fin 18)
  /-- BGEU, R266: Branches when C is 1. Operands: the processor. -/
  | bgeu (c : Fin 18)
  /-- CALL, R266: Pushes the return address and branches. Operands: the processor. -/
  | call (c : Fin 18)
  /-- RSR, R255: Reads a special register. Operands: the processor. -/
  | rsr (c : Fin 18)
  /-- WSR, R257: Writes a special register, spilling all entries for a stack pointer. Operands: the processor. -/
  | wsr (c : Fin 18)
  /-- LOOP, R276: Starts a hardware loop over the following body. Operands: the processor. -/
  | loop (c : Fin 18)
  /-- CUSTOM, R281: Runs a custom slot's microcode as a long instruction. Operands: the processor. -/
  | custom (c : Fin 18)
  /-- SPILLALL, R271: Spills every hardware entry of both stacks. Operands: the processor. -/
  | spillall (c : Fin 18)
  /-- POPCNT, R271: Counts bits set. Operands: the processor. -/
  | popcnt (c : Fin 18)
  /-- BSWAP, R271: Reverses byte order. Operands: the processor. -/
  | bswap (c : Fin 18)
  /-- CTZ, R271: Counts trailing zeros. Operands: the processor. -/
  | ctz (c : Fin 18)
  /-- INTERRUPT_ENTRY, R302: A recognised interrupt abandons any long instruction and enters its handler 14 cycles
  later. Operands: the bytes or micro-ops that an abandoned MOVB or CUSTOM had done. -/
  | interruptEntry (c : Fin 18) (done : Nat)
  /-- STORE_DRAIN, R304: A committed store-buffer entry drains to cluster data memory when its bank grants it. -/
  | storeDrain (c : Fin 16)
  /-- WATCHDOG_EXPIRY, R309: A core's watchdog expires, the core fails and WATCHDOG is raised. -/
  | watchdogExpiry (c : Fin 16)
  /-- CORE_CLOCK, R309: Cluster control finds a core's clock stopped for 1 µs and fails the core. -/
  | coreClock (c : Fin 16)
  /-- CORE_DET_WRITE, R307: A write of CORE_CTL.DET takes effect once long instructions retire and the buffer is
  empty. Operands: the word written to CORE_CTL. -/
  | coreDetWrite (c : Fin 18) (v : Word)
  /-- CORE_RING, R313: A write of CORE_RING.GO sets the partner's DOORBELL. -/
  | coreRing (c : Fin 16) (v : Word)
  /-- CORE_WDOG_WRITE, R313: A write of CORE_WDOG sets the period and restarts the watchdog. -/
  | coreWdogWrite (c : Fin 18) (v : Word)
  /-- CORECTL_RUN, R315: A write of CLn_CORECTLc.RUN halts the core as an entry without frame, or resumes it.
  Operands: done as for INTERRUPT_ENTRY. -/
  | corectlRun (p : Side) (c : Fin 16) (run : Bool) (done : Nat)
  /-- CORECTL_RST, R314: A write of CLn_CORECTLc.RST resets the core's stacks and local registers. -/
  | corectlRst (p : Side) (c : Fin 16)
  /-- ISACFG_WRITE, R284: A write of CLn_ISACFG changes a halted core's encoding or is refused. -/
  | isacfgWrite (p : Side) (n : Fin 8) (v : Word)
  /-- UCDATA0_WRITE, R286: A write of CLn_UCDATA0 stages the low half of a decode-table entry. -/
  | ucdata0Write (p : Side) (n : Fin 8) (v : Word)
  /-- UCDATA0_READ, R286: A read of CLn_UCDATA0 snapshots the selected entry. -/
  | ucdata0Read (p : Side) (n : Fin 8)
  /-- UCDATA1_WRITE, R286: A write of CLn_UCDATA1 stores the entry for a halted core and advances INDEX. -/
  | ucdata1Write (p : Side) (n : Fin 8) (v : Word)
  /-- UCDATA1_READ, R286: A read of CLn_UCDATA1 returns the snapshot's high half and advances INDEX. -/
  | ucdata1Read (p : Side) (n : Fin 8)
  /-- PAIR_WRITE, R316: A write of CLn_PAIR names a standby pair or is refused when encodings differ. -/
  | pairWrite (p : Side) (n : Fin 8) (v : Word)
  /-- MBX_SEND, R263: A write of MBX_CTL.SEND hands the outbound words to the Keeper. Operands: the word written to
  MBX_CTL. -/
  | mbxSend (c : Fin 16) (v : Word)
  /-- CORE_MESSAGE, R354: Topcoat takes a core's mailbox message and queues it as an EVENT of KIND 1 to subscribed
  ports. -/
  | coreMessage (c : Fin 16)
  /-- READ, R319: A host READ transaction returns data from the port address space. Operands: port and address, how
  many words are read, and how many of them are not ready in time. -/
  | read (port : Fin 4) (a : BitVec 32) (words late : Nat)
  /-- WRITE, R319: A host WRITE transaction writes whole words into the port address space. Operands: port and
  address, the whole words written, whether bytes of a partial word follow. -/
  | write (port : Fin 4) (a : BitVec 32) (words : List (BitVec 32)) (part : Bool)
  /-- TWO_WIRE_HOST_ACCESS, R321: A two-wire host read or write is served through the port's target address. Operands:
  port, the target address sent, the bytes written (the first four the port address), how many bytes are read. -/
  | twoWireHostAccess (port : Fin 4) (target : BitVec 7) (b : List (BitVec 8)) (count : Nat)
  /-- INPROD_WRITE, R331: A host write of HPn_INPROD announces inbound slots for Topcoat. Operands: port, the word
  written. -/
  | inprodWrite (port : Fin 4) (v : BitVec 32)
  /-- SLOT_TAKE, R342: On its round-robin turn Topcoat takes one inbound slot of a port and advances HPn_INACK. -/
  | slotTake
  /-- OUTACK_WRITE, R332: A host write of HPn_OUTACK frees outbound slots. Operands: port, the word written. -/
  | outackWrite (port : Fin 4) (v : BitVec 32)
  /-- ABORT, R338: A write of HPn_CTL.ABORT discards waiting messages and sends a STATE_REPORT. Operands: port, the
  word written to HPn_CTL. -/
  | abort (port : Fin 4) (v : BitVec 32)
  /-- ATTN_CLEAR, R326: A host write clearing RULE or WAKE releases HATTNn_N when no condition remains. Operands:
  port, the word written to HPn_ATTN. -/
  | attnClear (port : Fin 4) (v : BitVec 32)
  /-- HPN_CFG_WRITE, R322: A write of HPn_CFG takes effect when its transaction ends. Operands: port, the word
  written. -/
  | hpnCfgWrite (port : Fin 4) (v : BitVec 32)
  /-- HWAKE_TAKEN, R327: HWAKEn high for 1 µs is taken, raising the target and setting WAKE. Operands: port n of
  HWAKEn. -/
  | hwakeTaken (port : Fin 4)
  /-- HWAKE_RELEASE, R431: HWAKEn falls and the target is recomputed. Operands: port n of HWAKEn. -/
  | hwakeRelease (port : Fin 4)
  /-- HELLO, R336: Opens or resumes a session at the highest common version. Operands: the port whose next message is
  executed. -/
  | hello (port : Fin 4)
  /-- IDENTIFY, R345: Returns identity, firmware and key information. Operands: the port whose next message is
  executed. -/
  | identify (port : Fin 4)
  /-- STATE_REPORT, R346: Returns the port's state, holdings, batches and alarms. Operands: the port whose next
  message is executed. -/
  | stateReport (port : Fin 4)
  /-- TIME_SET, R70: Claims a time for an instant and has Float judge it. Operands: the port whose next message is
  executed. -/
  | timeSet (port : Fin 4)
  /-- TIME_GET, R345: Returns the GTS, Float state and source. Operands: the port whose next message is executed. -/
  | timeGet (port : Fin 4)
  /-- MODE_SET, R436: Sets PWR_BASE or the port's floor and replies once the mode is reached or refused. Operands: the
  port whose next message is executed. -/
  | modeSet (port : Fin 4)
  /-- LANE_CONFIG, R347: Writes a block's registers and commits them. Operands: the port whose next message is
  executed. -/
  | laneConfig (port : Fin 4)
  /-- SCHEDULE_LOAD, R347: Writes a tile's schedule entries and commits them. Operands: the port whose next message is
  executed. -/
  | scheduleLoad (port : Fin 4)
  /-- RULE_LOAD, R153: Checks a rule image and loads and commits its engines. Operands: the port whose next message is
  executed. -/
  | ruleLoad (port : Fin 4)
  /-- MODEL_LOAD, R348: Writes model package bytes into weight SRAM and commits the slot. Operands: the port whose
  next message is executed. -/
  | modelLoad (port : Fin 4)
  /-- BATCH_OPEN, R349: Arms and opens a batch handle. Operands: the port whose next message is executed. -/
  | batchOpen (port : Fin 4)
  /-- BATCH_CLOSE, R349: Closes or releases a batch handle. Operands: the port whose next message is executed. -/
  | batchClose (port : Fin 4)
  /-- WINDOW_MAP, R350: Builds the port's window tables and commits them. Operands: the port whose next message is
  executed. -/
  | windowMap (port : Fin 4)
  /-- LOG_READ, R351: Returns bytes of a voyage-log block. Operands: the port whose next message is executed, and the
  block that the flash returns with its sector, none where the log holds none of that LSN. -/
  | logRead (port : Fin 4) (data : Option (Nat × List (BitVec 8)))
  /-- ALARM, R355: A host acknowledges an alarm ID and it stops being pending. Operands: the port whose next message
  is executed. -/
  | alarm (port : Fin 4)
  /-- RESOURCE_CLAIM, R356: Claims a range of units all or nothing. Operands: the port whose next message is executed. -/
  | resourceClaim (port : Fin 4)
  /-- RESOURCE_RELEASE, R356: Releases a range of held units. Operands: the port whose next message is executed. -/
  | resourceRelease (port : Fin 4)
  /-- ROLE_SET_QUERY, R357: Returns the role table without change. Operands: the port whose next message is executed. -/
  | roleSetQuery (port : Fin 4)
  /-- ROLE_SET_ASSIGN, R357: Moves a role to a held cluster under an epoch compare. Operands: the port whose next
  message is executed. -/
  | roleSetAssign (port : Fin 4)
  /-- ROLE_SET_CLEAR, R357: Unassigns a role under an epoch compare. Operands: the port whose next message is
  executed. -/
  | roleSetClear (port : Fin 4)
  /-- ROLE_SET_MESH, R496: Takes or clears this node's mesh role and floods a ROLE frame. Operands: port the port
  whose next message is executed. -/
  | roleSetMesh (port : Fin 4)
  /-- MESH_SEND_NODE, R497: Queues a message to a core of a mesh node. Operands: port the port whose next message is
  executed. -/
  | meshSendNode (port : Fin 4)
  /-- MESH_SEND_ROLE, R497: Queues a message to the node holding a mesh role. Operands: port the port whose next
  message is executed. -/
  | meshSendRole (port : Fin 4)
  /-- MESH_SEND_LOCAL, R358: Delivers data to a local core's MBX_IN. Operands: the port whose next message is
  executed. -/
  | meshSendLocal (port : Fin 4)
  /-- MESH_SEND_GANG, R485: Sends data to a gang partner's core as an MBX frame. Operands: port the port whose next
  message is executed. -/
  | meshSendGang (port : Fin 4)
  /-- MESH_SEND_REPORT, R498: Raises a host-defined mesh report. Operands: port the port whose next message is
  executed. -/
  | meshSendReport (port : Fin 4)
  /-- UPDATE_BEGIN, R512: Starts an update session targeting the inactive slot. Operands: the port whose next message
  is executed. -/
  | updateBegin (port : Fin 4)
  /-- UPDATE_CHUNK, R513: Writes image bytes into the target slot. Operands: the port whose next message is executed. -/
  | updateChunk (port : Fin 4)
  /-- UPDATE_VERIFY, R514: Checks the downloaded image and sets the verified state. Operands: the port whose next
  message is executed. -/
  | updateVerify (port : Fin 4)
  /-- UPDATE_ACTIVATE, R515: Activates the verified image by its KIND. Operands: the port whose next message is
  executed. -/
  | updateActivate (port : Fin 4)
  /-- UPDATE_CONFIRM, R516: Confirms a trial image and raises the floor. Operands: the port whose next message is
  executed. -/
  | updateConfirm (port : Fin 4)
  /-- ACTIVATE_RESTART, R515: After the host acknowledges the ACTIVATE reply or 100 ms pass, Topcoat asks Undercoat to
  restart it. -/
  | activateRestart
  /-- EVENT, R353: Topcoat copies a package event-queue record to each subscribed port's queue and sends EVENT or
  ALARM. -/
  | event
  /-- FAULT_REPORT, R352: Topcoat takes a FAULT record and sends FAULT_REPORT to subscribed ports. -/
  | faultReport
  /-- TOPCOAT_RESTART, R360: Undercoat restarts Topcoat, which resumes sessions and sets TCRST. -/
  | topcoatRestart
  /-- TWB_TRANSACTION_START, R367: The controller starts the next ready transaction when the bus is free. Operands:
  lost: another controller wins arbitration. -/
  | twbTransactionStart (n : Fin 8) (lost : Bool)
  /-- TWB_TRANSACTION_END, R366: A transaction ends with its bytes or an error and delivers its acquisition. -/
  | twbTransactionEnd (n : Fin 8) (r : BusEnd)
  /-- TWB_TARGET_WRITE, R369: A remote controller's write enters the staged bytes into TDATA at its end. Operands: ok
  false where the write ends in an error. -/
  | twbTargetWrite (n : Fin 8) (bytes : List (BitVec 8)) (ok : Bool)
  /-- TWB_TARGET_READ, R369: A remote controller's read copies TDATA and is sent from the index. Operands: the bytes
  that the remote controller takes. -/
  | twbTargetRead (n : Fin 8) (count : Nat)
  /-- TWB_TIMEOUT, R372: SCL held low beyond the limit ends the transaction with TIMEOUT. -/
  | twbTimeout (n : Fin 8)
  /-- BUS_CLEAR, R374: A bus clear clocks SCL up to nine times and ends with a STOP. -/
  | busClear (n : Fin 8) (r : ClearEnd)
  /-- BUS_CLEAR_RETRY, R375: Every RETRY ms a stuck bus tries a clear again. -/
  | busClearRetry (n : Fin 8) (r : ClearEnd)
  /-- ALERT_RESPONSE, R376: With SALERTn_N low the controller reads the alert response address and queues it. -/
  | alertResponse (n : Fin 8) (r : AlertEnd)
  /-- ALERT_POP, R377: A write of TWBn_ALERT.POP removes the head of the alert queue. -/
  | alertPop (p : Side) (n : Fin 8) (v : Word)
  /-- TWB_MAN_GO, R385: A write of TWBn_MAN.GO queues a manual transaction. -/
  | twbManGo (p : Side) (n : Fin 8) (v : Word)
  /-- TWB_COMMIT, R379: A write of TWBn_COMMIT.GO checks the set and makes it pending or refuses it. -/
  | twbCommit (p : Side) (n : Fin 8) (v : Word)
  /-- TWB_SET_SWITCH, R379: A pending TWB set takes effect when the controller is idle. -/
  | twbSetSwitch (n : Fin 8)
  /-- CSP_FRAME_START, R398: The port starts the next waiting frame. -/
  | cspFrameStart (n : Fin 6)
  /-- CSP_FRAME_END, R392: A frame's chip select rises and its bytes or error are delivered. Operands: the bytes that
  a read frame takes. -/
  | cspFrameEnd (n : Fin 6) (data : List (BitVec 8))
  /-- NOSTROBE, R391: No DQS edge within STO periods ends the frame with NOSTROBE. -/
  | nostrobe (n : Fin 6)
  /-- POLL_RETRY, R394: A poll frame whose byte does not match is run again after INTERVAL. -/
  | pollRetry (n : Fin 6)
  /-- PTIMEOUT, R394: A poll without a match within PTOUT ends with PTIMEOUT. -/
  | ptimeout (n : Fin 6)
  /-- CSP_MAN_GO, R399: A write of CSPn_MAN.GO queues a manual frame or is refused. -/
  | cspManGo (p : Side) (n : Fin 6) (v : Word)
  /-- CSP_RESUME, R400: After wake a suspended frame or kept poll runs before any other frame. -/
  | cspResume (n : Fin 6)
  /-- CSP_TARGET_WRITE, R402: A remote WRITE enters its staged bytes into TDATA when CS0_N rises. -/
  | cspTargetWrite (n : Fin 6) (index : BitVec 8) (bytes : List (BitVec 8))
  /-- CSP_TARGET_READ, R402: A remote READ copies TDATA and sends from the index. -/
  | cspTargetRead (n : Fin 6) (index : BitVec 8) (count : Nat)
  /-- CSP_COMMIT, R403: A write of CSPn_COMMIT.GO checks the set and makes it pending or refuses it. -/
  | cspCommit (p : Side) (n : Fin 6) (v : Word)
  /-- CSP_SET_SWITCH, R403: A pending CSP set takes effect when no frame or transfer is in progress. -/
  | cspSetSwitch (n : Fin 6)
  /-- TMR_ARM, R412: A write of TMRn_CTL.ARM checks pins, commits the set and starts counting from 0. -/
  | tmrArm (u : TimerUser) (n : Fin 32) (v : Word)
  /-- TMR_STOP, R414: A write of TMRn_CTL.STOP clears RUNNING without expiry. -/
  | tmrStop (u : TimerUser) (n : Fin 32) (v : Word)
  /-- TMR_EXPIRY, R413: COUNT reaches LIMIT, DONE is set and the timer stops. -/
  | tmrExpiry (n : Fin 32)
  /-- TMR_CAPTURE, R416: A selected edge on the capture pin pushes COUNT onto the queue. -/
  | tmrCapture (n : Fin 32) (rise : Bool)
  /-- TMR_CAP_READ, R419: A read of TMRn_CAP returns the head and removes it for the interrupt receiver. -/
  | tmrCapRead (u : TimerUser) (n : Fin 32)
  /-- PWR_BASE_WRITE, R432: A Keeper write or rule MODE request sets PWR_BASE and recomputes the target. Operands: p
  the processor that writes, none for a MODE request that has arrived; v the word written. -/
  | pwrBaseWrite (p : Option Side) (v : Word)
  /-- PWR_FLOOR_WRITE, R432: A write of PWR_FLOOR sets or clears a port's floor and recomputes the target. Operands: p
  the processor, v the word written. -/
  | pwrFloorWrite (p : Side) (v : Word)
  /-- BLOCK_ANSWER, R437: A block answers ACCEPT or REFUSE after DELAY, advancing or ending the entry. Operands: d the
  block, accept whether it is ready to accept, moved the bytes that a suspended transfer has moved. -/
  | blockAnswer (d : Fin 65536) (accept : Bool) (moved : List (BitVec 8))
  /-- DELAY_OVERRUN, R438: A block past its declared maximum is taken to refuse with OVERRUN and PWR_DELAY is raised.
  Operands: d the block. -/
  | delayOverrun (d : Fin 65536)
  /-- POWER_DOWN_COMPLETE, R442: The power-down of an entry completes and a latched wake starts at once. -/
  | powerDownComplete
  /-- ENTRY_RETRY, R437: After RETRY ms a refused entry is tried again. -/
  | entryRetry
  /-- WAKE_REPLAY, R442: A latched wake event is replayed to its awake consumer and cleared. -/
  | wakeReplay
  /-- DEMAND_LAPSE, R433: A demand lapses DWELL ms after its replay and the target is recomputed. -/
  | demandLapse
  /-- WAKE_GRANT, R447: The admission controller grants a waiting wake request credits. Operands: rail 0 region N, 1
  region S, 2 package. -/
  | wakeGrant (rail : Fin 3)
  /-- DOMAIN_READY, R445: A woken domain is ready after its wake delay and releases its credits. Operands: d the
  domain's block identifier. -/
  | domainReady (d : Fin 65536)
  /-- KEEP_WAKE_PIN, R430: An enabled KEEP wake-pin edge is latched and wakes Glanyx. Operands: k the pin EIOk, rise
  the edge. -/
  | keepWakePin (k : Fin 8) (rise : Bool)
  /-- KEEP_ALARM, R451: The KEEP alarm fires at its SEC, clears EN and latches source 45. -/
  | keepAlarm
  /-- PWR_COMMIT, R450: A write of PWR_COMMIT.GO checks and commits WATCH, SKIM and retention settings. Operands: p
  the processor, v the word written. -/
  | pwrCommit (p : Side) (v : Word)
  /-- PWR_RESTORE, R449: A write of PWR_RESTORE.GO restores a cluster's saved list and starts its cores. Operands: p
  the processor, v the word written. -/
  | pwrRestore (p : Side) (v : Word)
  /-- PWR_DISCARD, R449: A write of PWR_RESTORE.DISCARD clears the saved list and starts the cores. Operands: p the
  processor, v the word written. -/
  | pwrDiscard (p : Side) (v : Word)
  /-- VMAIN_WARN, R460: VMAIN falling through WARN starts a forced descent to KEEP. -/
  | vmainWarn
  /-- FORCED_DESCENT_DONE, R460: The forced descent completes with the core die isolated and VCORE off. Operands:
  records whether the Keeper's session records were complete in time. -/
  | forcedDescentDone (records : Bool)
  /-- RAIL_FAIL, R468: A rail failure during power-down jumps to the safe end state and records it. Operands: rail and
  step as PWR_DOWNFAULT codes them, records whether the session records are complete. -/
  | railFail (rail : Fin 6) (step : Fin 9) (records : Bool)
  /-- RAIL_FAIL_RUNNING, R467: A VCORE or VIO rail failing outside a power-down starts a forced descent. Operands:
  rail 0 VCORE, 1 to 4 VIOA to VIOD. -/
  | railFailRunning (rail : Fin 5)
  /-- SAFE_END_RESTART, R469: 100 ms after a safe end state with VMAIN valid, PWR starts the core die again. -/
  | safeEndRestart
  /-- VMAIN_RISE, R464: VMAIN rising above 2.65 V starts validation. -/
  | vmainRise
  /-- VMAIN_VALIDATED, R464: VMAIN validated after its validation time latches source 46 when returning from absence. -/
  | vmainValidated
  /-- SUPPLY_SOURCE_CHANGE, R457: A VBAK LOW or DEAD crossing moves the always-on set to the next source. Operands:
  whether VBAK is now LOW and DEAD. -/
  | supplySourceChange (low dead : Bool)
  /-- VCORE_STEP, R459: A VCORE step changes voltage and clocks in the safe order. -/
  | vcoreStep
  /-- VCORE_STEP_DONE, R459: VCORE settles within 1 % and the processor clocks are raised. -/
  | vcoreStepDone
  /-- VIO_LEVEL_SET, R455: A VIO bank rising above 1.0 V is set to 3.3 V or 1.8 V. Operands: bank VIOA to VIOD, v33
  whether it reaches 2.4 V within 1 ms. -/
  | vioLevelSet (bank : Fin 4) (v33 : Bool)
  /-- VPACK_CHANGE, R470: VPACK leaving or returning to its range resets the sense die or allows training. Operands:
  ok whether VPACK is good. -/
  | vpackChange (ok : Bool)
  /-- FLX_FRAME_RECEIVE, R478: A Flotex frame is received, checked, taken and forwarded downstream. Operands: b the
  bytes of the frame, ago how many ps before its first STB edge was captured. -/
  | flxFrameReceive (b : List (BitVec 8)) (ago : Nat)
  /-- TRAIN, R479: After 100 µs without sending, a sender sends a TRAIN frame. -/
  | train
  /-- FLX_LINK_DOWN, R479: CRC failures, idle STB or low RDY take a link down and raise FLX_LINK_A or FLX_LINK_B.
  Operands: a FLX_A (RDY low for 1 ms), else FLX_B (STB idle for 1 ms). -/
  | flxLinkDown (a : Bool)
  /-- LEAD, R480: A package sends its LEAD claim frame. -/
  | lead
  /-- CHAIN_HEAD_LEAD, R481: A package with FLX_A up and FLX_B down for 1 s becomes lead of the chain. -/
  | chainHeadLead
  /-- LEAD_LOST, R481: A follower without a SYNC for 1 s treats the lead as lost. -/
  | leadLost
  /-- SYNC, R482: At each 125 ms instant a package launches a SYNC frame. -/
  | sync
  /-- RDY_ECHO_CAPTURE, R482: The sender captures the RDY echo and updates the link delay. Operands: round the ps from
  the launch of the SYNC frame to the capture of the echo. -/
  | rdyEchoCapture (round : Nat)
  /-- MBX_RESEND, R485: An MBX frame without MBXR within 100 µs is sent once more. -/
  | mbxResend
  /-- SCRIM_START, R475: The Link processor claims radio, pin and engine and starts Scrim. -/
  | scrimStart
  /-- BEACON, R490: A node sends a BEACON every BEACON s. -/
  | beacon
  /-- SCRIM_FRAME_RECEIVE, R488: A Scrim frame is authenticated, checked for replay and handled. Operands: f the
  frame, ago how many ps before the radio's strobe was captured. -/
  | scrimFrameReceive (f : ScrimFrame) (ago : Nat)
  /-- NEIGHBOUR_SWEEP, R491: Every 10 ms stale neighbours are removed, raising NEIGHBOUR_LOST for watched ones. -/
  | neighbourSweep
  /-- TIME_EXCHANGE, R494: Every 4 s a node sends TREQ to its parent. -/
  | timeExchange
  /-- ROLE_REFLOOD, R496: Every 600 s a role holder floods its ROLE frame again. -/
  | roleReflood
  /-- MESH_RESEND, R497: Without an OK ACK in 2 s the message is sent again, up to three sends. -/
  | meshResend
  /-- REPORT_WINDOW_CLOSE, R499: A coalescing entry's window closes and the entry becomes ready. -/
  | reportWindowClose
  /-- REPORT_SEND, R500: A ready entry is sent to the parent, or delivered at a gateway, on its round-robin turn. -/
  | reportSend
  /-- UNDERCOAT_BOOT, R510: Undercoat counts a boot, updates the journal and boots or recovers a slot. -/
  | undercoatBoot
  /-- MRAM_SLOT_WRITE, R505: A Keeper write to slot A or B is performed only in SERVICE and sets the dirty bit.
  Operands: the processor, the address, the word written. -/
  | mramSlotWrite (p : Side) (a : BitVec 32) (v : BitVec 32)
  /-- SEC_SCRUB, R519: A write of SEC_SCRUB.GO scrubs one 4 KiB MRAM block. Operands: the processor, the word written. -/
  | secScrub (p : Side) (v : BitVec 32)
  /-- SCRUB_HOURLY, R520: In SAMPLE and above Topcoat scrubs one block per hour. -/
  | scrubHourly
  /-- SCRUB_CATCHUP, R520: Behind the due block, Topcoat scrubs one block per 10 ms. -/
  | scrubCatchup
  /-- TAMPER, R524: An active level on an enabled tamper pin sets its latch and wakes Glanyx. Operands: the pin EIOk
  and the level that it comes to. -/
  | tamper (k : Fin 8) (high : Bool)
  /-- CLAIM, R531: A RES CLAIM records a range of units for an owner all or nothing. Operands: the word written to
  RES_CMD, whose COUNT counts. -/
  | claim (p : Side) (v : Word)
  /-- RES_RELEASE, R531: A RES RELEASE frees a range held by the owner. Operands: as for CLAIM. -/
  | resRelease (p : Side) (v : Word)
  /-- QUERY, R531: A RES QUERY returns the owner of a unit. Operands: as for CLAIM. -/
  | query (p : Side) (v : Word)
  /-- FAULT_ARRIVE, R537: A fault report enters the FAULT queue, or is counted lost when full. -/
  | faultArrive
  /-- FAULT_REC_SNAPSHOT, R537: A read of FAULT_REC0 snapshots the head record. -/
  | faultRecSnapshot (p : Side)
  /-- FAULT_POP, R537: A write of FAULT_POP.GO removes the head and may admit a FAULT_LOST record. -/
  | faultPop (p : Side) (v : Word)
  /-- ISLAND_CLOCK, R539: An island silent for 1 µs has failed and ISLAND_CLOCK is raised. -/
  | islandClock (island : Island)
  /-- ISLAND_RESTART, R539: A failed island's clock generator restarts from retention. -/
  | islandRestart (island : Island)
  /-- ENGINE_RECOMMIT, R538: Topcoat commits a parity-faulted engine again from its MRAM copy. -/
  | engineRecommit (e : Fin 256)
  /-- ALWAYS_ON_SET_LOST, R465: The keep capacitor runs out after more than 400 µs without VBAK or validated VMAIN,
  and the always-on set loses its state. -/
  | alwaysOnSetLost
  /-- SCRUB_DONE, R519: A scrub of one MRAM block completes within 0.5 ms, clearing SEC_SCRUB.BUSY and recording
  corrected or uncorrectable words. Operands: how many words were corrected, and the words of the block found
  uncorrectable. -/
  | scrubDone (corrected : Nat) (bad : List (Fin 512))
  /-- DEBUG_PORT_HALT, R545: In SERVICE a debug-port command halts or resumes a processor. Operands: the processor (0
  to 15 watch cores, 16 the Keeper, 17 the Link processor), whether it resumes, how far a long instruction
  abandoned had come. -/
  | debugPortHalt (c : Fin 18) (run : Bool) (done : Nat)
  /-- FLX_SENDER_UP, R479: A Flotex link comes up at the sender once RDY has been high for 100 µs. -/
  | flxSenderUp
  deriving DecidableEq, Repr

end Sys2Proof
end

