-- ==== Sys2Proof/Config.lean ====
section
/-! DEFINITION. What the spec leaves open: opaque constants that nothing can evaluate. A value that is open afresh each
time is `freeNat` applied to `State.free`, a counter of the model's own (log entry 5). -/

namespace Sys2Proof.Config

/-- A free number, by its index (log entry 5). -/
opaque freeNat : Nat → Nat
/-- The new frequency of Float's loop after a measurement, by its time constant in s and an index: the spec gives no gains
(log entry 17). -/
opaque loopRate : Nat → Nat → Nat
/-- The bytes of the Undercoat ROM, by their address: the spec gives no content (log entry 4). -/
opaque romByte : Nat → BitVec 8
/-- The 48 device-specific bits of the identity word, R504 (log entry 7). -/
opaque identityLow : BitVec 48
/-- The words of the device public key, R526 (log entry 7). -/
opaque devicePublicKey : Nat → BitVec 32
/-- How many records the package event queue holds beyond the first, R159: the spec gives no figure (log entry 5). -/
opaque eventQueueSize : Nat
/-- SHA-256 of a byte string: named by the spec, not defined by it (log entry 10). -/
opaque sha256 : List (BitVec 8) → List (BitVec 8)
/-- Whether an ECDSA P-256 signature verifies under a public key, by message, signature and key (log entry 10). -/
opaque ecdsaVerify : List (BitVec 8) → List (BitVec 8) → List (BitVec 8) → Bool
/-- The Triersor root key held in Undercoat, R507 (log entry 7). -/
opaque rootKey : List (BitVec 8)
/-- A field of a link profile's body, by its place in R474: the spec gives the body no layout (log entry 46). -/
opaque profileField : List (BitVec 8) → Nat → Nat
/-- A domain key unwrapped from a link profile's body under the device key, by its slot, R523; none where the integrity check
fails (log entries 10 and 46). -/
opaque unwrapKey : List (BitVec 8) → Nat → Option (List (BitVec 8))
/-- Where a Stipple layer's weight for an output, an input and a kernel step lies in its weight array, by layer type,
input count, output count and kernel: R166 gives no order (log entry 19). -/
opaque stpWeightAt : Nat → Nat → Nat → Nat → Nat → Nat → Nat → Nat
/-- Whether the 10 MHz RC oscillator ticks in a nanosecond, R409: it runs to 3 %, at no stated phase (log entry 21). -/
opaque rcTick : Nat → Bool
/-- The values of the 16-bit linear-feedback sequence of R411, by the number of arms made: the spec does not give the sequence
(log entry 32). -/
opaque ditherAt : Nat → BitVec 16
/-- The dummy cycles that the log's flash needs for the frame of a descriptor: a property of the device attached (log entry 24). -/
opaque flashDummy : Nat → Nat
/-- The calibrated pad constant of a Flotex link in ps, R482: the spec gives no figure (log entry 32). -/
opaque flxPadPs : Nat
/-- The hops left with which a Scrim flood begins, R493: the spec gives no figure (log entry 32). -/
opaque meshHops : Nat

end Sys2Proof.Config
end

