-- ==== Sys2Proof/Machine/RegMap.lean ====
section
/-! DEFINITION. The register map: every register of the package map of R30 with its address, and every field of it
with its bits, its access type (R6) and its reset value, transcribed from the spec's register tables. -/

namespace Sys2Proof.Machine

/-- The access types of a register field, R6. -/
inductive FTy where
  | rw | ro | wo | w1c | w1s | rc | sh
  deriving DecidableEq, Repr

/-- A register field: its bits hi down to lo, its type and its reset value. A reset the spec shows as x is 0 here
(DESIGN CHOICE, log entry 3). -/
structure Fld where
  hi : Nat
  lo : Nat
  ty : FTy
  rst : Nat
  deriving DecidableEq, Repr

/-- Base of cluster n's registers, R30. -/
def clBase (n : Nat) : Nat := 0x41000000 + 0x10000 * n
/-- Base of tile t = 4 * cluster + tile number, R31. -/
def tileBase (t : Nat) : Nat := clBase (t / 4) + 0x1000 * (t % 4 + 1)
/-- Base of lane l of tile t, R133. -/
def laneBase (t l : Nat) : Nat := tileBase t + 0x400 + 0x80 * l
/-- Base of the engine with rule ID e (cluster in bits 7:5, engine in bits 4:0), R2 and R173. -/
def engBase (e : Nat) : Nat := clBase (e / 32) + 0x8000 + 0x200 * (e % 32)
/-- Base of TWBn, R380. -/
def twbBase (n : Nat) : Nat := 0x42000000 + 0x1000 * n
/-- Base of CSPn, R404. -/
def cspBase (n : Nat) : Nat := 0x42010000 + 0x1000 * n
/-- Base of TMRn, R407. -/
def tmrBase (n : Nat) : Nat := 0x42020000 + 0x40 * n

/-- Address of PWR_STATUS, R450. -/
def PWR_STATUS.addr : Nat := 0x40000000
/-- Address of PWR_BASE, R450. -/
def PWR_BASE.addr : Nat := 0x40000004
/-- Address of PWR_FLOOR, R450. -/
def PWR_FLOOR.addr : Nat := 0x40000008
/-- Address of PWR_REFUSE, R450. -/
def PWR_REFUSE.addr : Nat := 0x4000000c
/-- Address of PWR_STAT, R450. -/
def PWR_STAT.addr : Nat := 0x40000010
/-- Address of PWR_CFG, R450. -/
def PWR_CFG.addr : Nat := 0x40000014
/-- Address of PWR_WATCH, R450. -/
def PWR_WATCH.addr : Nat := 0x40000018
/-- Address of PWR_SKIM, R450. -/
def PWR_SKIM.addr : Nat := 0x4000001c
/-- Address of PWR_RET, R450. -/
def PWR_RET.addr : Nat := 0x40000020
/-- Address of PWR_COMMIT, R450. -/
def PWR_COMMIT.addr : Nat := 0x40000024
/-- Address of PWR_KWAKE, R450. -/
def PWR_KWAKE.addr : Nat := 0x40000028
/-- Address of PWR_KALARM0, R450. -/
def PWR_KALARM0.addr : Nat := 0x4000002c
/-- Address of PWR_KALARM1, R450. -/
def PWR_KALARM1.addr : Nat := 0x40000030
/-- Address of PWR_WAKESRC, R450. -/
def PWR_WAKESRC.addr : Nat := 0x40000034
/-- Address of PWR_ADMIT, R450. -/
def PWR_ADMIT.addr : Nat := 0x40000038
/-- Address of PWR_RESTORE, R450. -/
def PWR_RESTORE.addr : Nat := 0x4000003c
/-- Address of PWR_RSTAT, R450. -/
def PWR_RSTAT.addr : Nat := 0x40000040
/-- Address of TB_CTL, R75. -/
def TB_CTL.addr : Nat := 0x40001000
/-- Address of TB_STATUS, R75. -/
def TB_STATUS.addr : Nat := 0x40001004
/-- Address of TB_COMMIT, R75. -/
def TB_COMMIT.addr : Nat := 0x40001008
/-- Address of TB_SLEW, R75. -/
def TB_SLEW.addr : Nat := 0x40001020
/-- Address of TB_STEPTHR, R75. -/
def TB_STEPTHR.addr : Nat := 0x40001024
/-- Address of TB_LOOP, R75. -/
def TB_LOOP.addr : Nat := 0x40001028
/-- Address of TB_REFCFG, R75. -/
def TB_REFCFG.addr : Nat := 0x40001030
/-- Address of TB_PPSCFG, R75. -/
def TB_PPSCFG.addr : Nat := 0x40001040
/-- Address of TB_PPSCNT, R75. -/
def TB_PPSCNT.addr : Nat := 0x40001050
/-- Address of TB_XK0, R75. -/
def TB_XK0.addr : Nat := 0x40001060
/-- Address of TB_XK1, R75. -/
def TB_XK1.addr : Nat := 0x40001064
/-- Address of TB_XK2, R75. -/
def TB_XK2.addr : Nat := 0x40001068
/-- Address of TB_XK3, R75. -/
def TB_XK3.addr : Nat := 0x4000106c
/-- Address of TB_XL0, R75. -/
def TB_XL0.addr : Nat := 0x40001070
/-- Address of TB_XL1, R75. -/
def TB_XL1.addr : Nat := 0x40001074
/-- Address of TB_XL2, R75. -/
def TB_XL2.addr : Nat := 0x40001078
/-- Address of TB_XL3, R75. -/
def TB_XL3.addr : Nat := 0x4000107c
/-- Address of TB_MODEL, R75. -/
def TB_MODEL.addr : Nat := 0x40001080
/-- Address of TB_TEMP, R75. -/
def TB_TEMP.addr : Nat := 0x40001084
/-- Address of TB_RATE, R75. -/
def TB_RATE.addr : Nat := 0x40001088
/-- Address of TB_FICTL, R75. -/
def TB_FICTL.addr (n : Nat) : Nat := 0x40001100 + 4 * n
/-- Address of HP_ID, R323. -/
def HP_ID.addr (n : Nat) : Nat := 0x40002000 + 0x400 * n + 0x0
/-- Address of HP_STATUS, R323. -/
def HP_STATUS.addr (n : Nat) : Nat := 0x40002000 + 0x400 * n + 0x4
/-- Address of HP_CFG, R323. -/
def HP_CFG.addr (n : Nat) : Nat := 0x40002000 + 0x400 * n + 0x8
/-- Address of HP_CTL, R323. -/
def HP_CTL.addr (n : Nat) : Nat := 0x40002000 + 0x400 * n + 0xc
/-- Address of HP_ATTN, R323. -/
def HP_ATTN.addr (n : Nat) : Nat := 0x40002000 + 0x400 * n + 0x10
/-- Address of HP_INPROD, R323. -/
def HP_INPROD.addr (n : Nat) : Nat := 0x40002000 + 0x400 * n + 0x14
/-- Address of HP_INACK, R323. -/
def HP_INACK.addr (n : Nat) : Nat := 0x40002000 + 0x400 * n + 0x18
/-- Address of HP_OUTPROD, R323. -/
def HP_OUTPROD.addr (n : Nat) : Nat := 0x40002000 + 0x400 * n + 0x1c
/-- Address of HP_OUTACK, R323. -/
def HP_OUTACK.addr (n : Nat) : Nat := 0x40002000 + 0x400 * n + 0x20
/-- Address of HP_ERR, R323. -/
def HP_ERR.addr (n : Nat) : Nat := 0x40002000 + 0x400 * n + 0x24
/-- Address of HP_INBASE, R323. -/
def HP_INBASE.addr (n : Nat) : Nat := 0x40002000 + 0x400 * n + 0x28
/-- Address of HP_OUTBASE, R323. -/
def HP_OUTBASE.addr (n : Nat) : Nat := 0x40002000 + 0x400 * n + 0x2c
/-- Address of HWU_TBASE, R216. -/
def HWU_TBASE.addr (n : Nat) : Nat := 0x40003000 + 0x10 * n + 0x0
/-- Address of HWU_WSIZE, R216. -/
def HWU_WSIZE.addr (n : Nat) : Nat := 0x40003000 + 0x10 * n + 0x4
/-- Address of HWU_FAULT, R216. -/
def HWU_FAULT.addr (n : Nat) : Nat := 0x40003000 + 0x10 * n + 0x8
/-- Address of HWU_FCNT, R216. -/
def HWU_FCNT.addr (n : Nat) : Nat := 0x40003000 + 0x10 * n + 0xc
/-- Address of HWU_COMMIT, R216. -/
def HWU_COMMIT.addr : Nat := 0x40003040
/-- Address of HWU_INV, R216. -/
def HWU_INV.addr : Nat := 0x40003044
/-- Address of RES_RESID, R540. -/
def RES_RESID.addr : Nat := 0x40004000
/-- Address of RES_OWNER, R540. -/
def RES_OWNER.addr : Nat := 0x40004004
/-- Address of RES_CMD, R540. -/
def RES_CMD.addr : Nat := 0x40004008
/-- Address of RES_RESULT, R540. -/
def RES_RESULT.addr : Nat := 0x4000400c
/-- Address of SEC_STATUS, R526. -/
def SEC_STATUS.addr : Nat := 0x40005000
/-- Address of SEC_SCRUB, R526. -/
def SEC_SCRUB.addr : Nat := 0x40005004
/-- Address of SEC_SCRUBSTAT, R526. -/
def SEC_SCRUBSTAT.addr : Nat := 0x40005008
/-- Address of SEC_TAMPCFG, R526. -/
def SEC_TAMPCFG.addr : Nat := 0x4000500c
/-- Address of SEC_TAMP, R526. -/
def SEC_TAMP.addr : Nat := 0x40005010
/-- Address of SEC_TAMPGTS, R526. -/
def SEC_TAMPGTS.addr (k : Nat) : Nat := 0x40005014 + 4 * k
/-- Address of SEC_DEVPUB, R526. -/
def SEC_DEVPUB.addr (k : Nat) : Nat := 0x40005040 + 4 * k
/-- Address of ID_WORD0, R504. -/
def ID_WORD0.addr : Nat := 0x40006000
/-- Address of ID_WORD1, R504. -/
def ID_WORD1.addr : Nat := 0x40006004
/-- Address of SNS_STATUS, R244. -/
def SNS_STATUS.addr : Nat := 0x40007000
/-- Address of SNS_COMMIT, R244. -/
def SNS_COMMIT.addr : Nat := 0x40007004
/-- Address of SNS_LINKSTAT, R244. -/
def SNS_LINKSTAT.addr : Nat := 0x40007008
/-- Address of SNS_STAT, R244. -/
def SNS_STAT.addr : Nat := 0x4000700c
/-- Address of SNS_LAT, R244. -/
def SNS_LAT.addr : Nat := 0x40007010
/-- Address of SNS_OWCFG, R244. -/
def SNS_OWCFG.addr : Nat := 0x40007020
/-- Address of SNS_OWTH, R244. -/
def SNS_OWTH.addr : Nat := 0x40007024
/-- Address of SNS_OWSUS, R244. -/
def SNS_OWSUS.addr : Nat := 0x40007028
/-- Address of SNS_OWOPEN, R244. -/
def SNS_OWOPEN.addr : Nat := 0x4000702c
/-- Address of SNS_OWSUSP, R244. -/
def SNS_OWSUSP.addr : Nat := 0x40007030
/-- Address of SNS_OWTESTED, R244. -/
def SNS_OWTESTED.addr : Nat := 0x40007034
/-- Address of SNS_OWLAST, R244. -/
def SNS_OWLAST.addr : Nat := 0x40007038
/-- Address of SNS_OWRUN, R244. -/
def SNS_OWRUN.addr : Nat := 0x4000703c
/-- Address of SNS_OWFIX, R244. -/
def SNS_OWFIX.addr : Nat := 0x40007040
/-- Address of SNS_THCFG, R244. -/
def SNS_THCFG.addr : Nat := 0x40007048
/-- Address of SNS_ESTCFG, R244. -/
def SNS_ESTCFG.addr : Nat := 0x40007050
/-- Address of SNS_ESTISC, R244. -/
def SNS_ESTISC.addr : Nat := 0x40007054
/-- Address of SNS_ZREF, R244. -/
def SNS_ZREF.addr : Nat := 0x40007058
/-- Address of SNS_SOCT, R244. -/
def SNS_SOCT.addr (j : Nat) : Nat := 0x40007080 + 4 * j
/-- Address of SNS_EZ, R244. -/
def SNS_EZ.addr (k : Nat) : Nat := 0x40007100 + 0x10 * (k - 1) + 0
/-- Address of SNS_EV, R244. -/
def SNS_EV.addr (k : Nat) : Nat := 0x40007100 + 0x10 * (k - 1) + 4
/-- Address of SNS_ES, R244. -/
def SNS_ES.addr (k : Nat) : Nat := 0x40007100 + 0x10 * (k - 1) + 8
/-- Address of FLX_CTL, R501. -/
def FLX_CTL.addr : Nat := 0x40008000
/-- Address of FLX_STATUS, R501. -/
def FLX_STATUS.addr : Nat := 0x40008004
/-- Address of FLX_LEADID0, R501. -/
def FLX_LEADID0.addr : Nat := 0x40008008
/-- Address of FLX_LEADID1, R501. -/
def FLX_LEADID1.addr : Nat := 0x4000800c
/-- Address of FLX_DELAY, R501. -/
def FLX_DELAY.addr : Nat := 0x40008010
/-- Address of FLX_STAT, R501. -/
def FLX_STAT.addr : Nat := 0x40008014
/-- Address of SCR_STATUS, R501. -/
def SCR_STATUS.addr : Nat := 0x40008400
/-- Address of SCR_STAT, R501. -/
def SCR_STAT.addr : Nat := 0x40008404
/-- Address of SCR_NEIGH, R501. -/
def SCR_NEIGH.addr : Nat := 0x40008408
/-- Address of SCR_COAL, R501. -/
def SCR_COAL.addr : Nat := 0x4000840c
/-- Address of STP_CTL, R180. -/
def STP_CTL.addr : Nat := 0x40009000
/-- Address of STP_STATUS, R180. -/
def STP_STATUS.addr : Nat := 0x40009004
/-- Address of STP_COMMIT, R180. -/
def STP_COMMIT.addr : Nat := 0x40009008
/-- Address of STP_TRIG, R180. -/
def STP_TRIG.addr : Nat := 0x4000900c
/-- Address of STP_STAT, R180. -/
def STP_STAT.addr : Nat := 0x40009010
/-- Address of STP_SCFG, R180. -/
def STP_SCFG.addr (n : Nat) : Nat := 0x40009000 + 0x40 + 0x20 * n
/-- Address of STP_SBASE, R180. -/
def STP_SBASE.addr (n : Nat) : Nat := 0x40009000 + 0x44 + 0x20 * n
/-- Address of STP_SLEN, R180. -/
def STP_SLEN.addr (n : Nat) : Nat := 0x40009000 + 0x48 + 0x20 * n
/-- Address of STP_SPER, R180. -/
def STP_SPER.addr (n : Nat) : Nat := 0x40009000 + 0x4c + 0x20 * n
/-- Address of STP_SDTH, R180. -/
def STP_SDTH.addr (n : Nat) : Nat := 0x40009000 + 0x50 + 0x20 * n
/-- Address of STP_SRES, R180. -/
def STP_SRES.addr (n : Nat) : Nat := 0x40009000 + 0x54 + 0x20 * n
/-- Address of STP_SSTAT, R180. -/
def STP_SSTAT.addr (n : Nat) : Nat := 0x40009000 + 0x58 + 0x20 * n
/-- Address of LOG_CTL, R211. -/
def LOG_CTL.addr : Nat := 0x4000a000
/-- Address of LOG_STATUS, R211. -/
def LOG_STATUS.addr : Nat := 0x4000a004
/-- Address of LOG_RCOMMIT0, R211. -/
def LOG_RCOMMIT0.addr : Nat := 0x4000a008
/-- Address of LOG_RCOMMIT1, R211. -/
def LOG_RCOMMIT1.addr : Nat := 0x4000a00c
/-- Address of LOG_BCMD, R211. -/
def LOG_BCMD.addr : Nat := 0x4000a010
/-- Address of LOG_RET0, R211. -/
def LOG_RET0.addr : Nat := 0x4000a014
/-- Address of LOG_RET1, R211. -/
def LOG_RET1.addr : Nat := 0x4000a018
/-- Address of LOG_FCFG, R211. -/
def LOG_FCFG.addr : Nat := 0x4000a020
/-- Address of LOG_FBASE, R211. -/
def LOG_FBASE.addr : Nat := 0x4000a024
/-- Address of LOG_FSIZE, R211. -/
def LOG_FSIZE.addr : Nat := 0x4000a028
/-- Address of LOG_FHEAD, R211. -/
def LOG_FHEAD.addr : Nat := 0x4000a02c
/-- Address of LOG_FLSN, R211. -/
def LOG_FLSN.addr : Nat := 0x4000a030
/-- Address of LOG_FSTAT, R211. -/
def LOG_FSTAT.addr : Nat := 0x4000a034
/-- Address of LOG_RCFG, R211. -/
def LOG_RCFG.addr (r : Nat) : Nat := 0x4000A000 + 0x100 + 0x20 * r
/-- Address of LOG_RBASE, R211. -/
def LOG_RBASE.addr (r : Nat) : Nat := 0x4000A000 + 0x104 + 0x20 * r
/-- Address of LOG_RSIZE, R211. -/
def LOG_RSIZE.addr (r : Nat) : Nat := 0x4000A000 + 0x108 + 0x20 * r
/-- Address of LOG_RSEQ, R211. -/
def LOG_RSEQ.addr (r : Nat) : Nat := 0x4000A000 + 0x10c + 0x20 * r
/-- Address of LOG_ROLD, R211. -/
def LOG_ROLD.addr (r : Nat) : Nat := 0x4000A000 + 0x110 + 0x20 * r
/-- Address of LOG_RSTAT, R211. -/
def LOG_RSTAT.addr (r : Nat) : Nat := 0x4000A000 + 0x114 + 0x20 * r
/-- Address of LOG_BTA, R211. -/
def LOG_BTA.addr (h : Nat) : Nat := 0x4000A800 + 8 * h
/-- Address of LOG_BTB, R211. -/
def LOG_BTB.addr (h : Nat) : Nat := 0x4000A804 + 8 * h
/-- Address of FAULT_STATUS, R540. -/
def FAULT_STATUS.addr : Nat := 0x4000B000
/-- Address of FAULT_POP, R540. -/
def FAULT_POP.addr : Nat := 0x4000B008
/-- Address of FAULT_REC, R540. -/
def FAULT_REC.addr (k : Nat) : Nat := 0x4000B010 + 4 * k
/-- Address of CL_MADDR, R283. -/
def CL_MADDR.addr (n : Nat) : Nat := clBase n + 0x40
/-- Address of CL_ISACFG, R283. -/
def CL_ISACFG.addr (n : Nat) : Nat := clBase n + 0x48
/-- Address of CL_UCADDR, R283. -/
def CL_UCADDR.addr (n : Nat) : Nat := clBase n + 0x4c
/-- Address of CL_UCDATA0, R283. -/
def CL_UCDATA0.addr (n : Nat) : Nat := clBase n + 0x50
/-- Address of CL_UCDATA1, R283. -/
def CL_UCDATA1.addr (n : Nat) : Nat := clBase n + 0x54
/-- Address of CL_PAIR, R283. -/
def CL_PAIR.addr (n : Nat) : Nat := clBase n + 0x68
/-- Address of CL_PAIRSTAT, R283. -/
def CL_PAIRSTAT.addr (n : Nat) : Nat := clBase n + 0x6c
/-- Address of CL_MDATA, R35. -/
def CL_MDATA.addr (n : Nat) : Nat := clBase n + 0x44
/-- Address of CL_CORECTL, R314. -/
def CL_CORECTL.addr (n c : Nat) : Nat := clBase n + 0x60 + 4 * c
/-- Address of TILE_CFG, R128. -/
def TILE_CFG.addr (t : Nat) : Nat := tileBase t + 0x0
/-- Address of TILE_PERIOD, R128. -/
def TILE_PERIOD.addr (t : Nat) : Nat := tileBase t + 0x4
/-- Address of TILE_COMMIT, R128. -/
def TILE_COMMIT.addr (t : Nat) : Nat := tileBase t + 0x8
/-- Address of TILE_STATUS, R128. -/
def TILE_STATUS.addr (t : Nat) : Nat := tileBase t + 0xc
/-- Address of TILE_STAT, R128. -/
def TILE_STAT.addr (t : Nat) : Nat := tileBase t + 0x10
/-- Address of TILE_FIFOSTAT, R128. -/
def TILE_FIFOSTAT.addr (t : Nat) : Nat := tileBase t + 0x14
/-- Address of TILE_TRKCFG, R128. -/
def TILE_TRKCFG.addr (t : Nat) : Nat := tileBase t + 0x20
/-- Address of TILE_TRKG, R128. -/
def TILE_TRKG.addr (t : Nat) : Nat := tileBase t + 0x24
/-- Address of TILE_TRKST, R128. -/
def TILE_TRKST.addr (t : Nat) : Nat := tileBase t + 0x34
/-- Address of TILE_TRKB, R128. -/
def TILE_TRKB.addr (t i : Nat) : Nat := tileBase t + 0x28 + 4 * i
/-- Address of TILE_SCHA, R128. -/
def TILE_SCHA.addr (t e : Nat) : Nat := tileBase t + 0x100 + 8 * e
/-- Address of TILE_SCHB, R128. -/
def TILE_SCHB.addr (t e : Nat) : Nat := tileBase t + 0x104 + 8 * e
/-- Address of TILE_LSRC, R133. -/
def TILE_LSRC.addr (t l : Nat) : Nat := laneBase t l + 0x0
/-- Address of TILE_LCIC, R133. -/
def TILE_LCIC.addr (t l : Nat) : Nat := laneBase t l + 0x4
/-- Address of TILE_LBQC, R133. -/
def TILE_LBQC.addr (t l : Nat) : Nat := laneBase t l + 0x8
/-- Address of TILE_LRGLO, R133. -/
def TILE_LRGLO.addr (t l : Nat) : Nat := laneBase t l + 0x40
/-- Address of TILE_LRGHI, R133. -/
def TILE_LRGHI.addr (t l : Nat) : Nat := laneBase t l + 0x44
/-- Address of TILE_LST, R133. -/
def TILE_LST.addr (t l : Nat) : Nat := laneBase t l + 0x48
/-- Address of TILE_LAG, R133. -/
def TILE_LAG.addr (t l : Nat) : Nat := laneBase t l + 0x4c
/-- Address of TILE_LTQ, R133. -/
def TILE_LTQ.addr (t l : Nat) : Nat := laneBase t l + 0x50
/-- Address of TILE_LVAL, R133. -/
def TILE_LVAL.addr (t l : Nat) : Nat := laneBase t l + 0x60
/-- Address of TILE_LFLG, R133. -/
def TILE_LFLG.addr (t l : Nat) : Nat := laneBase t l + 0x64
/-- Address of TILE_LBASE, R133. -/
def TILE_LBASE.addr (t l : Nat) : Nat := laneBase t l + 0x68
/-- Address of TILE_LAVG, R133. -/
def TILE_LAVG.addr (t l : Nat) : Nat := laneBase t l + 0x6c
/-- Address of TILE_LCOEF, R133. -/
def TILE_LCOEF.addr (t l j : Nat) : Nat := laneBase t l + 0x10 + 4 * j
/-- Address of RS_ECFG, R173. -/
def RS_ECFG.addr (e : Nat) : Nat := engBase e + 0x0
/-- Address of RS_ESRCA, R173. -/
def RS_ESRCA.addr (e : Nat) : Nat := engBase e + 0x4
/-- Address of RS_ESRCB, R173. -/
def RS_ESRCB.addr (e : Nat) : Nat := engBase e + 0x8
/-- Address of RS_EPRED, R173. -/
def RS_EPRED.addr (e : Nat) : Nat := engBase e + 0xc
/-- Address of RS_EK1, R173. -/
def RS_EK1.addr (e : Nat) : Nat := engBase e + 0x10
/-- Address of RS_EK2, R173. -/
def RS_EK2.addr (e : Nat) : Nat := engBase e + 0x14
/-- Address of RS_ELIM, R173. -/
def RS_ELIM.addr (e : Nat) : Nat := engBase e + 0x18
/-- Address of RS_ETMR, R173. -/
def RS_ETMR.addr (e : Nat) : Nat := engBase e + 0x1c
/-- Address of RS_EACT, R173. -/
def RS_EACT.addr (e : Nat) : Nat := engBase e + 0x20
/-- Address of RS_ESTATE, R173. -/
def RS_ESTATE.addr (e : Nat) : Nat := engBase e + 0x30
/-- Address of RS_ECNT, R173. -/
def RS_ECNT.addr (e : Nat) : Nat := engBase e + 0x34
/-- Address of RS_TRANS, R173. -/
def RS_TRANS.addr (e k : Nat) : Nat := engBase e + 0x100 + 4 * k
/-- Address of RS_CTL, R173. -/
def RS_CTL.addr (n : Nat) : Nat := clBase n + 0xc000
/-- Address of RS_COMMIT, R173. -/
def RS_COMMIT.addr (n : Nat) : Nat := clBase n + 0xc004
/-- Address of RS_STATUS, R173. -/
def RS_STATUS.addr (n : Nat) : Nat := clBase n + 0xc008
/-- Address of RS_STAT, R173. -/
def RS_STAT.addr (n : Nat) : Nat := clBase n + 0xc00c
/-- Address of RS_FAULTS, R173. -/
def RS_FAULTS.addr (n : Nat) : Nat := clBase n + 0xc010
/-- Address of RS_COALST, R173. -/
def RS_COALST.addr (n : Nat) : Nat := clBase n + 0xc014
/-- Address of TWB_CFG, R380. -/
def TWB_CFG.addr (n : Nat) : Nat := twbBase n + 0x0
/-- Address of TWB_TIMING, R380. -/
def TWB_TIMING.addr (n : Nat) : Nat := twbBase n + 0x4
/-- Address of TWB_TIMING2, R380. -/
def TWB_TIMING2.addr (n : Nat) : Nat := twbBase n + 0x8
/-- Address of TWB_COMMIT, R380. -/
def TWB_COMMIT.addr (n : Nat) : Nat := twbBase n + 0xc
/-- Address of TWB_STATUS, R380. -/
def TWB_STATUS.addr (n : Nat) : Nat := twbBase n + 0x10
/-- Address of TWB_STAT, R380. -/
def TWB_STAT.addr (n : Nat) : Nat := twbBase n + 0x14
/-- Address of TWB_ALERT, R380. -/
def TWB_ALERT.addr (n : Nat) : Nat := twbBase n + 0x18
/-- Address of TWB_RECOV, R380. -/
def TWB_RECOV.addr (n : Nat) : Nat := twbBase n + 0x1c
/-- Address of TWB_MAN, R380. -/
def TWB_MAN.addr (n : Nat) : Nat := twbBase n + 0x20
/-- Address of TWB_MDATA, R380. -/
def TWB_MDATA.addr (n k : Nat) : Nat := twbBase n + 0x40 + 4 * k
/-- Address of TWB_TDATA, R380. -/
def TWB_TDATA.addr (n k : Nat) : Nat := twbBase n + 0x80 + 4 * k
/-- Address of TWB_DESCA, R380. -/
def TWB_DESCA.addr (n d : Nat) : Nat := twbBase n + 0x100 + 8 * d
/-- Address of TWB_DESCB, R380. -/
def TWB_DESCB.addr (n d : Nat) : Nat := twbBase n + 0x104 + 8 * d
/-- Address of CSP_CFG, R404. -/
def CSP_CFG.addr (n : Nat) : Nat := cspBase n + 0x0
/-- Address of CSP_TIMING, R404. -/
def CSP_TIMING.addr (n : Nat) : Nat := cspBase n + 0x4
/-- Address of CSP_COMMIT, R404. -/
def CSP_COMMIT.addr (n : Nat) : Nat := cspBase n + 0x8
/-- Address of CSP_STATUS, R404. -/
def CSP_STATUS.addr (n : Nat) : Nat := cspBase n + 0xc
/-- Address of CSP_STAT, R404. -/
def CSP_STAT.addr (n : Nat) : Nat := cspBase n + 0x10
/-- Address of CSP_MAN, R404. -/
def CSP_MAN.addr (n : Nat) : Nat := cspBase n + 0x14
/-- Address of CSP_MADR, R404. -/
def CSP_MADR.addr (n : Nat) : Nat := cspBase n + 0x18
/-- Address of CSP_MLEN, R404. -/
def CSP_MLEN.addr (n : Nat) : Nat := cspBase n + 0x1c
/-- Address of CSP_MBUF, R404. -/
def CSP_MBUF.addr (n : Nat) : Nat := cspBase n + 0x20
/-- Address of CSP_DRAIN, R404. -/
def CSP_DRAIN.addr (n : Nat) : Nat := cspBase n + 0x24
/-- Address of CSP_TX, R404. -/
def CSP_TX.addr (n k : Nat) : Nat := cspBase n + 0x40 + 4 * k
/-- Address of CSP_TDATA, R404. -/
def CSP_TDATA.addr (n k : Nat) : Nat := cspBase n + 0x80 + 4 * k
/-- Address of CSP_DCMD, R404. -/
def CSP_DCMD.addr (n d : Nat) : Nat := cspBase n + 0x100 + 0x10 * d
/-- Address of CSP_DADR, R404. -/
def CSP_DADR.addr (n d : Nat) : Nat := cspBase n + 0x104 + 0x10 * d
/-- Address of CSP_DFMT, R404. -/
def CSP_DFMT.addr (n d : Nat) : Nat := cspBase n + 0x108 + 0x10 * d
/-- Address of CSP_DPOLL, R404. -/
def CSP_DPOLL.addr (n d : Nat) : Nat := cspBase n + 0x10c + 0x10 * d
/-- Address of TMR_CTL, R421. -/
def TMR_CTL.addr (n : Nat) : Nat := tmrBase n + 0x0
/-- Address of TMR_CFG, R421. -/
def TMR_CFG.addr (n : Nat) : Nat := tmrBase n + 0x4
/-- Address of TMR_PRE, R421. -/
def TMR_PRE.addr (n : Nat) : Nat := tmrBase n + 0x8
/-- Address of TMR_LIMIT, R421. -/
def TMR_LIMIT.addr (n : Nat) : Nat := tmrBase n + 0xc
/-- Address of TMR_COUNT, R421. -/
def TMR_COUNT.addr (n : Nat) : Nat := tmrBase n + 0x10
/-- Address of TMR_STATUS, R421. -/
def TMR_STATUS.addr (n : Nat) : Nat := tmrBase n + 0x14
/-- Address of TMR_CAP, R421. -/
def TMR_CAP.addr (n : Nat) : Nat := tmrBase n + 0x18
/-- Address of TMR_PIN, R421. -/
def TMR_PIN.addr (n : Nat) : Nat := tmrBase n + 0x1c
/-- Address of ADC_SDCFG, R93. -/
def ADC_SDCFG.addr (n : Nat) : Nat := 0x42030000 + 4 * n
/-- Address of ADC_FSCFG, R93. -/
def ADC_FSCFG.addr (n : Nat) : Nat := 0x42030040 + 4 * n
/-- Address of PWR_SUPPLY, R471. -/
def PWR_SUPPLY.addr : Nat := 0x20001800
/-- Address of PWR_DOWNFAULT, R471. -/
def PWR_DOWNFAULT.addr : Nat := 0x20001804
/-- Address of PWR_SUPSTAT, R471. -/
def PWR_SUPSTAT.addr : Nat := 0x20001814
/-- Address of PWR_DOWNGTS, R471. -/
def PWR_DOWNGTS.addr (k : Nat) : Nat := 0x20001808 + 4 * k

/-- CL_MADDR.SPACE, R34. -/
def CL_MADDR.SPACE : Fld := ⟨31, 30, .rw, 0⟩
/-- CL_MADDR.INC, R34. -/
def CL_MADDR.INC : Fld := ⟨29, 29, .rw, 0⟩
/-- CL_MADDR.REFUSED, R34. -/
def CL_MADDR.REFUSED : Fld := ⟨28, 28, .w1c, 0⟩
/-- CL_MADDR.ADDR, R34. -/
def CL_MADDR.ADDR : Fld := ⟨16, 2, .rw, 0⟩
/-- The fields of CL_MADDR, R34. -/
def CL_MADDR.fields : List Fld := [CL_MADDR.SPACE, CL_MADDR.INC, CL_MADDR.REFUSED, CL_MADDR.ADDR]
/-- TB_CTL.REFGATE, R76. -/
def TB_CTL.REFGATE : Fld := ⟨5, 5, .rw, 0⟩
/-- TB_CTL.FLOATEN, R76. -/
def TB_CTL.FLOATEN : Fld := ⟨4, 4, .rw, 1⟩
/-- TB_CTL.SRCEN, R76. -/
def TB_CTL.SRCEN : Fld := ⟨3, 0, .rw, 9⟩
/-- The fields of TB_CTL, R76. -/
def TB_CTL.fields : List Fld := [TB_CTL.REFGATE, TB_CTL.FLOATEN, TB_CTL.SRCEN]
/-- TB_STATUS.EPOCH, R77. -/
def TB_STATUS.EPOCH : Fld := ⟨31, 24, .ro, 0⟩
/-- TB_STATUS.SRC, R77. -/
def TB_STATUS.SRC : Fld := ⟨19, 16, .ro, 0⟩
/-- TB_STATUS.STATE, R77. -/
def TB_STATUS.STATE : Fld := ⟨11, 8, .ro, 0⟩
/-- TB_STATUS.PLLLOCK, R77. -/
def TB_STATUS.PLLLOCK : Fld := ⟨2, 2, .ro, 0⟩
/-- TB_STATUS.STEPPED, R77. -/
def TB_STATUS.STEPPED : Fld := ⟨1, 1, .w1c, 0⟩
/-- TB_STATUS.CONFLICT, R77. -/
def TB_STATUS.CONFLICT : Fld := ⟨0, 0, .w1c, 0⟩
/-- The fields of TB_STATUS, R77. -/
def TB_STATUS.fields : List Fld := [TB_STATUS.EPOCH, TB_STATUS.SRC, TB_STATUS.STATE, TB_STATUS.PLLLOCK, TB_STATUS.STEPPED, TB_STATUS.CONFLICT]
/-- TB_COMMIT.GO, R78. -/
def TB_COMMIT.GO : Fld := ⟨0, 0, .wo, 0⟩
/-- The fields of TB_COMMIT, R78. -/
def TB_COMMIT.fields : List Fld := [TB_COMMIT.GO]
/-- TB_SLEW.MAXPPM, R80. -/
def TB_SLEW.MAXPPM : Fld := ⟨9, 0, .sh, 100⟩
/-- The fields of TB_SLEW, R80. -/
def TB_SLEW.fields : List Fld := [TB_SLEW.MAXPPM]
/-- TB_STEPTHR.THR, R80. -/
def TB_STEPTHR.THR : Fld := ⟨31, 0, .sh, 0xf4240⟩
/-- The fields of TB_STEPTHR, R80. -/
def TB_STEPTHR.fields : List Fld := [TB_STEPTHR.THR]
/-- TB_LOOP.LOCKN, R80. -/
def TB_LOOP.LOCKN : Fld := ⟨11, 8, .sh, 3⟩
/-- TB_LOOP.TC, R80. -/
def TB_LOOP.TC : Fld := ⟨3, 0, .sh, 4⟩
/-- The fields of TB_LOOP, R80. -/
def TB_LOOP.fields : List Fld := [TB_LOOP.LOCKN, TB_LOOP.TC]
/-- TB_REFCFG.KIND, R81. -/
def TB_REFCFG.KIND : Fld := ⟨31, 31, .sh, 0⟩
/-- TB_REFCFG.AGE, R81. -/
def TB_REFCFG.AGE : Fld := ⟨30, 24, .sh, 10⟩
/-- TB_REFCFG.SETTLE, R81. -/
def TB_REFCFG.SETTLE : Fld := ⟨23, 16, .sh, 125⟩
/-- TB_REFCFG.SPEC, R81. -/
def TB_REFCFG.SPEC : Fld := ⟨15, 0, .sh, 500⟩
/-- The fields of TB_REFCFG, R81. -/
def TB_REFCFG.fields : List Fld := [TB_REFCFG.KIND, TB_REFCFG.AGE, TB_REFCFG.SETTLE, TB_REFCFG.SPEC]
/-- TB_PPSCFG.EN, R82. -/
def TB_PPSCFG.EN : Fld := ⟨31, 31, .sh, 0⟩
/-- TB_PPSCFG.EDGE, R82. -/
def TB_PPSCFG.EDGE : Fld := ⟨30, 30, .sh, 0⟩
/-- TB_PPSCFG.DELAY, R82. -/
def TB_PPSCFG.DELAY : Fld := ⟨27, 16, .sh, 0⟩
/-- TB_PPSCFG.RECVUNC, R82. -/
def TB_PPSCFG.RECVUNC : Fld := ⟨15, 0, .sh, 20⟩
/-- The fields of TB_PPSCFG, R82. -/
def TB_PPSCFG.fields : List Fld := [TB_PPSCFG.EN, TB_PPSCFG.EDGE, TB_PPSCFG.DELAY, TB_PPSCFG.RECVUNC]
/-- TB_PPSCNT.REJ, R82. -/
def TB_PPSCNT.REJ : Fld := ⟨31, 16, .rc, 0⟩
/-- TB_PPSCNT.ACC, R82. -/
def TB_PPSCNT.ACC : Fld := ⟨15, 0, .rc, 0⟩
/-- The fields of TB_PPSCNT, R82. -/
def TB_PPSCNT.fields : List Fld := [TB_PPSCNT.REJ, TB_PPSCNT.ACC]
/-- TB_XK0.D_LO, R83. -/
def TB_XK0.D_LO : Fld := ⟨31, 0, .rw, 0⟩
/-- The fields of TB_XK0, R83. -/
def TB_XK0.fields : List Fld := [TB_XK0.D_LO]
/-- TB_XL0.D_LO, R83. -/
def TB_XL0.D_LO : Fld := ⟨31, 0, .rw, 0⟩
/-- The fields of TB_XL0, R83. -/
def TB_XL0.fields : List Fld := [TB_XL0.D_LO]
/-- TB_XK1.D_MID, R83. -/
def TB_XK1.D_MID : Fld := ⟨31, 0, .rw, 0⟩
/-- The fields of TB_XK1, R83. -/
def TB_XK1.fields : List Fld := [TB_XK1.D_MID]
/-- TB_XL1.D_MID, R83. -/
def TB_XL1.D_MID : Fld := ⟨31, 0, .rw, 0⟩
/-- The fields of TB_XL1, R83. -/
def TB_XL1.fields : List Fld := [TB_XL1.D_MID]
/-- TB_XK2.D_HI, R83. -/
def TB_XK2.D_HI : Fld := ⟨15, 0, .rw, 0⟩
/-- The fields of TB_XK2, R83. -/
def TB_XK2.fields : List Fld := [TB_XK2.D_HI]
/-- TB_XL2.D_HI, R83. -/
def TB_XL2.D_HI : Fld := ⟨15, 0, .rw, 0⟩
/-- The fields of TB_XL2, R83. -/
def TB_XL2.fields : List Fld := [TB_XL2.D_HI]
/-- TB_XK3.GO, R83. -/
def TB_XK3.GO : Fld := ⟨31, 31, .wo, 0⟩
/-- TB_XK3.RESULT, R83. -/
def TB_XK3.RESULT : Fld := ⟨25, 24, .ro, 0⟩
/-- TB_XK3.FORCE, R83. -/
def TB_XK3.FORCE : Fld := ⟨20, 20, .rw, 0⟩
/-- TB_XK3.SRC, R83. -/
def TB_XK3.SRC : Fld := ⟨19, 16, .rw, 0⟩
/-- TB_XK3.UNC, R83. -/
def TB_XK3.UNC : Fld := ⟨15, 0, .rw, 65535⟩
/-- The fields of TB_XK3, R83. -/
def TB_XK3.fields : List Fld := [TB_XK3.GO, TB_XK3.RESULT, TB_XK3.FORCE, TB_XK3.SRC, TB_XK3.UNC]
/-- TB_XL3.GO, R83. -/
def TB_XL3.GO : Fld := ⟨31, 31, .wo, 0⟩
/-- TB_XL3.RESULT, R83. -/
def TB_XL3.RESULT : Fld := ⟨25, 24, .ro, 0⟩
/-- TB_XL3.FORCE, R83. -/
def TB_XL3.FORCE : Fld := ⟨20, 20, .rw, 0⟩
/-- TB_XL3.SRC, R83. -/
def TB_XL3.SRC : Fld := ⟨19, 16, .rw, 0⟩
/-- TB_XL3.UNC, R83. -/
def TB_XL3.UNC : Fld := ⟨15, 0, .rw, 65535⟩
/-- The fields of TB_XL3, R83. -/
def TB_XL3.fields : List Fld := [TB_XL3.GO, TB_XL3.RESULT, TB_XL3.FORCE, TB_XL3.SRC, TB_XL3.UNC]
/-- TB_MODEL.LEARNH, R84. -/
def TB_MODEL.LEARNH : Fld := ⟨31, 16, .ro, 0⟩
/-- TB_MODEL.REFBINS, R84. -/
def TB_MODEL.REFBINS : Fld := ⟨15, 8, .ro, 0⟩
/-- TB_MODEL.XKBINS, R84. -/
def TB_MODEL.XKBINS : Fld := ⟨7, 0, .ro, 0⟩
/-- The fields of TB_MODEL, R84. -/
def TB_MODEL.fields : List Fld := [TB_MODEL.LEARNH, TB_MODEL.REFBINS, TB_MODEL.XKBINS]
/-- TB_TEMP.VALID, R84. -/
def TB_TEMP.VALID : Fld := ⟨31, 31, .ro, 0⟩
/-- TB_TEMP.TEMP, R84. -/
def TB_TEMP.TEMP : Fld := ⟨15, 0, .ro, 0⟩
/-- The fields of TB_TEMP, R84. -/
def TB_TEMP.fields : List Fld := [TB_TEMP.VALID, TB_TEMP.TEMP]
/-- TB_RATE.CORR, R84. -/
def TB_RATE.CORR : Fld := ⟨31, 0, .ro, 0⟩
/-- The fields of TB_RATE, R84. -/
def TB_RATE.fields : List Fld := [TB_RATE.CORR]
/-- TB_FICTL.EN, R85. -/
def TB_FICTL.EN : Fld := ⟨31, 31, .rw, 0⟩
/-- TB_FICTL.EDGE, R85. -/
def TB_FICTL.EDGE : Fld := ⟨30, 29, .rw, 0⟩
/-- TB_FICTL.NOCLAIM, R85. -/
def TB_FICTL.NOCLAIM : Fld := ⟨28, 28, .w1c, 0⟩
/-- TB_FICTL.PIN, R85. -/
def TB_FICTL.PIN : Fld := ⟨5, 0, .rw, 0⟩
/-- The fields of TB_FICTL, R85. -/
def TB_FICTL.fields : List Fld := [TB_FICTL.EN, TB_FICTL.EDGE, TB_FICTL.NOCLAIM, TB_FICTL.PIN]
/-- ADC_SDCFG.OWEN, R93. -/
def ADC_SDCFG.OWEN : Fld := ⟨31, 31, .rw, 0⟩
/-- ADC_SDCFG.GAIN, R93. -/
def ADC_SDCFG.GAIN : Fld := ⟨30, 28, .rw, 0⟩
/-- ADC_SDCFG.BUF, R93. -/
def ADC_SDCFG.BUF : Fld := ⟨27, 27, .rw, 1⟩
/-- ADC_SDCFG.TCONV, R93. -/
def ADC_SDCFG.TCONV : Fld := ⟨12, 0, .rw, 0⟩
/-- The fields of ADC_SDCFG, R93. -/
def ADC_SDCFG.fields : List Fld := [ADC_SDCFG.OWEN, ADC_SDCFG.GAIN, ADC_SDCFG.BUF, ADC_SDCFG.TCONV]
/-- ADC_FSCFG.RANGE, R93. -/
def ADC_FSCFG.RANGE : Fld := ⟨1, 0, .rw, 0⟩
/-- The fields of ADC_FSCFG, R93. -/
def ADC_FSCFG.fields : List Fld := [ADC_FSCFG.RANGE]
/-- TILE_CFG.RUN, R129. -/
def TILE_CFG.RUN : Fld := ⟨31, 31, .sh, 0⟩
/-- TILE_CFG.FIFOEN, R129. -/
def TILE_CFG.FIFOEN : Fld := ⟨24, 24, .sh, 0⟩
/-- TILE_CFG.FIFOCORE, R129. -/
def TILE_CFG.FIFOCORE : Fld := ⟨23, 23, .sh, 0⟩
/-- TILE_CFG.RINGEN, R129. -/
def TILE_CFG.RINGEN : Fld := ⟨22, 22, .sh, 0⟩
/-- TILE_CFG.RECEN, R129. -/
def TILE_CFG.RECEN : Fld := ⟨21, 21, .sh, 0⟩
/-- TILE_CFG.PORT, R129. -/
def TILE_CFG.PORT : Fld := ⟨5, 0, .sh, 63⟩
/-- The fields of TILE_CFG, R129. -/
def TILE_CFG.fields : List Fld := [TILE_CFG.RUN, TILE_CFG.FIFOEN, TILE_CFG.FIFOCORE, TILE_CFG.RINGEN, TILE_CFG.RECEN, TILE_CFG.PORT]
/-- TILE_PERIOD.P, R130. -/
def TILE_PERIOD.P : Fld := ⟨29, 0, .sh, 0xf4240⟩
/-- The fields of TILE_PERIOD, R130. -/
def TILE_PERIOD.fields : List Fld := [TILE_PERIOD.P]
/-- TILE_COMMIT.GO, R130. -/
def TILE_COMMIT.GO : Fld := ⟨0, 0, .wo, 0⟩
/-- The fields of TILE_COMMIT, R130. -/
def TILE_COMMIT.fields : List Fld := [TILE_COMMIT.GO]
/-- TILE_STATUS.RUNNING, R130. -/
def TILE_STATUS.RUNNING : Fld := ⟨31, 31, .ro, 0⟩
/-- TILE_STATUS.PENDING, R130. -/
def TILE_STATUS.PENDING : Fld := ⟨30, 30, .ro, 0⟩
/-- TILE_STATUS.CERR, R130. -/
def TILE_STATUS.CERR : Fld := ⟨23, 20, .ro, 0⟩
/-- TILE_STATUS.REFUSED, R130. -/
def TILE_STATUS.REFUSED : Fld := ⟨19, 19, .w1c, 0⟩
/-- TILE_STATUS.BUFLVL, R130. -/
def TILE_STATUS.BUFLVL : Fld := ⟨6, 0, .ro, 0⟩
/-- The fields of TILE_STATUS, R130. -/
def TILE_STATUS.fields : List Fld := [TILE_STATUS.RUNNING, TILE_STATUS.PENDING, TILE_STATUS.CERR, TILE_STATUS.REFUSED, TILE_STATUS.BUFLVL]
/-- TILE_STAT.DROP, R131. -/
def TILE_STAT.DROP : Fld := ⟨31, 16, .rc, 0⟩
/-- TILE_STAT.MISS, R131. -/
def TILE_STAT.MISS : Fld := ⟨15, 0, .rc, 0⟩
/-- The fields of TILE_STAT, R131. -/
def TILE_STAT.fields : List Fld := [TILE_STAT.DROP, TILE_STAT.MISS]
/-- TILE_FIFOSTAT.LOST, R131. -/
def TILE_FIFOSTAT.LOST : Fld := ⟨31, 16, .rc, 0⟩
/-- TILE_FIFOSTAT.LEVEL, R131. -/
def TILE_FIFOSTAT.LEVEL : Fld := ⟨5, 0, .ro, 0⟩
/-- The fields of TILE_FIFOSTAT, R131. -/
def TILE_FIFOSTAT.fields : List Fld := [TILE_FIFOSTAT.LOST, TILE_FIFOSTAT.LEVEL]
/-- TILE_SCHA.EN, R132. -/
def TILE_SCHA.EN : Fld := ⟨31, 31, .sh, 0⟩
/-- TILE_SCHA.OFFSET, R132. -/
def TILE_SCHA.OFFSET : Fld := ⟨29, 0, .sh, 0⟩
/-- The fields of TILE_SCHA, R132. -/
def TILE_SCHA.fields : List Fld := [TILE_SCHA.EN, TILE_SCHA.OFFSET]
/-- TILE_SCHB.EVERY, R132. -/
def TILE_SCHB.EVERY : Fld := ⟨31, 24, .sh, 0⟩
/-- TILE_SCHB.CMD, R132. -/
def TILE_SCHB.CMD : Fld := ⟨23, 16, .sh, 0⟩
/-- TILE_SCHB.LANES, R132. -/
def TILE_SCHB.LANES : Fld := ⟨15, 0, .sh, 0⟩
/-- The fields of TILE_SCHB, R132. -/
def TILE_SCHB.fields : List Fld := [TILE_SCHB.EVERY, TILE_SCHB.CMD, TILE_SCHB.LANES]
/-- TILE_LSRC.EN, R133. -/
def TILE_LSRC.EN : Fld := ⟨31, 31, .sh, 0⟩
/-- TILE_LSRC.FORMAT, R133. -/
def TILE_LSRC.FORMAT : Fld := ⟨11, 8, .sh, 0⟩
/-- TILE_LSRC.SEL, R133. -/
def TILE_LSRC.SEL : Fld := ⟨7, 2, .sh, 0⟩
/-- TILE_LSRC.DESPIKE, R133. -/
def TILE_LSRC.DESPIKE : Fld := ⟨1, 0, .sh, 0⟩
/-- The fields of TILE_LSRC, R133. -/
def TILE_LSRC.fields : List Fld := [TILE_LSRC.EN, TILE_LSRC.FORMAT, TILE_LSRC.SEL, TILE_LSRC.DESPIKE]
/-- TILE_LCIC.ORDER, R133. -/
def TILE_LCIC.ORDER : Fld := ⟨17, 16, .sh, 0⟩
/-- TILE_LCIC.RATIO, R133. -/
def TILE_LCIC.RATIO : Fld := ⟨9, 0, .sh, 0⟩
/-- The fields of TILE_LCIC, R133. -/
def TILE_LCIC.fields : List Fld := [TILE_LCIC.ORDER, TILE_LCIC.RATIO]
/-- TILE_LBQC.FSEL, R133. -/
def TILE_LBQC.FSEL : Fld := ⟨3, 2, .sh, 0⟩
/-- TILE_LBQC.BQMODE, R133. -/
def TILE_LBQC.BQMODE : Fld := ⟨1, 0, .sh, 0⟩
/-- The fields of TILE_LBQC, R133. -/
def TILE_LBQC.fields : List Fld := [TILE_LBQC.FSEL, TILE_LBQC.BQMODE]
/-- TILE_LCOEF.C, R133. -/
def TILE_LCOEF.C : Fld := ⟨31, 0, .sh, 0⟩
/-- The fields of TILE_LCOEF, R133. -/
def TILE_LCOEF.fields : List Fld := [TILE_LCOEF.C]
/-- TILE_LRGLO.LO, R133. -/
def TILE_LRGLO.LO : Fld := ⟨31, 0, .sh, 0x80000000⟩
/-- The fields of TILE_LRGLO, R133. -/
def TILE_LRGLO.fields : List Fld := [TILE_LRGLO.LO]
/-- TILE_LRGHI.HI, R133. -/
def TILE_LRGHI.HI : Fld := ⟨31, 0, .sh, 0x7fffffff⟩
/-- The fields of TILE_LRGHI, R133. -/
def TILE_LRGHI.fields : List Fld := [TILE_LRGHI.HI]
/-- TILE_LST.STN, R133. -/
def TILE_LST.STN : Fld := ⟨31, 22, .sh, 0⟩
/-- TILE_LST.STDELTA, R133. -/
def TILE_LST.STDELTA : Fld := ⟨21, 0, .sh, 0⟩
/-- The fields of TILE_LST, R133. -/
def TILE_LST.fields : List Fld := [TILE_LST.STN, TILE_LST.STDELTA]
/-- TILE_LAG.AGS, R133. -/
def TILE_LAG.AGS : Fld := ⟨31, 27, .sh, 20⟩
/-- TILE_LAG.AGF, R133. -/
def TILE_LAG.AGF : Fld := ⟨26, 23, .sh, 6⟩
/-- TILE_LAG.AGTHR, R133. -/
def TILE_LAG.AGTHR : Fld := ⟨22, 0, .sh, 0⟩
/-- The fields of TILE_LAG, R133. -/
def TILE_LAG.fields : List Fld := [TILE_LAG.AGS, TILE_LAG.AGF, TILE_LAG.AGTHR]
/-- TILE_LTQ.WARMN, R133. -/
def TILE_LTQ.WARMN : Fld := ⟨31, 24, .sh, 0⟩
/-- TILE_LTQ.TQMAX, R133. -/
def TILE_LTQ.TQMAX : Fld := ⟨15, 0, .sh, 65535⟩
/-- The fields of TILE_LTQ, R133. -/
def TILE_LTQ.fields : List Fld := [TILE_LTQ.WARMN, TILE_LTQ.TQMAX]
/-- TILE_LVAL.VALUE, R133. -/
def TILE_LVAL.VALUE : Fld := ⟨31, 0, .ro, 0⟩
/-- The fields of TILE_LVAL, R133. -/
def TILE_LVAL.fields : List Fld := [TILE_LVAL.VALUE]
/-- TILE_LFLG.SEQ, R133. -/
def TILE_LFLG.SEQ : Fld := ⟨31, 16, .ro, 0⟩
/-- TILE_LFLG.FLAGS, R133. -/
def TILE_LFLG.FLAGS : Fld := ⟨15, 0, .ro, 0⟩
/-- The fields of TILE_LFLG, R133. -/
def TILE_LFLG.fields : List Fld := [TILE_LFLG.SEQ, TILE_LFLG.FLAGS]
/-- TILE_LBASE.B, R133. -/
def TILE_LBASE.B : Fld := ⟨31, 0, .ro, 0⟩
/-- The fields of TILE_LBASE, R133. -/
def TILE_LBASE.fields : List Fld := [TILE_LBASE.B]
/-- TILE_LAVG.F, R133. -/
def TILE_LAVG.F : Fld := ⟨31, 0, .ro, 0⟩
/-- The fields of TILE_LAVG, R133. -/
def TILE_LAVG.fields : List Fld := [TILE_LAVG.F]
/-- TILE_TRKCFG.EN, R135. -/
def TILE_TRKCFG.EN : Fld := ⟨31, 31, .sh, 0⟩
/-- TILE_TRKCFG.APPLY, R135. -/
def TILE_TRKCFG.APPLY : Fld := ⟨30, 30, .sh, 0⟩
/-- TILE_TRKCFG.TAU, R135. -/
def TILE_TRKCFG.TAU : Fld := ⟨29, 25, .sh, 14⟩
/-- TILE_TRKCFG.CONFMIN, R135. -/
def TILE_TRKCFG.CONFMIN : Fld := ⟨24, 17, .sh, 16⟩
/-- TILE_TRKCFG.LZ, R135. -/
def TILE_TRKCFG.LZ : Fld := ⟨11, 8, .sh, 2⟩
/-- TILE_TRKCFG.LY, R135. -/
def TILE_TRKCFG.LY : Fld := ⟨7, 4, .sh, 1⟩
/-- TILE_TRKCFG.LX, R135. -/
def TILE_TRKCFG.LX : Fld := ⟨3, 0, .sh, 0⟩
/-- The fields of TILE_TRKCFG, R135. -/
def TILE_TRKCFG.fields : List Fld := [TILE_TRKCFG.EN, TILE_TRKCFG.APPLY, TILE_TRKCFG.TAU, TILE_TRKCFG.CONFMIN, TILE_TRKCFG.LZ, TILE_TRKCFG.LY, TILE_TRKCFG.LX]
/-- TILE_TRKG.GREF, R135. -/
def TILE_TRKG.GREF : Fld := ⟨31, 0, .sh, 0⟩
/-- The fields of TILE_TRKG, R135. -/
def TILE_TRKG.fields : List Fld := [TILE_TRKG.GREF]
/-- TILE_TRKB.B, R135. -/
def TILE_TRKB.B : Fld := ⟨31, 0, .ro, 0⟩
/-- The fields of TILE_TRKB, R135. -/
def TILE_TRKB.fields : List Fld := [TILE_TRKB.B]
/-- TILE_TRKST.CONF, R135. -/
def TILE_TRKST.CONF : Fld := ⟨23, 16, .ro, 0⟩
/-- TILE_TRKST.REJ, R135. -/
def TILE_TRKST.REJ : Fld := ⟨15, 0, .rc, 0⟩
/-- The fields of TILE_TRKST, R135. -/
def TILE_TRKST.fields : List Fld := [TILE_TRKST.CONF, TILE_TRKST.REJ]
/-- RS_ECFG.EN, R174. -/
def RS_ECFG.EN : Fld := ⟨31, 31, .sh, 0⟩
/-- RS_ECFG.KEEPST, R174. -/
def RS_ECFG.KEEPST : Fld := ⟨30, 30, .sh, 0⟩
/-- RS_ECFG.COAL, R174. -/
def RS_ECFG.COAL : Fld := ⟨29, 29, .sh, 0⟩
/-- RS_ECFG.INIT, R174. -/
def RS_ECFG.INIT : Fld := ⟨26, 24, .sh, 0⟩
/-- RS_ECFG.FLAGMASK, R174. -/
def RS_ECFG.FLAGMASK : Fld := ⟨10, 0, .sh, 71⟩
/-- The fields of RS_ECFG, R174. -/
def RS_ECFG.fields : List Fld := [RS_ECFG.EN, RS_ECFG.KEEPST, RS_ECFG.COAL, RS_ECFG.INIT, RS_ECFG.FLAGMASK]
/-- RS_ESRCA.KIND, R175. -/
def RS_ESRCA.KIND : Fld := ⟨31, 29, .sh, 0⟩
/-- RS_ESRCA.ID, R175. -/
def RS_ESRCA.ID : Fld := ⟨15, 0, .sh, 0⟩
/-- The fields of RS_ESRCA, R175. -/
def RS_ESRCA.fields : List Fld := [RS_ESRCA.KIND, RS_ESRCA.ID]
/-- RS_EPRED.QTY, R176. -/
def RS_EPRED.QTY : Fld := ⟨31, 28, .sh, 0⟩
/-- RS_EPRED.CMP, R176. -/
def RS_EPRED.CMP : Fld := ⟨27, 25, .sh, 0⟩
/-- RS_EPRED.COMB, R176. -/
def RS_EPRED.COMB : Fld := ⟨24, 23, .sh, 0⟩
/-- RS_EPRED.WIN, R176. -/
def RS_EPRED.WIN : Fld := ⟨21, 16, .sh, 0⟩
/-- The fields of RS_EPRED, R176. -/
def RS_EPRED.fields : List Fld := [RS_EPRED.QTY, RS_EPRED.CMP, RS_EPRED.COMB, RS_EPRED.WIN]
/-- RS_EK1.K1, R177. -/
def RS_EK1.K1 : Fld := ⟨31, 0, .sh, 0⟩
/-- The fields of RS_EK1, R177. -/
def RS_EK1.fields : List Fld := [RS_EK1.K1]
/-- RS_EK2.K2, R177. -/
def RS_EK2.K2 : Fld := ⟨31, 0, .sh, 0⟩
/-- The fields of RS_EK2, R177. -/
def RS_EK2.fields : List Fld := [RS_EK2.K2]
/-- RS_ELIM.LIM1, R177. -/
def RS_ELIM.LIM1 : Fld := ⟨31, 16, .sh, 0⟩
/-- RS_ELIM.LIM0, R177. -/
def RS_ELIM.LIM0 : Fld := ⟨15, 0, .sh, 0⟩
/-- The fields of RS_ELIM, R177. -/
def RS_ELIM.fields : List Fld := [RS_ELIM.LIM1, RS_ELIM.LIM0]
/-- RS_ETMR.TSCALE, R177. -/
def RS_ETMR.TSCALE : Fld := ⟨31, 28, .sh, 0⟩
/-- RS_ETMR.TVAL, R177. -/
def RS_ETMR.TVAL : Fld := ⟨23, 0, .sh, 0⟩
/-- The fields of RS_ETMR, R177. -/
def RS_ETMR.fields : List Fld := [RS_ETMR.TSCALE, RS_ETMR.TVAL]
/-- RS_EACT.MODE, R177. -/
def RS_EACT.MODE : Fld := ⟨31, 29, .sh, 0⟩
/-- RS_EACT.SLOT, R177. -/
def RS_EACT.SLOT : Fld := ⟨28, 26, .sh, 0⟩
/-- RS_EACT.TARGET, R177. -/
def RS_EACT.TARGET : Fld := ⟨23, 16, .sh, 0⟩
/-- RS_EACT.BATCH, R177. -/
def RS_EACT.BATCH : Fld := ⟨15, 8, .sh, 0⟩
/-- The fields of RS_EACT, R177. -/
def RS_EACT.fields : List Fld := [RS_EACT.MODE, RS_EACT.SLOT, RS_EACT.TARGET, RS_EACT.BATCH]
/-- RS_ESTATE.ARMED, R178. -/
def RS_ESTATE.ARMED : Fld := ⟨31, 31, .ro, 0⟩
/-- RS_ESTATE.FAULTED, R178. -/
def RS_ESTATE.FAULTED : Fld := ⟨30, 30, .ro, 0⟩
/-- RS_ESTATE.TRUN, R178. -/
def RS_ESTATE.TRUN : Fld := ⟨29, 29, .ro, 0⟩
/-- RS_ESTATE.HYST, R178. -/
def RS_ESTATE.HYST : Fld := ⟨28, 28, .ro, 0⟩
/-- RS_ESTATE.FILLED, R178. -/
def RS_ESTATE.FILLED : Fld := ⟨27, 27, .ro, 0⟩
/-- RS_ESTATE.LASTIN, R178. -/
def RS_ESTATE.LASTIN : Fld := ⟨9, 8, .ro, 0⟩
/-- RS_ESTATE.STATE, R178. -/
def RS_ESTATE.STATE : Fld := ⟨2, 0, .ro, 0⟩
/-- The fields of RS_ESTATE, R178. -/
def RS_ESTATE.fields : List Fld := [RS_ESTATE.ARMED, RS_ESTATE.FAULTED, RS_ESTATE.TRUN, RS_ESTATE.HYST, RS_ESTATE.FILLED, RS_ESTATE.LASTIN, RS_ESTATE.STATE]
/-- RS_ECNT.C1, R178. -/
def RS_ECNT.C1 : Fld := ⟨31, 16, .ro, 0⟩
/-- RS_ECNT.C0, R178. -/
def RS_ECNT.C0 : Fld := ⟨15, 0, .ro, 0⟩
/-- The fields of RS_ECNT, R178. -/
def RS_ECNT.fields : List Fld := [RS_ECNT.C1, RS_ECNT.C0]
/-- RS_CTL.RINGEN, R179. -/
def RS_CTL.RINGEN : Fld := ⟨31, 31, .rw, 0⟩
/-- RS_CTL.WIN, R179. -/
def RS_CTL.WIN : Fld := ⟨19, 10, .rw, 0⟩
/-- RS_CTL.WIDLE, R179. -/
def RS_CTL.WIDLE : Fld := ⟨4, 0, .rw, 10⟩
/-- The fields of RS_CTL, R179. -/
def RS_CTL.fields : List Fld := [RS_CTL.RINGEN, RS_CTL.WIN, RS_CTL.WIDLE]
/-- RS_COMMIT.ENG, R179. -/
def RS_COMMIT.ENG : Fld := ⟨31, 0, .wo, 0⟩
/-- The fields of RS_COMMIT, R179. -/
def RS_COMMIT.fields : List Fld := [RS_COMMIT.ENG]
/-- RS_STATUS.PENDING, R179. -/
def RS_STATUS.PENDING : Fld := ⟨31, 31, .ro, 0⟩
/-- RS_STATUS.REFUSED, R179. -/
def RS_STATUS.REFUSED : Fld := ⟨30, 30, .w1c, 0⟩
/-- RS_STATUS.CENG, R179. -/
def RS_STATUS.CENG : Fld := ⟨23, 16, .ro, 0⟩
/-- RS_STATUS.CERR, R179. -/
def RS_STATUS.CERR : Fld := ⟨15, 12, .ro, 0⟩
/-- The fields of RS_STATUS, R179. -/
def RS_STATUS.fields : List Fld := [RS_STATUS.PENDING, RS_STATUS.REFUSED, RS_STATUS.CENG, RS_STATUS.CERR]
/-- RS_STAT.COALOVF, R179. -/
def RS_STAT.COALOVF : Fld := ⟨31, 16, .rc, 0⟩
/-- RS_STAT.EVLOST, R179. -/
def RS_STAT.EVLOST : Fld := ⟨15, 0, .rc, 0⟩
/-- The fields of RS_STAT, R179. -/
def RS_STAT.fields : List Fld := [RS_STAT.COALOVF, RS_STAT.EVLOST]
/-- RS_FAULTS.FAULTED, R179. -/
def RS_FAULTS.FAULTED : Fld := ⟨31, 0, .w1c, 0⟩
/-- The fields of RS_FAULTS, R179. -/
def RS_FAULTS.fields : List Fld := [RS_FAULTS.FAULTED]
/-- RS_COALST.INUSE, R179. -/
def RS_COALST.INUSE : Fld := ⟨6, 0, .ro, 0⟩
/-- The fields of RS_COALST, R179. -/
def RS_COALST.fields : List Fld := [RS_COALST.INUSE]
/-- STP_CTL.EN, R182. -/
def STP_CTL.EN : Fld := ⟨31, 31, .rw, 0⟩
/-- The fields of STP_CTL, R182. -/
def STP_CTL.fields : List Fld := [STP_CTL.EN]
/-- STP_STATUS.BUSY, R182. -/
def STP_STATUS.BUSY : Fld := ⟨31, 31, .ro, 0⟩
/-- STP_STATUS.PENDING, R182. -/
def STP_STATUS.PENDING : Fld := ⟨30, 30, .ro, 0⟩
/-- STP_STATUS.REFUSED, R182. -/
def STP_STATUS.REFUSED : Fld := ⟨29, 29, .w1c, 0⟩
/-- STP_STATUS.CERR, R182. -/
def STP_STATUS.CERR : Fld := ⟨23, 20, .ro, 0⟩
/-- STP_STATUS.CSLOT, R182. -/
def STP_STATUS.CSLOT : Fld := ⟨18, 16, .ro, 0⟩
/-- STP_STATUS.RUNSLOT, R182. -/
def STP_STATUS.RUNSLOT : Fld := ⟨10, 8, .ro, 0⟩
/-- STP_STATUS.QLEVEL, R182. -/
def STP_STATUS.QLEVEL : Fld := ⟨4, 0, .ro, 0⟩
/-- The fields of STP_STATUS, R182. -/
def STP_STATUS.fields : List Fld := [STP_STATUS.BUSY, STP_STATUS.PENDING, STP_STATUS.REFUSED, STP_STATUS.CERR, STP_STATUS.CSLOT, STP_STATUS.RUNSLOT, STP_STATUS.QLEVEL]
/-- STP_COMMIT.GO, R182. -/
def STP_COMMIT.GO : Fld := ⟨0, 0, .wo, 0⟩
/-- The fields of STP_COMMIT, R182. -/
def STP_COMMIT.fields : List Fld := [STP_COMMIT.GO]
/-- STP_TRIG.GO, R182. -/
def STP_TRIG.GO : Fld := ⟨31, 31, .wo, 0⟩
/-- STP_TRIG.SLOT, R182. -/
def STP_TRIG.SLOT : Fld := ⟨2, 0, .wo, 0⟩
/-- The fields of STP_TRIG, R182. -/
def STP_TRIG.fields : List Fld := [STP_TRIG.GO, STP_TRIG.SLOT]
/-- STP_STAT.MERGED, R182. -/
def STP_STAT.MERGED : Fld := ⟨31, 16, .rc, 0⟩
/-- STP_STAT.ECC, R182. -/
def STP_STAT.ECC : Fld := ⟨15, 0, .rc, 0⟩
/-- The fields of STP_STAT, R182. -/
def STP_STAT.fields : List Fld := [STP_STAT.MERGED, STP_STAT.ECC]
/-- STP_SCFG.EN, R183. -/
def STP_SCFG.EN : Fld := ⟨31, 31, .sh, 0⟩
/-- STP_SCFG.SPARSE, R183. -/
def STP_SCFG.SPARSE : Fld := ⟨30, 30, .sh, 0⟩
/-- STP_SCFG.PRIO, R183. -/
def STP_SCFG.PRIO : Fld := ⟨29, 28, .sh, 0⟩
/-- STP_SCFG.REFRESH, R183. -/
def STP_SCFG.REFRESH : Fld := ⟨23, 16, .sh, 0⟩
/-- STP_SCFG.CAUSE, R183. -/
def STP_SCFG.CAUSE : Fld := ⟨7, 0, .sh, 0⟩
/-- The fields of STP_SCFG, R183. -/
def STP_SCFG.fields : List Fld := [STP_SCFG.EN, STP_SCFG.SPARSE, STP_SCFG.PRIO, STP_SCFG.REFRESH, STP_SCFG.CAUSE]
/-- STP_SBASE.BASE, R183. -/
def STP_SBASE.BASE : Fld := ⟨19, 0, .sh, 0⟩
/-- The fields of STP_SBASE, R183. -/
def STP_SBASE.fields : List Fld := [STP_SBASE.BASE]
/-- STP_SLEN.LEN, R183. -/
def STP_SLEN.LEN : Fld := ⟨20, 0, .sh, 0⟩
/-- The fields of STP_SLEN, R183. -/
def STP_SLEN.fields : List Fld := [STP_SLEN.LEN]
/-- STP_SPER.PER, R183. -/
def STP_SPER.PER : Fld := ⟨19, 0, .sh, 0⟩
/-- The fields of STP_SPER, R183. -/
def STP_SPER.fields : List Fld := [STP_SPER.PER]
/-- STP_SDTH.DTH, R183. -/
def STP_SDTH.DTH : Fld := ⟨6, 0, .sh, 0⟩
/-- The fields of STP_SDTH, R183. -/
def STP_SDTH.fields : List Fld := [STP_SDTH.DTH]
/-- STP_SRES.VALUE, R183. -/
def STP_SRES.VALUE : Fld := ⟨31, 0, .ro, 0⟩
/-- The fields of STP_SRES, R183. -/
def STP_SRES.fields : List Fld := [STP_SRES.VALUE]
/-- STP_SSTAT.RUNS, R183. -/
def STP_SSTAT.RUNS : Fld := ⟨31, 16, .rc, 0⟩
/-- STP_SSTAT.CODE, R183. -/
def STP_SSTAT.CODE : Fld := ⟨1, 0, .ro, 0⟩
/-- The fields of STP_SSTAT, R183. -/
def STP_SSTAT.fields : List Fld := [STP_SSTAT.RUNS, STP_SSTAT.CODE]
/-- LOG_CTL.FLEN, R213. -/
def LOG_CTL.FLEN : Fld := ⟨31, 31, .rw, 0⟩
/-- LOG_CTL.FLUSHDN, R213. -/
def LOG_CTL.FLUSHDN : Fld := ⟨30, 30, .rw, 0⟩
/-- The fields of LOG_CTL, R213. -/
def LOG_CTL.fields : List Fld := [LOG_CTL.FLEN, LOG_CTL.FLUSHDN]
/-- LOG_STATUS.REFUSED, R213. -/
def LOG_STATUS.REFUSED : Fld := ⟨31, 31, .w1c, 0⟩
/-- LOG_STATUS.BERR, R213. -/
def LOG_STATUS.BERR : Fld := ⟨30, 30, .w1c, 0⟩
/-- LOG_STATUS.CERR, R213. -/
def LOG_STATUS.CERR : Fld := ⟨23, 20, .ro, 0⟩
/-- LOG_STATUS.CRING, R213. -/
def LOG_STATUS.CRING : Fld := ⟨13, 8, .ro, 0⟩
/-- The fields of LOG_STATUS, R213. -/
def LOG_STATUS.fields : List Fld := [LOG_STATUS.REFUSED, LOG_STATUS.BERR, LOG_STATUS.CERR, LOG_STATUS.CRING]
/-- LOG_RCOMMIT0.RING, R213. -/
def LOG_RCOMMIT0.RING : Fld := ⟨31, 0, .wo, 0⟩
/-- The fields of LOG_RCOMMIT0, R213. -/
def LOG_RCOMMIT0.fields : List Fld := [LOG_RCOMMIT0.RING]
/-- LOG_RCOMMIT1.FLASH, R213. -/
def LOG_RCOMMIT1.FLASH : Fld := ⟨31, 31, .wo, 0⟩
/-- LOG_RCOMMIT1.RING, R213. -/
def LOG_RCOMMIT1.RING : Fld := ⟨7, 0, .wo, 0⟩
/-- The fields of LOG_RCOMMIT1, R213. -/
def LOG_RCOMMIT1.fields : List Fld := [LOG_RCOMMIT1.FLASH, LOG_RCOMMIT1.RING]
/-- LOG_BCMD.CMD, R213. -/
def LOG_BCMD.CMD : Fld := ⟨31, 28, .wo, 0⟩
/-- LOG_BCMD.RING, R213. -/
def LOG_BCMD.RING : Fld := ⟨21, 16, .wo, 0⟩
/-- LOG_BCMD.HANDLE, R213. -/
def LOG_BCMD.HANDLE : Fld := ⟨7, 0, .wo, 0⟩
/-- The fields of LOG_BCMD, R213. -/
def LOG_BCMD.fields : List Fld := [LOG_BCMD.CMD, LOG_BCMD.RING, LOG_BCMD.HANDLE]
/-- LOG_RET0.RET, R213. -/
def LOG_RET0.RET : Fld := ⟨31, 0, .rw, 0⟩
/-- The fields of LOG_RET0, R213. -/
def LOG_RET0.fields : List Fld := [LOG_RET0.RET]
/-- LOG_RET1.RETHI, R213. -/
def LOG_RET1.RETHI : Fld := ⟨31, 28, .ro, 15⟩
/-- LOG_RET1.RET, R213. -/
def LOG_RET1.RET : Fld := ⟨27, 0, .rw, 0⟩
/-- The fields of LOG_RET1, R213. -/
def LOG_RET1.fields : List Fld := [LOG_RET1.RETHI, LOG_RET1.RET]
/-- LOG_RCFG.EN, R214. -/
def LOG_RCFG.EN : Fld := ⟨31, 31, .sh, 0⟩
/-- LOG_RCFG.FMT, R214. -/
def LOG_RCFG.FMT : Fld := ⟨30, 29, .sh, 0⟩
/-- LOG_RCFG.FULL, R214. -/
def LOG_RCFG.FULL : Fld := ⟨28, 28, .sh, 0⟩
/-- LOG_RCFG.LOGEN, R214. -/
def LOG_RCFG.LOGEN : Fld := ⟨27, 27, .sh, 0⟩
/-- LOG_RCFG.PRE, R214. -/
def LOG_RCFG.PRE : Fld := ⟨26, 23, .sh, 0⟩
/-- LOG_RCFG.MAXAGE, R214. -/
def LOG_RCFG.MAXAGE : Fld := ⟨22, 18, .sh, 31⟩
/-- LOG_RCFG.KV, R214. -/
def LOG_RCFG.KV : Fld := ⟨17, 13, .sh, 8⟩
/-- LOG_RCFG.KT, R214. -/
def LOG_RCFG.KT : Fld := ⟨12, 8, .sh, 0⟩
/-- The fields of LOG_RCFG, R214. -/
def LOG_RCFG.fields : List Fld := [LOG_RCFG.EN, LOG_RCFG.FMT, LOG_RCFG.FULL, LOG_RCFG.LOGEN, LOG_RCFG.PRE, LOG_RCFG.MAXAGE, LOG_RCFG.KV, LOG_RCFG.KT]
/-- LOG_RBASE.PAGE, R214. -/
def LOG_RBASE.PAGE : Fld := ⟨10, 0, .sh, 0⟩
/-- The fields of LOG_RBASE, R214. -/
def LOG_RBASE.fields : List Fld := [LOG_RBASE.PAGE]
/-- LOG_RSIZE.SEGS, R214. -/
def LOG_RSIZE.SEGS : Fld := ⟨10, 0, .sh, 0⟩
/-- The fields of LOG_RSIZE, R214. -/
def LOG_RSIZE.fields : List Fld := [LOG_RSIZE.SEGS]
/-- LOG_RSEQ.SSEQ, R214. -/
def LOG_RSEQ.SSEQ : Fld := ⟨31, 0, .ro, 0⟩
/-- The fields of LOG_RSEQ, R214. -/
def LOG_RSEQ.fields : List Fld := [LOG_RSEQ.SSEQ]
/-- LOG_ROLD.SSEQ, R214. -/
def LOG_ROLD.SSEQ : Fld := ⟨31, 0, .rw, 0⟩
/-- The fields of LOG_ROLD, R214. -/
def LOG_ROLD.fields : List Fld := [LOG_ROLD.SSEQ]
/-- LOG_RSTAT.DROP, R214. -/
def LOG_RSTAT.DROP : Fld := ⟨31, 16, .rc, 0⟩
/-- LOG_RSTAT.LOSTSEG, R214. -/
def LOG_RSTAT.LOSTSEG : Fld := ⟨15, 0, .rc, 0⟩
/-- The fields of LOG_RSTAT, R214. -/
def LOG_RSTAT.fields : List Fld := [LOG_RSTAT.DROP, LOG_RSTAT.LOSTSEG]
/-- LOG_FCFG.CSP, R215. -/
def LOG_FCFG.CSP : Fld := ⟨30, 28, .sh, 0⟩
/-- LOG_FCFG.ERASE, R215. -/
def LOG_FCFG.ERASE : Fld := ⟨27, 26, .sh, 0⟩
/-- LOG_FCFG.MODE, R215. -/
def LOG_FCFG.MODE : Fld := ⟨25, 25, .sh, 0⟩
/-- LOG_FCFG.FULL, R215. -/
def LOG_FCFG.FULL : Fld := ⟨24, 24, .sh, 0⟩
/-- LOG_FCFG.PAGE, R215. -/
def LOG_FCFG.PAGE : Fld := ⟨23, 23, .sh, 0⟩
/-- The fields of LOG_FCFG, R215. -/
def LOG_FCFG.fields : List Fld := [LOG_FCFG.CSP, LOG_FCFG.ERASE, LOG_FCFG.MODE, LOG_FCFG.FULL, LOG_FCFG.PAGE]
/-- LOG_FBASE.ADDR, R215. -/
def LOG_FBASE.ADDR : Fld := ⟨31, 0, .sh, 0⟩
/-- The fields of LOG_FBASE, R215. -/
def LOG_FBASE.fields : List Fld := [LOG_FBASE.ADDR]
/-- LOG_FSIZE.SECTORS, R215. -/
def LOG_FSIZE.SECTORS : Fld := ⟨15, 0, .sh, 0⟩
/-- The fields of LOG_FSIZE, R215. -/
def LOG_FSIZE.fields : List Fld := [LOG_FSIZE.SECTORS]
/-- LOG_FHEAD.BLOCK, R215. -/
def LOG_FHEAD.BLOCK : Fld := ⟨23, 16, .rw, 0⟩
/-- LOG_FHEAD.SECTOR, R215. -/
def LOG_FHEAD.SECTOR : Fld := ⟨15, 0, .rw, 0⟩
/-- The fields of LOG_FHEAD, R215. -/
def LOG_FHEAD.fields : List Fld := [LOG_FHEAD.BLOCK, LOG_FHEAD.SECTOR]
/-- LOG_FLSN.LSN, R215. -/
def LOG_FLSN.LSN : Fld := ⟨31, 0, .rw, 0⟩
/-- The fields of LOG_FLSN, R215. -/
def LOG_FLSN.fields : List Fld := [LOG_FLSN.LSN]
/-- LOG_FSTAT.FERR, R215. -/
def LOG_FSTAT.FERR : Fld := ⟨31, 31, .w1c, 0⟩
/-- LOG_FSTAT.ERASING, R215. -/
def LOG_FSTAT.ERASING : Fld := ⟨30, 30, .ro, 0⟩
/-- LOG_FSTAT.PROG, R215. -/
def LOG_FSTAT.PROG : Fld := ⟨29, 29, .ro, 0⟩
/-- LOG_FSTAT.BACKLOG, R215. -/
def LOG_FSTAT.BACKLOG : Fld := ⟨15, 0, .ro, 0⟩
/-- The fields of LOG_FSTAT, R215. -/
def LOG_FSTAT.fields : List Fld := [LOG_FSTAT.FERR, LOG_FSTAT.ERASING, LOG_FSTAT.PROG, LOG_FSTAT.BACKLOG]
/-- LOG_BTA.STATE, R215. -/
def LOG_BTA.STATE : Fld := ⟨31, 30, .ro, 0⟩
/-- LOG_BTA.RING, R215. -/
def LOG_BTA.RING : Fld := ⟨21, 16, .ro, 0⟩
/-- LOG_BTA.SEGS, R215. -/
def LOG_BTA.SEGS : Fld := ⟨10, 0, .ro, 0⟩
/-- The fields of LOG_BTA, R215. -/
def LOG_BTA.fields : List Fld := [LOG_BTA.STATE, LOG_BTA.RING, LOG_BTA.SEGS]
/-- LOG_BTB.FIRST, R215. -/
def LOG_BTB.FIRST : Fld := ⟨31, 0, .ro, 0⟩
/-- The fields of LOG_BTB, R215. -/
def LOG_BTB.fields : List Fld := [LOG_BTB.FIRST]
/-- HWU_TBASE.ADDR, R216. -/
def HWU_TBASE.ADDR : Fld := ⟨31, 6, .sh, 0⟩
/-- The fields of HWU_TBASE, R216. -/
def HWU_TBASE.fields : List Fld := [HWU_TBASE.ADDR]
/-- HWU_WSIZE.PAGES, R216. -/
def HWU_WSIZE.PAGES : Fld := ⟨14, 0, .sh, 0⟩
/-- The fields of HWU_WSIZE, R216. -/
def HWU_WSIZE.fields : List Fld := [HWU_WSIZE.PAGES]
/-- HWU_FAULT.VALID, R216. -/
def HWU_FAULT.VALID : Fld := ⟨31, 31, .w1c, 0⟩
/-- HWU_FAULT.LEVEL, R216. -/
def HWU_FAULT.LEVEL : Fld := ⟨30, 29, .ro, 0⟩
/-- HWU_FAULT.CODE, R216. -/
def HWU_FAULT.CODE : Fld := ⟨28, 28, .ro, 0⟩
/-- HWU_FAULT.ADDR, R216. -/
def HWU_FAULT.ADDR : Fld := ⟨25, 0, .ro, 0⟩
/-- The fields of HWU_FAULT, R216. -/
def HWU_FAULT.fields : List Fld := [HWU_FAULT.VALID, HWU_FAULT.LEVEL, HWU_FAULT.CODE, HWU_FAULT.ADDR]
/-- HWU_FCNT.COUNT, R216. -/
def HWU_FCNT.COUNT : Fld := ⟨15, 0, .rc, 0⟩
/-- The fields of HWU_FCNT, R216. -/
def HWU_FCNT.fields : List Fld := [HWU_FCNT.COUNT]
/-- HWU_COMMIT.PORT, R216. -/
def HWU_COMMIT.PORT : Fld := ⟨3, 0, .wo, 0⟩
/-- The fields of HWU_COMMIT, R216. -/
def HWU_COMMIT.fields : List Fld := [HWU_COMMIT.PORT]
/-- HWU_INV.PORT, R216. -/
def HWU_INV.PORT : Fld := ⟨3, 0, .wo, 0⟩
/-- The fields of HWU_INV, R216. -/
def HWU_INV.fields : List Fld := [HWU_INV.PORT]
/-- SNS_STATUS.LINKUP, R245. -/
def SNS_STATUS.LINKUP : Fld := ⟨31, 31, .ro, 0⟩
/-- SNS_STATUS.DIERST, R245. -/
def SNS_STATUS.DIERST : Fld := ⟨30, 30, .w1c, 0⟩
/-- SNS_STATUS.PENDING, R245. -/
def SNS_STATUS.PENDING : Fld := ⟨29, 29, .ro, 0⟩
/-- SNS_STATUS.REFUSED, R245. -/
def SNS_STATUS.REFUSED : Fld := ⟨28, 28, .w1c, 0⟩
/-- SNS_STATUS.CERR, R245. -/
def SNS_STATUS.CERR : Fld := ⟨27, 24, .ro, 0⟩
/-- The fields of SNS_STATUS, R245. -/
def SNS_STATUS.fields : List Fld := [SNS_STATUS.LINKUP, SNS_STATUS.DIERST, SNS_STATUS.PENDING, SNS_STATUS.REFUSED, SNS_STATUS.CERR]
/-- SNS_COMMIT.GO, R245. -/
def SNS_COMMIT.GO : Fld := ⟨0, 0, .wo, 0⟩
/-- The fields of SNS_COMMIT, R245. -/
def SNS_COMMIT.fields : List Fld := [SNS_COMMIT.GO]
/-- SNS_LINKSTAT.RETRY, R245. -/
def SNS_LINKSTAT.RETRY : Fld := ⟨31, 16, .rc, 0⟩
/-- SNS_LINKSTAT.DOWN, R245. -/
def SNS_LINKSTAT.DOWN : Fld := ⟨15, 8, .rc, 0⟩
/-- The fields of SNS_LINKSTAT, R245. -/
def SNS_LINKSTAT.fields : List Fld := [SNS_LINKSTAT.RETRY, SNS_LINKSTAT.DOWN]
/-- SNS_STAT.BUSY, R245. -/
def SNS_STAT.BUSY : Fld := ⟨31, 16, .rc, 0⟩
/-- SNS_STAT.OWSKIP, R245. -/
def SNS_STAT.OWSKIP : Fld := ⟨15, 0, .rc, 0⟩
/-- The fields of SNS_STAT, R245. -/
def SNS_STAT.fields : List Fld := [SNS_STAT.BUSY, SNS_STAT.OWSKIP]
/-- SNS_LAT.LAT, R245. -/
def SNS_LAT.LAT : Fld := ⟨15, 0, .ro, 0⟩
/-- The fields of SNS_LAT, R245. -/
def SNS_LAT.fields : List Fld := [SNS_LAT.LAT]
/-- SNS_OWCFG.TC, R246. -/
def SNS_OWCFG.TC : Fld := ⟨31, 30, .sh, 0⟩
/-- SNS_OWCFG.TINJ, R246. -/
def SNS_OWCFG.TINJ : Fld := ⟨29, 24, .sh, 20⟩
/-- SNS_OWCFG.TREC, R246. -/
def SNS_OWCFG.TREC : Fld := ⟨23, 18, .sh, 10⟩
/-- SNS_OWCFG.CLRN, R246. -/
def SNS_OWCFG.CLRN : Fld := ⟨17, 16, .sh, 1⟩
/-- The fields of SNS_OWCFG, R246. -/
def SNS_OWCFG.fields : List Fld := [SNS_OWCFG.TC, SNS_OWCFG.TINJ, SNS_OWCFG.TREC, SNS_OWCFG.CLRN]
/-- SNS_OWTH.OWTH, R246. -/
def SNS_OWTH.OWTH : Fld := ⟨31, 16, .sh, 30000⟩
/-- SNS_OWTH.PSTOL, R246. -/
def SNS_OWTH.PSTOL : Fld := ⟨15, 0, .sh, 2000⟩
/-- The fields of SNS_OWTH, R246. -/
def SNS_OWTH.fields : List Fld := [SNS_OWTH.OWTH, SNS_OWTH.PSTOL]
/-- SNS_OWSUS.SUSEN, R246. -/
def SNS_OWSUS.SUSEN : Fld := ⟨31, 31, .sh, 1⟩
/-- SNS_OWSUS.SUSTH, R246. -/
def SNS_OWSUS.SUSTH : Fld := ⟨15, 0, .sh, 2000⟩
/-- The fields of SNS_OWSUS, R246. -/
def SNS_OWSUS.fields : List Fld := [SNS_OWSUS.SUSEN, SNS_OWSUS.SUSTH]
/-- SNS_OWOPEN.WIRE, R246. -/
def SNS_OWOPEN.WIRE : Fld := ⟨19, 1, .ro, 0⟩
/-- The fields of SNS_OWOPEN, R246. -/
def SNS_OWOPEN.fields : List Fld := [SNS_OWOPEN.WIRE]
/-- SNS_OWSUSP.WIRE, R246. -/
def SNS_OWSUSP.WIRE : Fld := ⟨19, 1, .ro, 0⟩
/-- The fields of SNS_OWSUSP, R246. -/
def SNS_OWSUSP.fields : List Fld := [SNS_OWSUSP.WIRE]
/-- SNS_OWTESTED.WIRE, R246. -/
def SNS_OWTESTED.WIRE : Fld := ⟨19, 1, .ro, 0⟩
/-- The fields of SNS_OWTESTED, R246. -/
def SNS_OWTESTED.fields : List Fld := [SNS_OWTESTED.WIRE]
/-- SNS_OWLAST.WIRE, R246. -/
def SNS_OWLAST.WIRE : Fld := ⟨31, 27, .ro, 0⟩
/-- SNS_OWLAST.VERDICT, R246. -/
def SNS_OWLAST.VERDICT : Fld := ⟨26, 25, .ro, 0⟩
/-- The fields of SNS_OWLAST, R246. -/
def SNS_OWLAST.fields : List Fld := [SNS_OWLAST.WIRE, SNS_OWLAST.VERDICT]
/-- SNS_OWRUN.FIRST, R246. -/
def SNS_OWRUN.FIRST : Fld := ⟨31, 27, .ro, 0⟩
/-- SNS_OWRUN.LAST, R246. -/
def SNS_OWRUN.LAST : Fld := ⟨26, 22, .ro, 0⟩
/-- SNS_OWRUN.INCON, R246. -/
def SNS_OWRUN.INCON : Fld := ⟨15, 0, .rc, 0⟩
/-- The fields of SNS_OWRUN, R246. -/
def SNS_OWRUN.fields : List Fld := [SNS_OWRUN.FIRST, SNS_OWRUN.LAST, SNS_OWRUN.INCON]
/-- SNS_OWFIX.VALUE, R246. -/
def SNS_OWFIX.VALUE : Fld := ⟨31, 0, .ro, 0⟩
/-- The fields of SNS_OWFIX, R246. -/
def SNS_OWFIX.fields : List Fld := [SNS_OWFIX.VALUE]
/-- SNS_THCFG.BIASEN, R247. -/
def SNS_THCFG.BIASEN : Fld := ⟨23, 16, .sh, 255⟩
/-- SNS_THCFG.OPENTH, R247. -/
def SNS_THCFG.OPENTH : Fld := ⟨15, 0, .sh, 64512⟩
/-- The fields of SNS_THCFG, R247. -/
def SNS_THCFG.fields : List Fld := [SNS_THCFG.BIASEN, SNS_THCFG.OPENTH]
/-- SNS_ESTCFG.EN, R247. -/
def SNS_ESTCFG.EN : Fld := ⟨31, 31, .sh, 0⟩
/-- SNS_ESTCFG.EXEN, R247. -/
def SNS_ESTCFG.EXEN : Fld := ⟨30, 30, .sh, 0⟩
/-- SNS_ESTCFG.ZTAU, R247. -/
def SNS_ESTCFG.ZTAU : Fld := ⟨29, 25, .sh, 20⟩
/-- SNS_ESTCFG.OTAU, R247. -/
def SNS_ESTCFG.OTAU : Fld := ⟨24, 20, .sh, 12⟩
/-- SNS_ESTCFG.ISRC, R247. -/
def SNS_ESTCFG.ISRC : Fld := ⟨19, 16, .sh, 15⟩
/-- SNS_ESTCFG.ISEL, R247. -/
def SNS_ESTCFG.ISEL : Fld := ⟨15, 15, .sh, 0⟩
/-- SNS_ESTCFG.VTOL, R247. -/
def SNS_ESTCFG.VTOL : Fld := ⟨7, 0, .sh, 50⟩
/-- The fields of SNS_ESTCFG, R247. -/
def SNS_ESTCFG.fields : List Fld := [SNS_ESTCFG.EN, SNS_ESTCFG.EXEN, SNS_ESTCFG.ZTAU, SNS_ESTCFG.OTAU, SNS_ESTCFG.ISRC, SNS_ESTCFG.ISEL, SNS_ESTCFG.VTOL]
/-- SNS_ESTISC.ISCALE, R247. -/
def SNS_ESTISC.ISCALE : Fld := ⟨31, 0, .sh, 0⟩
/-- The fields of SNS_ESTISC, R247. -/
def SNS_ESTISC.fields : List Fld := [SNS_ESTISC.ISCALE]
/-- SNS_ZREF.ZREF, R247. -/
def SNS_ZREF.ZREF : Fld := ⟨15, 0, .sh, 0⟩
/-- The fields of SNS_ZREF, R247. -/
def SNS_ZREF.fields : List Fld := [SNS_ZREF.ZREF]
/-- SNS_SOCT.OCV, R247. -/
def SNS_SOCT.OCV : Fld := ⟨23, 0, .sh, 0⟩
/-- The fields of SNS_SOCT, R247. -/
def SNS_SOCT.fields : List Fld := [SNS_SOCT.OCV]
/-- SNS_EZ.Z, R247. -/
def SNS_EZ.Z : Fld := ⟨31, 16, .ro, 0⟩
/-- SNS_EZ.ZSIG, R247. -/
def SNS_EZ.ZSIG : Fld := ⟨15, 0, .ro, 65535⟩
/-- The fields of SNS_EZ, R247. -/
def SNS_EZ.fields : List Fld := [SNS_EZ.Z, SNS_EZ.ZSIG]
/-- SNS_EV.OCV, R247. -/
def SNS_EV.OCV : Fld := ⟨31, 8, .ro, 0⟩
/-- SNS_EV.OSIG, R247. -/
def SNS_EV.OSIG : Fld := ⟨7, 0, .ro, 255⟩
/-- The fields of SNS_EV, R247. -/
def SNS_EV.fields : List Fld := [SNS_EV.OCV, SNS_EV.OSIG]
/-- SNS_ES.SOC, R247. -/
def SNS_ES.SOC : Fld := ⟨31, 24, .ro, 0⟩
/-- SNS_ES.HEALTH, R247. -/
def SNS_ES.HEALTH : Fld := ⟨23, 16, .ro, 0⟩
/-- SNS_ES.SOCCONF, R247. -/
def SNS_ES.SOCCONF : Fld := ⟨15, 8, .ro, 0⟩
/-- SNS_ES.ZCONF, R247. -/
def SNS_ES.ZCONF : Fld := ⟨7, 0, .ro, 0⟩
/-- The fields of SNS_ES, R247. -/
def SNS_ES.fields : List Fld := [SNS_ES.SOC, SNS_ES.HEALTH, SNS_ES.SOCCONF, SNS_ES.ZCONF]
/-- CL_ISACFG.REFUSED, R284. -/
def CL_ISACFG.REFUSED : Fld := ⟨2, 2, .w1c, 0⟩
/-- CL_ISACFG.ENC1, R284. -/
def CL_ISACFG.ENC1 : Fld := ⟨1, 1, .rw, 0⟩
/-- CL_ISACFG.ENC0, R284. -/
def CL_ISACFG.ENC0 : Fld := ⟨0, 0, .rw, 0⟩
/-- The fields of CL_ISACFG, R284. -/
def CL_ISACFG.fields : List Fld := [CL_ISACFG.REFUSED, CL_ISACFG.ENC1, CL_ISACFG.ENC0]
/-- CL_UCADDR.REFUSED, R285. -/
def CL_UCADDR.REFUSED : Fld := ⟨31, 31, .w1c, 0⟩
/-- CL_UCADDR.TABLE, R285. -/
def CL_UCADDR.TABLE : Fld := ⟨30, 30, .rw, 0⟩
/-- CL_UCADDR.INC, R285. -/
def CL_UCADDR.INC : Fld := ⟨29, 29, .rw, 0⟩
/-- CL_UCADDR.CORE, R285. -/
def CL_UCADDR.CORE : Fld := ⟨8, 8, .rw, 0⟩
/-- CL_UCADDR.INDEX, R285. -/
def CL_UCADDR.INDEX : Fld := ⟨7, 0, .rw, 0⟩
/-- The fields of CL_UCADDR, R285. -/
def CL_UCADDR.fields : List Fld := [CL_UCADDR.REFUSED, CL_UCADDR.TABLE, CL_UCADDR.INC, CL_UCADDR.CORE, CL_UCADDR.INDEX]
/-- CL_UCDATA0.LO, R286. -/
def CL_UCDATA0.LO : Fld := ⟨31, 0, .rw, 0⟩
/-- The fields of CL_UCDATA0, R286. -/
def CL_UCDATA0.fields : List Fld := [CL_UCDATA0.LO]
/-- CL_UCDATA1.HI, R286. -/
def CL_UCDATA1.HI : Fld := ⟨31, 0, .rw, 0⟩
/-- The fields of CL_UCDATA1, R286. -/
def CL_UCDATA1.fields : List Fld := [CL_UCDATA1.HI]
/-- CL_CORECTL.RUN, R314. -/
def CL_CORECTL.RUN : Fld := ⟨31, 31, .rw, 0⟩
/-- CL_CORECTL.RST, R314. -/
def CL_CORECTL.RST : Fld := ⟨30, 30, .w1s, 0⟩
/-- CL_CORECTL.HALTED, R314. -/
def CL_CORECTL.HALTED : Fld := ⟨29, 29, .ro, 1⟩
/-- CL_CORECTL.FAILED, R314. -/
def CL_CORECTL.FAILED : Fld := ⟨28, 28, .ro, 0⟩
/-- The fields of CL_CORECTL, R314. -/
def CL_CORECTL.fields : List Fld := [CL_CORECTL.RUN, CL_CORECTL.RST, CL_CORECTL.HALTED, CL_CORECTL.FAILED]
/-- CL_PAIR.REFUSED, R316. -/
def CL_PAIR.REFUSED : Fld := ⟨2, 2, .w1c, 0⟩
/-- CL_PAIR.MODE, R316. -/
def CL_PAIR.MODE : Fld := ⟨1, 0, .rw, 0⟩
/-- The fields of CL_PAIR, R316. -/
def CL_PAIR.fields : List Fld := [CL_PAIR.REFUSED, CL_PAIR.MODE]
/-- CL_PAIRSTAT.TOOK, R316. -/
def CL_PAIRSTAT.TOOK : Fld := ⟨31, 31, .w1c, 0⟩
/-- CL_PAIRSTAT.CAUSE, R316. -/
def CL_PAIRSTAT.CAUSE : Fld := ⟨30, 28, .ro, 0⟩
/-- CL_PAIRSTAT.ACTING, R316. -/
def CL_PAIRSTAT.ACTING : Fld := ⟨27, 27, .ro, 0⟩
/-- CL_PAIRSTAT.WHO, R316. -/
def CL_PAIRSTAT.WHO : Fld := ⟨26, 26, .ro, 0⟩
/-- The fields of CL_PAIRSTAT, R316. -/
def CL_PAIRSTAT.fields : List Fld := [CL_PAIRSTAT.TOOK, CL_PAIRSTAT.CAUSE, CL_PAIRSTAT.ACTING, CL_PAIRSTAT.WHO]
/-- HP_ID.MAGIC, R334. -/
def HP_ID.MAGIC : Fld := ⟨31, 16, .ro, 18264⟩
/-- HP_ID.REV, R334. -/
def HP_ID.REV : Fld := ⟨15, 8, .ro, 0⟩
/-- HP_ID.PORT, R334. -/
def HP_ID.PORT : Fld := ⟨1, 0, .ro, 0⟩
/-- The fields of HP_ID, R334. -/
def HP_ID.fields : List Fld := [HP_ID.MAGIC, HP_ID.REV, HP_ID.PORT]
/-- HP_STATUS.READY, R334. -/
def HP_STATUS.READY : Fld := ⟨31, 31, .ro, 0⟩
/-- HP_STATUS.RINGS, R334. -/
def HP_STATUS.RINGS : Fld := ⟨30, 30, .ro, 0⟩
/-- HP_STATUS.SESSION, R334. -/
def HP_STATUS.SESSION : Fld := ⟨29, 29, .ro, 0⟩
/-- HP_STATUS.TCRST, R334. -/
def HP_STATUS.TCRST : Fld := ⟨28, 28, .w1c, 0⟩
/-- HP_STATUS.MODE, R334. -/
def HP_STATUS.MODE : Fld := ⟨2, 0, .ro, 0⟩
/-- The fields of HP_STATUS, R334. -/
def HP_STATUS.fields : List Fld := [HP_STATUS.READY, HP_STATUS.RINGS, HP_STATUS.SESSION, HP_STATUS.TCRST, HP_STATUS.MODE]
/-- HP_CFG.LANES, R334. -/
def HP_CFG.LANES : Fld := ⟨31, 30, .rw, 0⟩
/-- HP_CFG.DDR, R334. -/
def HP_CFG.DDR : Fld := ⟨29, 29, .rw, 0⟩
/-- HP_CFG.DUMMY, R334. -/
def HP_CFG.DUMMY : Fld := ⟨28, 24, .rw, 16⟩
/-- HP_CFG.TWADDR, R334. -/
def HP_CFG.TWADDR : Fld := ⟨6, 0, .rw, 0⟩
/-- The fields of HP_CFG, R334. -/
def HP_CFG.fields : List Fld := [HP_CFG.LANES, HP_CFG.DDR, HP_CFG.DUMMY, HP_CFG.TWADDR]
/-- HP_CTL.ABORT, R334. -/
def HP_CTL.ABORT : Fld := ⟨31, 31, .w1s, 0⟩
/-- The fields of HP_CTL, R334. -/
def HP_CTL.fields : List Fld := [HP_CTL.ABORT]
/-- HP_ATTN.ENRULE, R334. -/
def HP_ATTN.ENRULE : Fld := ⟨31, 31, .rw, 1⟩
/-- HP_ATTN.ENMSG, R334. -/
def HP_ATTN.ENMSG : Fld := ⟨30, 30, .rw, 0⟩
/-- HP_ATTN.WAKE, R334. -/
def HP_ATTN.WAKE : Fld := ⟨3, 3, .w1c, 0⟩
/-- HP_ATTN.MSG, R334. -/
def HP_ATTN.MSG : Fld := ⟨1, 1, .ro, 0⟩
/-- HP_ATTN.RULE, R334. -/
def HP_ATTN.RULE : Fld := ⟨0, 0, .w1c, 0⟩
/-- The fields of HP_ATTN, R334. -/
def HP_ATTN.fields : List Fld := [HP_ATTN.ENRULE, HP_ATTN.ENMSG, HP_ATTN.WAKE, HP_ATTN.MSG, HP_ATTN.RULE]
/-- HP_INPROD.SEQ, R334. -/
def HP_INPROD.SEQ : Fld := ⟨15, 0, .rw, 0⟩
/-- The fields of HP_INPROD, R334. -/
def HP_INPROD.fields : List Fld := [HP_INPROD.SEQ]
/-- HP_INACK.SEQ, R334. -/
def HP_INACK.SEQ : Fld := ⟨15, 0, .ro, 0⟩
/-- The fields of HP_INACK, R334. -/
def HP_INACK.fields : List Fld := [HP_INACK.SEQ]
/-- HP_OUTPROD.SEQ, R334. -/
def HP_OUTPROD.SEQ : Fld := ⟨15, 0, .ro, 0⟩
/-- The fields of HP_OUTPROD, R334. -/
def HP_OUTPROD.fields : List Fld := [HP_OUTPROD.SEQ]
/-- HP_OUTACK.SEQ, R334. -/
def HP_OUTACK.SEQ : Fld := ⟨15, 0, .rw, 0⟩
/-- The fields of HP_OUTACK, R334. -/
def HP_OUTACK.fields : List Fld := [HP_OUTACK.SEQ]
/-- HP_ERR.DISC, R334. -/
def HP_ERR.DISC : Fld := ⟨31, 16, .rc, 0⟩
/-- HP_ERR.LATE, R334. -/
def HP_ERR.LATE : Fld := ⟨15, 0, .rc, 0⟩
/-- The fields of HP_ERR, R334. -/
def HP_ERR.fields : List Fld := [HP_ERR.DISC, HP_ERR.LATE]
/-- HP_INBASE.ADDR, R334. -/
def HP_INBASE.ADDR : Fld := ⟨31, 0, .ro, 0⟩
/-- The fields of HP_INBASE, R334. -/
def HP_INBASE.fields : List Fld := [HP_INBASE.ADDR]
/-- HP_OUTBASE.ADDR, R334. -/
def HP_OUTBASE.ADDR : Fld := ⟨31, 0, .ro, 0⟩
/-- The fields of HP_OUTBASE, R334. -/
def HP_OUTBASE.fields : List Fld := [HP_OUTBASE.ADDR]
/-- TWB_CFG.EN, R381. -/
def TWB_CFG.EN : Fld := ⟨31, 31, .sh, 0⟩
/-- TWB_CFG.MODE, R381. -/
def TWB_CFG.MODE : Fld := ⟨30, 29, .sh, 0⟩
/-- TWB_CFG.TOUT, R381. -/
def TWB_CFG.TOUT : Fld := ⟨28, 28, .sh, 0⟩
/-- TWB_CFG.ALERTEN, R381. -/
def TWB_CFG.ALERTEN : Fld := ⟨27, 27, .sh, 0⟩
/-- TWB_CFG.TEN, R381. -/
def TWB_CFG.TEN : Fld := ⟨26, 26, .sh, 0⟩
/-- TWB_CFG.TADDR, R381. -/
def TWB_CFG.TADDR : Fld := ⟨23, 17, .sh, 0⟩
/-- TWB_CFG.GLITCH, R381. -/
def TWB_CFG.GLITCH : Fld := ⟨16, 12, .sh, 6⟩
/-- The fields of TWB_CFG, R381. -/
def TWB_CFG.fields : List Fld := [TWB_CFG.EN, TWB_CFG.MODE, TWB_CFG.TOUT, TWB_CFG.ALERTEN, TWB_CFG.TEN, TWB_CFG.TADDR, TWB_CFG.GLITCH]
/-- TWB_TIMING.SCLH, R381. -/
def TWB_TIMING.SCLH : Fld := ⟨31, 16, .sh, 500⟩
/-- TWB_TIMING.SCLL, R381. -/
def TWB_TIMING.SCLL : Fld := ⟨15, 0, .sh, 500⟩
/-- The fields of TWB_TIMING, R381. -/
def TWB_TIMING.fields : List Fld := [TWB_TIMING.SCLH, TWB_TIMING.SCLL]
/-- TWB_TIMING2.BFREE, R381. -/
def TWB_TIMING2.BFREE : Fld := ⟨31, 16, .sh, 470⟩
/-- TWB_TIMING2.SDAHOLD, R381. -/
def TWB_TIMING2.SDAHOLD : Fld := ⟨15, 8, .sh, 30⟩
/-- The fields of TWB_TIMING2, R381. -/
def TWB_TIMING2.fields : List Fld := [TWB_TIMING2.BFREE, TWB_TIMING2.SDAHOLD]
/-- TWB_RECOV.RETRY, R381. -/
def TWB_RECOV.RETRY : Fld := ⟨31, 24, .sh, 10⟩
/-- TWB_RECOV.WAIT, R381. -/
def TWB_RECOV.WAIT : Fld := ⟨23, 16, .sh, 10⟩
/-- TWB_RECOV.AGAP, R381. -/
def TWB_RECOV.AGAP : Fld := ⟨15, 8, .sh, 1⟩
/-- The fields of TWB_RECOV, R381. -/
def TWB_RECOV.fields : List Fld := [TWB_RECOV.RETRY, TWB_RECOV.WAIT, TWB_RECOV.AGAP]
/-- TWB_COMMIT.GO, R381. -/
def TWB_COMMIT.GO : Fld := ⟨0, 0, .wo, 0⟩
/-- The fields of TWB_COMMIT, R381. -/
def TWB_COMMIT.fields : List Fld := [TWB_COMMIT.GO]
/-- TWB_DESCA.EN, R382. -/
def TWB_DESCA.EN : Fld := ⟨31, 31, .sh, 0⟩
/-- TWB_DESCA.KIND, R382. -/
def TWB_DESCA.KIND : Fld := ⟨30, 28, .sh, 0⟩
/-- TWB_DESCA.TEN, R382. -/
def TWB_DESCA.TEN : Fld := ⟨27, 27, .sh, 0⟩
/-- TWB_DESCA.PEC, R382. -/
def TWB_DESCA.PEC : Fld := ⟨26, 26, .sh, 0⟩
/-- TWB_DESCA.STOPMID, R382. -/
def TWB_DESCA.STOPMID : Fld := ⟨25, 25, .sh, 0⟩
/-- TWB_DESCA.WLEN, R382. -/
def TWB_DESCA.WLEN : Fld := ⟨24, 22, .sh, 0⟩
/-- TWB_DESCA.RLEN, R382. -/
def TWB_DESCA.RLEN : Fld := ⟨21, 15, .sh, 0⟩
/-- TWB_DESCA.ADDR, R382. -/
def TWB_DESCA.ADDR : Fld := ⟨9, 0, .sh, 0⟩
/-- The fields of TWB_DESCA, R382. -/
def TWB_DESCA.fields : List Fld := [TWB_DESCA.EN, TWB_DESCA.KIND, TWB_DESCA.TEN, TWB_DESCA.PEC, TWB_DESCA.STOPMID, TWB_DESCA.WLEN, TWB_DESCA.RLEN, TWB_DESCA.ADDR]
/-- TWB_DESCB.WDATA, R382. -/
def TWB_DESCB.WDATA : Fld := ⟨31, 0, .sh, 0⟩
/-- The fields of TWB_DESCB, R382. -/
def TWB_DESCB.fields : List Fld := [TWB_DESCB.WDATA]
/-- TWB_STATUS.BUSBUSY, R383. -/
def TWB_STATUS.BUSBUSY : Fld := ⟨31, 31, .ro, 0⟩
/-- TWB_STATUS.ACTIVE, R383. -/
def TWB_STATUS.ACTIVE : Fld := ⟨30, 30, .ro, 0⟩
/-- TWB_STATUS.TARGET, R383. -/
def TWB_STATUS.TARGET : Fld := ⟨29, 29, .ro, 0⟩
/-- TWB_STATUS.STUCK, R383. -/
def TWB_STATUS.STUCK : Fld := ⟨28, 28, .ro, 0⟩
/-- TWB_STATUS.PENDING, R383. -/
def TWB_STATUS.PENDING : Fld := ⟨27, 27, .ro, 0⟩
/-- TWB_STATUS.REFUSED, R383. -/
def TWB_STATUS.REFUSED : Fld := ⟨26, 26, .w1c, 0⟩
/-- TWB_STATUS.CERR, R383. -/
def TWB_STATUS.CERR : Fld := ⟨25, 22, .ro, 0⟩
/-- TWB_STATUS.MBUSY, R383. -/
def TWB_STATUS.MBUSY : Fld := ⟨21, 21, .ro, 0⟩
/-- TWB_STATUS.MREFUSED, R383. -/
def TWB_STATUS.MREFUSED : Fld := ⟨20, 20, .w1c, 0⟩
/-- TWB_STATUS.MERR, R383. -/
def TWB_STATUS.MERR : Fld := ⟨18, 16, .ro, 0⟩
/-- TWB_STATUS.LERR, R383. -/
def TWB_STATUS.LERR : Fld := ⟨14, 12, .ro, 0⟩
/-- The fields of TWB_STATUS, R383. -/
def TWB_STATUS.fields : List Fld := [TWB_STATUS.BUSBUSY, TWB_STATUS.ACTIVE, TWB_STATUS.TARGET, TWB_STATUS.STUCK, TWB_STATUS.PENDING, TWB_STATUS.REFUSED, TWB_STATUS.CERR, TWB_STATUS.MBUSY, TWB_STATUS.MREFUSED, TWB_STATUS.MERR, TWB_STATUS.LERR]
/-- TWB_STAT.ARBLOST, R383. -/
def TWB_STAT.ARBLOST : Fld := ⟨31, 24, .rc, 0⟩
/-- TWB_STAT.ERRS, R383. -/
def TWB_STAT.ERRS : Fld := ⟨23, 16, .rc, 0⟩
/-- TWB_STAT.CLEARS, R383. -/
def TWB_STAT.CLEARS : Fld := ⟨15, 8, .rc, 0⟩
/-- TWB_STAT.ANACK, R383. -/
def TWB_STAT.ANACK : Fld := ⟨7, 0, .rc, 0⟩
/-- The fields of TWB_STAT, R383. -/
def TWB_STAT.fields : List Fld := [TWB_STAT.ARBLOST, TWB_STAT.ERRS, TWB_STAT.CLEARS, TWB_STAT.ANACK]
/-- TWB_ALERT.POP, R384. -/
def TWB_ALERT.POP : Fld := ⟨31, 31, .wo, 0⟩
/-- TWB_ALERT.LEVEL, R384. -/
def TWB_ALERT.LEVEL : Fld := ⟨18, 16, .ro, 0⟩
/-- TWB_ALERT.OVF, R384. -/
def TWB_ALERT.OVF : Fld := ⟨15, 8, .rc, 0⟩
/-- TWB_ALERT.VALID, R384. -/
def TWB_ALERT.VALID : Fld := ⟨7, 7, .ro, 0⟩
/-- TWB_ALERT.HEAD, R384. -/
def TWB_ALERT.HEAD : Fld := ⟨6, 0, .ro, 0⟩
/-- The fields of TWB_ALERT, R384. -/
def TWB_ALERT.fields : List Fld := [TWB_ALERT.POP, TWB_ALERT.LEVEL, TWB_ALERT.OVF, TWB_ALERT.VALID, TWB_ALERT.HEAD]
/-- TWB_MAN.GO, R384. -/
def TWB_MAN.GO : Fld := ⟨31, 31, .wo, 0⟩
/-- TWB_MAN.DESC, R384. -/
def TWB_MAN.DESC : Fld := ⟨4, 0, .wo, 0⟩
/-- The fields of TWB_MAN, R384. -/
def TWB_MAN.fields : List Fld := [TWB_MAN.GO, TWB_MAN.DESC]
/-- TWB_MDATA.DATA, R384. -/
def TWB_MDATA.DATA : Fld := ⟨31, 0, .ro, 0⟩
/-- The fields of TWB_MDATA, R384. -/
def TWB_MDATA.fields : List Fld := [TWB_MDATA.DATA]
/-- TWB_TDATA.DATA, R384. -/
def TWB_TDATA.DATA : Fld := ⟨31, 0, .rw, 0⟩
/-- The fields of TWB_TDATA, R384. -/
def TWB_TDATA.fields : List Fld := [TWB_TDATA.DATA]
/-- CSP_CFG.EN, R405. -/
def CSP_CFG.EN : Fld := ⟨31, 31, .sh, 0⟩
/-- CSP_CFG.TGT, R405. -/
def CSP_CFG.TGT : Fld := ⟨30, 30, .sh, 0⟩
/-- CSP_CFG.CPOL, R405. -/
def CSP_CFG.CPOL : Fld := ⟨29, 29, .sh, 0⟩
/-- CSP_CFG.SDLY, R405. -/
def CSP_CFG.SDLY : Fld := ⟨26, 24, .sh, 0⟩
/-- CSP_CFG.PTOUT, R405. -/
def CSP_CFG.PTOUT : Fld := ⟨23, 16, .sh, 10⟩
/-- CSP_CFG.STO, R405. -/
def CSP_CFG.STO : Fld := ⟨15, 8, .sh, 8⟩
/-- CSP_CFG.DIV, R405. -/
def CSP_CFG.DIV : Fld := ⟨7, 0, .sh, 3⟩
/-- The fields of CSP_CFG, R405. -/
def CSP_CFG.fields : List Fld := [CSP_CFG.EN, CSP_CFG.TGT, CSP_CFG.CPOL, CSP_CFG.SDLY, CSP_CFG.PTOUT, CSP_CFG.STO, CSP_CFG.DIV]
/-- CSP_TIMING.CSS, R405. -/
def CSP_TIMING.CSS : Fld := ⟨31, 24, .sh, 1⟩
/-- CSP_TIMING.CSH, R405. -/
def CSP_TIMING.CSH : Fld := ⟨23, 16, .sh, 1⟩
/-- CSP_TIMING.CSIDLE, R405. -/
def CSP_TIMING.CSIDLE : Fld := ⟨15, 8, .sh, 2⟩
/-- The fields of CSP_TIMING, R405. -/
def CSP_TIMING.fields : List Fld := [CSP_TIMING.CSS, CSP_TIMING.CSH, CSP_TIMING.CSIDLE]
/-- CSP_COMMIT.GO, R405. -/
def CSP_COMMIT.GO : Fld := ⟨0, 0, .wo, 0⟩
/-- The fields of CSP_COMMIT, R405. -/
def CSP_COMMIT.fields : List Fld := [CSP_COMMIT.GO]
/-- CSP_STATUS.ACTIVE, R405. -/
def CSP_STATUS.ACTIVE : Fld := ⟨31, 31, .ro, 0⟩
/-- CSP_STATUS.TARGET, R405. -/
def CSP_STATUS.TARGET : Fld := ⟨30, 30, .ro, 0⟩
/-- CSP_STATUS.PENDING, R405. -/
def CSP_STATUS.PENDING : Fld := ⟨29, 29, .ro, 0⟩
/-- CSP_STATUS.REFUSED, R405. -/
def CSP_STATUS.REFUSED : Fld := ⟨28, 28, .w1c, 0⟩
/-- CSP_STATUS.CERR, R405. -/
def CSP_STATUS.CERR : Fld := ⟨27, 24, .ro, 0⟩
/-- CSP_STATUS.MBUSY, R405. -/
def CSP_STATUS.MBUSY : Fld := ⟨23, 23, .ro, 0⟩
/-- CSP_STATUS.MREFUSED, R405. -/
def CSP_STATUS.MREFUSED : Fld := ⟨22, 22, .w1c, 0⟩
/-- CSP_STATUS.MSUSP, R405. -/
def CSP_STATUS.MSUSP : Fld := ⟨21, 21, .ro, 0⟩
/-- CSP_STATUS.MERR, R405. -/
def CSP_STATUS.MERR : Fld := ⟨20, 18, .ro, 0⟩
/-- CSP_STATUS.LERR, R405. -/
def CSP_STATUS.LERR : Fld := ⟨17, 15, .ro, 0⟩
/-- The fields of CSP_STATUS, R405. -/
def CSP_STATUS.fields : List Fld := [CSP_STATUS.ACTIVE, CSP_STATUS.TARGET, CSP_STATUS.PENDING, CSP_STATUS.REFUSED, CSP_STATUS.CERR, CSP_STATUS.MBUSY, CSP_STATUS.MREFUSED, CSP_STATUS.MSUSP, CSP_STATUS.MERR, CSP_STATUS.LERR]
/-- CSP_STAT.ERRS, R405. -/
def CSP_STAT.ERRS : Fld := ⟨31, 24, .rc, 0⟩
/-- CSP_STAT.SUSP, R405. -/
def CSP_STAT.SUSP : Fld := ⟨23, 16, .rc, 0⟩
/-- CSP_STAT.TWRITE, R405. -/
def CSP_STAT.TWRITE : Fld := ⟨15, 8, .rc, 0⟩
/-- The fields of CSP_STAT, R405. -/
def CSP_STAT.fields : List Fld := [CSP_STAT.ERRS, CSP_STAT.SUSP, CSP_STAT.TWRITE]
/-- CSP_MAN.GO, R405. -/
def CSP_MAN.GO : Fld := ⟨31, 31, .wo, 0⟩
/-- CSP_MAN.AOVR, R405. -/
def CSP_MAN.AOVR : Fld := ⟨30, 30, .wo, 0⟩
/-- CSP_MAN.LOVR, R405. -/
def CSP_MAN.LOVR : Fld := ⟨29, 29, .wo, 0⟩
/-- CSP_MAN.DESC, R405. -/
def CSP_MAN.DESC : Fld := ⟨3, 0, .wo, 0⟩
/-- The fields of CSP_MAN, R405. -/
def CSP_MAN.fields : List Fld := [CSP_MAN.GO, CSP_MAN.AOVR, CSP_MAN.LOVR, CSP_MAN.DESC]
/-- CSP_MADR.ADDR, R405. -/
def CSP_MADR.ADDR : Fld := ⟨31, 0, .rw, 0⟩
/-- The fields of CSP_MADR, R405. -/
def CSP_MADR.fields : List Fld := [CSP_MADR.ADDR]
/-- CSP_MLEN.LEN, R405. -/
def CSP_MLEN.LEN : Fld := ⟨12, 0, .rw, 0⟩
/-- The fields of CSP_MLEN, R405. -/
def CSP_MLEN.fields : List Fld := [CSP_MLEN.LEN]
/-- CSP_MBUF.ADDR, R405. -/
def CSP_MBUF.ADDR : Fld := ⟨31, 0, .rw, 0⟩
/-- The fields of CSP_MBUF, R405. -/
def CSP_MBUF.fields : List Fld := [CSP_MBUF.ADDR]
/-- CSP_DRAIN.NS, R405. -/
def CSP_DRAIN.NS : Fld := ⟨15, 0, .ro, 0⟩
/-- The fields of CSP_DRAIN, R405. -/
def CSP_DRAIN.fields : List Fld := [CSP_DRAIN.NS]
/-- CSP_TX.DATA, R405. -/
def CSP_TX.DATA : Fld := ⟨31, 0, .rw, 0⟩
/-- The fields of CSP_TX, R405. -/
def CSP_TX.fields : List Fld := [CSP_TX.DATA]
/-- CSP_TDATA.DATA, R405. -/
def CSP_TDATA.DATA : Fld := ⟨31, 0, .rw, 0⟩
/-- The fields of CSP_TDATA, R405. -/
def CSP_TDATA.fields : List Fld := [CSP_TDATA.DATA]
/-- CSP_DCMD.EN, R405. -/
def CSP_DCMD.EN : Fld := ⟨31, 31, .sh, 0⟩
/-- CSP_DCMD.DIR, R405. -/
def CSP_DCMD.DIR : Fld := ⟨30, 29, .sh, 0⟩
/-- CSP_DCMD.CS, R405. -/
def CSP_DCMD.CS : Fld := ⟨28, 28, .sh, 0⟩
/-- CSP_DCMD.CBITS, R405. -/
def CSP_DCMD.CBITS : Fld := ⟨27, 23, .sh, 0⟩
/-- CSP_DCMD.CLANES, R405. -/
def CSP_DCMD.CLANES : Fld := ⟨22, 21, .sh, 0⟩
/-- CSP_DCMD.CDDR, R405. -/
def CSP_DCMD.CDDR : Fld := ⟨20, 20, .sh, 0⟩
/-- CSP_DCMD.CVAL, R405. -/
def CSP_DCMD.CVAL : Fld := ⟨15, 0, .sh, 0⟩
/-- The fields of CSP_DCMD, R405. -/
def CSP_DCMD.fields : List Fld := [CSP_DCMD.EN, CSP_DCMD.DIR, CSP_DCMD.CS, CSP_DCMD.CBITS, CSP_DCMD.CLANES, CSP_DCMD.CDDR, CSP_DCMD.CVAL]
/-- CSP_DADR.ADDR, R405. -/
def CSP_DADR.ADDR : Fld := ⟨31, 0, .sh, 0⟩
/-- The fields of CSP_DADR, R405. -/
def CSP_DADR.fields : List Fld := [CSP_DADR.ADDR]
/-- CSP_DFMT.ABITS, R405. -/
def CSP_DFMT.ABITS : Fld := ⟨31, 26, .sh, 0⟩
/-- CSP_DFMT.ALANES, R405. -/
def CSP_DFMT.ALANES : Fld := ⟨25, 24, .sh, 0⟩
/-- CSP_DFMT.ADDR_DDR, R405. -/
def CSP_DFMT.ADDR_DDR : Fld := ⟨23, 23, .sh, 0⟩
/-- CSP_DFMT.DUMMY, R405. -/
def CSP_DFMT.DUMMY : Fld := ⟨22, 18, .sh, 0⟩
/-- CSP_DFMT.DLANES, R405. -/
def CSP_DFMT.DLANES : Fld := ⟨17, 16, .sh, 0⟩
/-- CSP_DFMT.DDDR, R405. -/
def CSP_DFMT.DDDR : Fld := ⟨15, 15, .sh, 0⟩
/-- CSP_DFMT.DLEN, R405. -/
def CSP_DFMT.DLEN : Fld := ⟨12, 0, .sh, 0⟩
/-- The fields of CSP_DFMT, R405. -/
def CSP_DFMT.fields : List Fld := [CSP_DFMT.ABITS, CSP_DFMT.ALANES, CSP_DFMT.ADDR_DDR, CSP_DFMT.DUMMY, CSP_DFMT.DLANES, CSP_DFMT.DDDR, CSP_DFMT.DLEN]
/-- CSP_DPOLL.POLL, R405. -/
def CSP_DPOLL.POLL : Fld := ⟨31, 31, .sh, 0⟩
/-- CSP_DPOLL.MASK, R405. -/
def CSP_DPOLL.MASK : Fld := ⟨23, 16, .sh, 0⟩
/-- CSP_DPOLL.VAL, R405. -/
def CSP_DPOLL.VAL : Fld := ⟨15, 8, .sh, 0⟩
/-- CSP_DPOLL.INTERVAL, R405. -/
def CSP_DPOLL.INTERVAL : Fld := ⟨7, 0, .sh, 1⟩
/-- The fields of CSP_DPOLL, R405. -/
def CSP_DPOLL.fields : List Fld := [CSP_DPOLL.POLL, CSP_DPOLL.MASK, CSP_DPOLL.VAL, CSP_DPOLL.INTERVAL]
/-- TMR_CTL.ARM, R422. -/
def TMR_CTL.ARM : Fld := ⟨31, 31, .wo, 0⟩
/-- TMR_CTL.STOP, R422. -/
def TMR_CTL.STOP : Fld := ⟨30, 30, .wo, 0⟩
/-- TMR_CTL.CIE, R422. -/
def TMR_CTL.CIE : Fld := ⟨1, 1, .rw, 0⟩
/-- TMR_CTL.IE, R422. -/
def TMR_CTL.IE : Fld := ⟨0, 0, .rw, 0⟩
/-- The fields of TMR_CTL, R422. -/
def TMR_CTL.fields : List Fld := [TMR_CTL.ARM, TMR_CTL.STOP, TMR_CTL.CIE, TMR_CTL.IE]
/-- TMR_CFG.SRC, R422. -/
def TMR_CFG.SRC : Fld := ⟨31, 29, .sh, 3⟩
/-- TMR_CFG.XEDGE, R422. -/
def TMR_CFG.XEDGE : Fld := ⟨28, 27, .sh, 0⟩
/-- TMR_CFG.FREEZE, R422. -/
def TMR_CFG.FREEZE : Fld := ⟨26, 26, .sh, 1⟩
/-- TMR_CFG.DITHER, R422. -/
def TMR_CFG.DITHER : Fld := ⟨25, 25, .sh, 0⟩
/-- TMR_CFG.CEDGE, R422. -/
def TMR_CFG.CEDGE : Fld := ⟨24, 23, .sh, 3⟩
/-- The fields of TMR_CFG, R422. -/
def TMR_CFG.fields : List Fld := [TMR_CFG.SRC, TMR_CFG.XEDGE, TMR_CFG.FREEZE, TMR_CFG.DITHER, TMR_CFG.CEDGE]
/-- TMR_PRE.INT, R422. -/
def TMR_PRE.INT : Fld := ⟨31, 16, .sh, 1⟩
/-- TMR_PRE.FRAC, R422. -/
def TMR_PRE.FRAC : Fld := ⟨15, 0, .sh, 0⟩
/-- The fields of TMR_PRE, R422. -/
def TMR_PRE.fields : List Fld := [TMR_PRE.INT, TMR_PRE.FRAC]
/-- TMR_LIMIT.LIMIT, R422. -/
def TMR_LIMIT.LIMIT : Fld := ⟨31, 0, .sh, 0xffffffff⟩
/-- The fields of TMR_LIMIT, R422. -/
def TMR_LIMIT.fields : List Fld := [TMR_LIMIT.LIMIT]
/-- TMR_COUNT.COUNT, R422. -/
def TMR_COUNT.COUNT : Fld := ⟨31, 0, .ro, 0⟩
/-- The fields of TMR_COUNT, R422. -/
def TMR_COUNT.fields : List Fld := [TMR_COUNT.COUNT]
/-- TMR_STATUS.RUNNING, R422. -/
def TMR_STATUS.RUNNING : Fld := ⟨31, 31, .ro, 0⟩
/-- TMR_STATUS.DONE, R422. -/
def TMR_STATUS.DONE : Fld := ⟨30, 30, .w1c, 0⟩
/-- TMR_STATUS.FROZEN, R422. -/
def TMR_STATUS.FROZEN : Fld := ⟨29, 29, .ro, 0⟩
/-- TMR_STATUS.NOPIN, R422. -/
def TMR_STATUS.NOPIN : Fld := ⟨28, 28, .w1c, 0⟩
/-- TMR_STATUS.COVF, R422. -/
def TMR_STATUS.COVF : Fld := ⟨15, 8, .rc, 0⟩
/-- TMR_STATUS.CLEVEL, R422. -/
def TMR_STATUS.CLEVEL : Fld := ⟨2, 0, .ro, 0⟩
/-- The fields of TMR_STATUS, R422. -/
def TMR_STATUS.fields : List Fld := [TMR_STATUS.RUNNING, TMR_STATUS.DONE, TMR_STATUS.FROZEN, TMR_STATUS.NOPIN, TMR_STATUS.COVF, TMR_STATUS.CLEVEL]
/-- TMR_CAP.VALUE, R422. -/
def TMR_CAP.VALUE : Fld := ⟨31, 0, .ro, 0xffffffff⟩
/-- The fields of TMR_CAP, R422. -/
def TMR_CAP.fields : List Fld := [TMR_CAP.VALUE]
/-- TMR_PIN.CPIN, R422. -/
def TMR_PIN.CPIN : Fld := ⟨13, 8, .sh, 63⟩
/-- TMR_PIN.XPIN, R422. -/
def TMR_PIN.XPIN : Fld := ⟨5, 0, .sh, 63⟩
/-- The fields of TMR_PIN, R422. -/
def TMR_PIN.fields : List Fld := [TMR_PIN.CPIN, TMR_PIN.XPIN]
/-- PWR_STATUS.BUSY, R451. -/
def PWR_STATUS.BUSY : Fld := ⟨31, 31, .ro, 0⟩
/-- PWR_STATUS.PHASE, R451. -/
def PWR_STATUS.PHASE : Fld := ⟨30, 28, .ro, 0⟩
/-- PWR_STATUS.CERR, R451. -/
def PWR_STATUS.CERR : Fld := ⟨27, 24, .ro, 0⟩
/-- PWR_STATUS.REFUSED, R451. -/
def PWR_STATUS.REFUSED : Fld := ⟨23, 23, .w1c, 0⟩
/-- PWR_STATUS.TARGET, R451. -/
def PWR_STATUS.TARGET : Fld := ⟨10, 8, .ro, 4⟩
/-- PWR_STATUS.MODE, R451. -/
def PWR_STATUS.MODE : Fld := ⟨2, 0, .ro, 4⟩
/-- The fields of PWR_STATUS, R451. -/
def PWR_STATUS.fields : List Fld := [PWR_STATUS.BUSY, PWR_STATUS.PHASE, PWR_STATUS.CERR, PWR_STATUS.REFUSED, PWR_STATUS.TARGET, PWR_STATUS.MODE]
/-- PWR_BASE.MODE, R451. -/
def PWR_BASE.MODE : Fld := ⟨2, 0, .rw, 4⟩
/-- The fields of PWR_BASE, R451. -/
def PWR_BASE.fields : List Fld := [PWR_BASE.MODE]
/-- PWR_FLOOR.HOLDn, R451. -/
def PWR_FLOOR.HOLD (n : Nat) : Fld := ⟨4 * n + 3, 4 * n + 3, .rw, 0⟩
/-- PWR_FLOOR.MODEn, R451. -/
def PWR_FLOOR.MODE (n : Nat) : Fld := ⟨4 * n + 2, 4 * n, .rw, 0⟩
/-- The fields of PWR_FLOOR, R451. -/
def PWR_FLOOR.fields : List Fld := [⟨15, 0, .rw, 0⟩]
/-- PWR_REFUSE.VALID, R451. -/
def PWR_REFUSE.VALID : Fld := ⟨31, 31, .w1c, 0⟩
/-- PWR_REFUSE.REASON, R451. -/
def PWR_REFUSE.REASON : Fld := ⟨23, 16, .ro, 0⟩
/-- PWR_REFUSE.BLOCK, R451. -/
def PWR_REFUSE.BLOCK : Fld := ⟨15, 0, .ro, 0⟩
/-- The fields of PWR_REFUSE, R451. -/
def PWR_REFUSE.fields : List Fld := [PWR_REFUSE.VALID, PWR_REFUSE.REASON, PWR_REFUSE.BLOCK]
/-- PWR_STAT.ENTRIES, R451. -/
def PWR_STAT.ENTRIES : Fld := ⟨31, 16, .rc, 0⟩
/-- PWR_STAT.REFUSED, R451. -/
def PWR_STAT.REFUSED : Fld := ⟨15, 8, .rc, 0⟩
/-- PWR_STAT.ABORTED, R451. -/
def PWR_STAT.ABORTED : Fld := ⟨7, 0, .rc, 0⟩
/-- The fields of PWR_STAT, R451. -/
def PWR_STAT.fields : List Fld := [PWR_STAT.ENTRIES, PWR_STAT.REFUSED, PWR_STAT.ABORTED]
/-- PWR_CFG.RETRY, R451. -/
def PWR_CFG.RETRY : Fld := ⟨31, 24, .rw, 10⟩
/-- PWR_CFG.DWELL, R451. -/
def PWR_CFG.DWELL : Fld := ⟨23, 16, .rw, 20⟩
/-- PWR_CFG.DMODE, R451. -/
def PWR_CFG.DMODE : Fld := ⟨14, 12, .rw, 4⟩
/-- PWR_CFG.STPIDLE, R451. -/
def PWR_CFG.STPIDLE : Fld := ⟨9, 0, .rw, 100⟩
/-- The fields of PWR_CFG, R451. -/
def PWR_CFG.fields : List Fld := [PWR_CFG.RETRY, PWR_CFG.DWELL, PWR_CFG.DMODE, PWR_CFG.STPIDLE]
/-- PWR_WATCH.CLUSTER, R451. -/
def PWR_WATCH.CLUSTER : Fld := ⟨6, 4, .sh, 0⟩
/-- PWR_WATCH.TILE, R451. -/
def PWR_WATCH.TILE : Fld := ⟨1, 0, .sh, 0⟩
/-- The fields of PWR_WATCH, R451. -/
def PWR_WATCH.fields : List Fld := [PWR_WATCH.CLUSTER, PWR_WATCH.TILE]
/-- PWR_SKIM.ENk, R451. -/
def PWR_SKIM.EN (k : Nat) : Fld := ⟨8 * k + 7, 8 * k + 7, .sh, 0⟩
/-- PWR_SKIM.TILEk, R451. -/
def PWR_SKIM.TILE (k : Nat) : Fld := ⟨8 * k + 4, 8 * k, .sh, 0⟩
/-- The fields of PWR_SKIM, R451. -/
def PWR_SKIM.fields : List Fld :=
  [PWR_SKIM.EN 0, PWR_SKIM.TILE 0, PWR_SKIM.EN 1, PWR_SKIM.TILE 1, PWR_SKIM.EN 2, PWR_SKIM.TILE 2, PWR_SKIM.EN 3, PWR_SKIM.TILE 3]
/-- PWR_RET.SENSE, R451. -/
def PWR_RET.SENSE : Fld := ⟨10, 10, .sh, 1⟩
/-- PWR_RET.LINK, R451. -/
def PWR_RET.LINK : Fld := ⟨9, 9, .sh, 1⟩
/-- PWR_RET.STP, R451. -/
def PWR_RET.STP : Fld := ⟨8, 8, .sh, 0⟩
/-- PWR_RET.CLRET, R451. -/
def PWR_RET.CLRET : Fld := ⟨7, 0, .sh, 0⟩
/-- The fields of PWR_RET, R451. -/
def PWR_RET.fields : List Fld := [PWR_RET.SENSE, PWR_RET.LINK, PWR_RET.STP, PWR_RET.CLRET]
/-- PWR_COMMIT.GO, R451. -/
def PWR_COMMIT.GO : Fld := ⟨0, 0, .wo, 0⟩
/-- The fields of PWR_COMMIT, R451. -/
def PWR_COMMIT.fields : List Fld := [PWR_COMMIT.GO]
/-- PWR_KWAKE.EDGE, R451. -/
def PWR_KWAKE.EDGE : Fld := ⟨31, 16, .rw, 65535⟩
/-- The fields of PWR_KWAKE, R451. -/
def PWR_KWAKE.fields : List Fld := [PWR_KWAKE.EDGE]
/-- PWR_KALARM0.SEC_LO, R451. -/
def PWR_KALARM0.SEC_LO : Fld := ⟨31, 0, .rw, 0⟩
/-- The fields of PWR_KALARM0, R451. -/
def PWR_KALARM0.fields : List Fld := [PWR_KALARM0.SEC_LO]
/-- PWR_KALARM1.EN, R451. -/
def PWR_KALARM1.EN : Fld := ⟨31, 31, .rw, 0⟩
/-- PWR_KALARM1.SEC_HI, R451. -/
def PWR_KALARM1.SEC_HI : Fld := ⟨7, 0, .rw, 0⟩
/-- The fields of PWR_KALARM1, R451. -/
def PWR_KALARM1.fields : List Fld := [PWR_KALARM1.EN, PWR_KALARM1.SEC_HI]
/-- PWR_WAKESRC.FROM, R451. -/
def PWR_WAKESRC.FROM : Fld := ⟨10, 8, .ro, 0⟩
/-- PWR_WAKESRC.SRC, R451. -/
def PWR_WAKESRC.SRC : Fld := ⟨5, 0, .ro, 63⟩
/-- The fields of PWR_WAKESRC, R451. -/
def PWR_WAKESRC.fields : List Fld := [PWR_WAKESRC.FROM, PWR_WAKESRC.SRC]
/-- PWR_ADMIT.QUEUED, R451. -/
def PWR_ADMIT.QUEUED : Fld := ⟨31, 24, .ro, 0⟩
/-- PWR_ADMIT.FREEP, R451. -/
def PWR_ADMIT.FREEP : Fld := ⟨20, 16, .ro, 24⟩
/-- PWR_ADMIT.FREES, R451. -/
def PWR_ADMIT.FREES : Fld := ⟨12, 8, .ro, 16⟩
/-- PWR_ADMIT.FREEN, R451. -/
def PWR_ADMIT.FREEN : Fld := ⟨4, 0, .ro, 16⟩
/-- The fields of PWR_ADMIT, R451. -/
def PWR_ADMIT.fields : List Fld := [PWR_ADMIT.QUEUED, PWR_ADMIT.FREEP, PWR_ADMIT.FREES, PWR_ADMIT.FREEN]
/-- PWR_RESTORE.DISCARD, R451. -/
def PWR_RESTORE.DISCARD : Fld := ⟨15, 8, .wo, 0⟩
/-- PWR_RESTORE.GO, R451. -/
def PWR_RESTORE.GO : Fld := ⟨7, 0, .wo, 0⟩
/-- The fields of PWR_RESTORE, R451. -/
def PWR_RESTORE.fields : List Fld := [PWR_RESTORE.DISCARD, PWR_RESTORE.GO]
/-- PWR_RSTAT.RESULT, R451. -/
def PWR_RSTAT.RESULT : Fld := ⟨31, 30, .ro, 0⟩
/-- PWR_RSTAT.CLUSTER, R451. -/
def PWR_RSTAT.CLUSTER : Fld := ⟨26, 24, .ro, 0⟩
/-- PWR_RSTAT.VALID, R451. -/
def PWR_RSTAT.VALID : Fld := ⟨23, 16, .ro, 0⟩
/-- PWR_RSTAT.ENG, R451. -/
def PWR_RSTAT.ENG : Fld := ⟨5, 0, .ro, 0⟩
/-- The fields of PWR_RSTAT, R451. -/
def PWR_RSTAT.fields : List Fld := [PWR_RSTAT.RESULT, PWR_RSTAT.CLUSTER, PWR_RSTAT.VALID, PWR_RSTAT.ENG]
/-- PWR_SUPPLY.KEEP_LOST, R472. -/
def PWR_SUPPLY.KEEP_LOST : Fld := ⟨31, 31, .ro, 0⟩
/-- PWR_SUPPLY.MAINOK, R472. -/
def PWR_SUPPLY.MAINOK : Fld := ⟨30, 30, .ro, 0⟩
/-- PWR_SUPPLY.MAINWARN, R472. -/
def PWR_SUPPLY.MAINWARN : Fld := ⟨29, 29, .ro, 0⟩
/-- PWR_SUPPLY.BAKLOW, R472. -/
def PWR_SUPPLY.BAKLOW : Fld := ⟨28, 28, .ro, 0⟩
/-- PWR_SUPPLY.BAKDEAD, R472. -/
def PWR_SUPPLY.BAKDEAD : Fld := ⟨27, 27, .ro, 0⟩
/-- PWR_SUPPLY.SRC, R472. -/
def PWR_SUPPLY.SRC : Fld := ⟨26, 25, .ro, 0⟩
/-- PWR_SUPPLY.PACKOK, R472. -/
def PWR_SUPPLY.PACKOK : Fld := ⟨24, 24, .ro, 0⟩
/-- PWR_SUPPLY.VIOLVL, R472. -/
def PWR_SUPPLY.VIOLVL : Fld := ⟨23, 20, .ro, 0⟩
/-- PWR_SUPPLY.VIOOK, R472. -/
def PWR_SUPPLY.VIOOK : Fld := ⟨19, 16, .ro, 0⟩
/-- The fields of PWR_SUPPLY, R472. -/
def PWR_SUPPLY.fields : List Fld := [PWR_SUPPLY.KEEP_LOST, PWR_SUPPLY.MAINOK, PWR_SUPPLY.MAINWARN, PWR_SUPPLY.BAKLOW, PWR_SUPPLY.BAKDEAD, PWR_SUPPLY.SRC, PWR_SUPPLY.PACKOK, PWR_SUPPLY.VIOLVL, PWR_SUPPLY.VIOOK]
/-- PWR_DOWNFAULT.COUNT, R472. -/
def PWR_DOWNFAULT.COUNT : Fld := ⟨31, 24, .ro, 0⟩
/-- PWR_DOWNFAULT.STEP, R472. -/
def PWR_DOWNFAULT.STEP : Fld := ⟨23, 20, .ro, 0⟩
/-- PWR_DOWNFAULT.RAIL, R472. -/
def PWR_DOWNFAULT.RAIL : Fld := ⟨19, 16, .ro, 0⟩
/-- PWR_DOWNFAULT.FROM, R472. -/
def PWR_DOWNFAULT.FROM : Fld := ⟨15, 13, .ro, 0⟩
/-- The fields of PWR_DOWNFAULT, R472. -/
def PWR_DOWNFAULT.fields : List Fld := [PWR_DOWNFAULT.COUNT, PWR_DOWNFAULT.STEP, PWR_DOWNFAULT.RAIL, PWR_DOWNFAULT.FROM]
/-- PWR_DOWNGTS.GTS, R472. -/
def PWR_DOWNGTS.GTS : Fld := ⟨31, 0, .ro, 0⟩
/-- The fields of PWR_DOWNGTS, R472. -/
def PWR_DOWNGTS.fields : List Fld := [PWR_DOWNGTS.GTS]
/-- PWR_SUPSTAT.MAINLOSS, R472. -/
def PWR_SUPSTAT.MAINLOSS : Fld := ⟨31, 16, .ro, 0⟩
/-- PWR_SUPSTAT.BRIDGE, R472. -/
def PWR_SUPSTAT.BRIDGE : Fld := ⟨15, 8, .ro, 0⟩
/-- PWR_SUPSTAT.STARTFAIL, R472. -/
def PWR_SUPSTAT.STARTFAIL : Fld := ⟨7, 0, .ro, 0⟩
/-- The fields of PWR_SUPSTAT, R472. -/
def PWR_SUPSTAT.fields : List Fld := [PWR_SUPSTAT.MAINLOSS, PWR_SUPSTAT.BRIDGE, PWR_SUPSTAT.STARTFAIL]
/-- FLX_CTL.EN, R501. -/
def FLX_CTL.EN : Fld := ⟨31, 31, .rw, 0⟩
/-- FLX_CTL.LEADREQ, R501. -/
def FLX_CTL.LEADREQ : Fld := ⟨30, 30, .rw, 0⟩
/-- FLX_CTL.LEADOK, R501. -/
def FLX_CTL.LEADOK : Fld := ⟨29, 29, .rw, 0⟩
/-- The fields of FLX_CTL, R501. -/
def FLX_CTL.fields : List Fld := [FLX_CTL.EN, FLX_CTL.LEADREQ, FLX_CTL.LEADOK]
/-- FLX_STATUS.AUP, R501. -/
def FLX_STATUS.AUP : Fld := ⟨31, 31, .ro, 0⟩
/-- FLX_STATUS.BUP, R501. -/
def FLX_STATUS.BUP : Fld := ⟨30, 30, .ro, 0⟩
/-- FLX_STATUS.LEAD, R501. -/
def FLX_STATUS.LEAD : Fld := ⟨29, 29, .ro, 0⟩
/-- FLX_STATUS.CHAIN, R501. -/
def FLX_STATUS.CHAIN : Fld := ⟨28, 28, .ro, 0⟩
/-- FLX_STATUS.VER, R501. -/
def FLX_STATUS.VER : Fld := ⟨27, 24, .ro, 0⟩
/-- FLX_STATUS.SIZE, R501. -/
def FLX_STATUS.SIZE : Fld := ⟨18, 16, .ro, 0⟩
/-- FLX_STATUS.POS, R501. -/
def FLX_STATUS.POS : Fld := ⟨1, 0, .ro, 0⟩
/-- The fields of FLX_STATUS, R501. -/
def FLX_STATUS.fields : List Fld := [FLX_STATUS.AUP, FLX_STATUS.BUP, FLX_STATUS.LEAD, FLX_STATUS.CHAIN, FLX_STATUS.VER, FLX_STATUS.SIZE, FLX_STATUS.POS]
/-- FLX_LEADID0.ID, R501. -/
def FLX_LEADID0.ID : Fld := ⟨31, 0, .ro, 0⟩
/-- The fields of FLX_LEADID0, R501. -/
def FLX_LEADID0.fields : List Fld := [FLX_LEADID0.ID]
/-- FLX_LEADID1.ID, R501. -/
def FLX_LEADID1.ID : Fld := ⟨31, 0, .ro, 0⟩
/-- The fields of FLX_LEADID1, R501. -/
def FLX_LEADID1.fields : List Fld := [FLX_LEADID1.ID]
/-- FLX_DELAY.PS, R501. -/
def FLX_DELAY.PS : Fld := ⟨15, 0, .ro, 0⟩
/-- The fields of FLX_DELAY, R501. -/
def FLX_DELAY.fields : List Fld := [FLX_DELAY.PS]
/-- FLX_STAT.CRCERR, R501. -/
def FLX_STAT.CRCERR : Fld := ⟨31, 16, .rc, 0⟩
/-- FLX_STAT.DOWN, R501. -/
def FLX_STAT.DOWN : Fld := ⟨15, 8, .rc, 0⟩
/-- FLX_STAT.VERDISC, R501. -/
def FLX_STAT.VERDISC : Fld := ⟨7, 0, .rc, 0⟩
/-- The fields of FLX_STAT, R501. -/
def FLX_STAT.fields : List Fld := [FLX_STAT.CRCERR, FLX_STAT.DOWN, FLX_STAT.VERDISC]
/-- SCR_STATUS.JOINED, R501. -/
def SCR_STATUS.JOINED : Fld := ⟨31, 31, .ro, 0⟩
/-- SCR_STATUS.HOPS, R501. -/
def SCR_STATUS.HOPS : Fld := ⟨30, 26, .ro, 31⟩
/-- SCR_STATUS.NODE, R501. -/
def SCR_STATUS.NODE : Fld := ⟨14, 0, .ro, 0⟩
/-- The fields of SCR_STATUS, R501. -/
def SCR_STATUS.fields : List Fld := [SCR_STATUS.JOINED, SCR_STATUS.HOPS, SCR_STATUS.NODE]
/-- SCR_STAT.OVF, R501. -/
def SCR_STAT.OVF : Fld := ⟨31, 16, .rc, 0⟩
/-- SCR_STAT.NOROOM, R501. -/
def SCR_STAT.NOROOM : Fld := ⟨15, 0, .rc, 0⟩
/-- The fields of SCR_STAT, R501. -/
def SCR_STAT.fields : List Fld := [SCR_STAT.OVF, SCR_STAT.NOROOM]
/-- SCR_NEIGH.COUNT, R501. -/
def SCR_NEIGH.COUNT : Fld := ⟨8, 0, .ro, 0⟩
/-- The fields of SCR_NEIGH, R501. -/
def SCR_NEIGH.fields : List Fld := [SCR_NEIGH.COUNT]
/-- SCR_COAL.INUSE, R501. -/
def SCR_COAL.INUSE : Fld := ⟨12, 0, .ro, 0⟩
/-- The fields of SCR_COAL, R501. -/
def SCR_COAL.fields : List Fld := [SCR_COAL.INUSE]
/-- ID_WORD0.DIEX_LO, R504. -/
def ID_WORD0.DIEX_LO : Fld := ⟨31, 29, .ro, 0⟩
/-- ID_WORD0.WAFER, R504. -/
def ID_WORD0.WAFER : Fld := ⟨28, 24, .ro, 0⟩
/-- ID_WORD0.LOT, R504. -/
def ID_WORD0.LOT : Fld := ⟨23, 0, .ro, 0⟩
/-- The fields of ID_WORD0, R504. -/
def ID_WORD0.fields : List Fld := [ID_WORD0.DIEX_LO, ID_WORD0.WAFER, ID_WORD0.LOT]
/-- ID_WORD1.SILICON_REV, R504. -/
def ID_WORD1.SILICON_REV : Fld := ⟨23, 16, .ro, 16⟩
/-- ID_WORD1.SITE, R504. -/
def ID_WORD1.SITE : Fld := ⟨15, 13, .ro, 0⟩
/-- ID_WORD1.DIEY, R504. -/
def ID_WORD1.DIEY : Fld := ⟨12, 5, .ro, 0⟩
/-- ID_WORD1.DIEX_HI, R504. -/
def ID_WORD1.DIEX_HI : Fld := ⟨4, 0, .ro, 0⟩
/-- The fields of ID_WORD1, R504. -/
def ID_WORD1.fields : List Fld := [ID_WORD1.SILICON_REV, ID_WORD1.SITE, ID_WORD1.DIEY, ID_WORD1.DIEX_HI]
/-- SEC_STATUS.SVC, R526. -/
def SEC_STATUS.SVC : Fld := ⟨31, 31, .ro, 0⟩
/-- SEC_STATUS.DIRTYB, R526. -/
def SEC_STATUS.DIRTYB : Fld := ⟨30, 30, .ro, 0⟩
/-- SEC_STATUS.DIRTYA, R526. -/
def SEC_STATUS.DIRTYA : Fld := ⟨29, 29, .ro, 0⟩
/-- SEC_STATUS.TAMPUNK, R526. -/
def SEC_STATUS.TAMPUNK : Fld := ⟨28, 28, .w1c, 0⟩
/-- SEC_STATUS.KEYS, R526. -/
def SEC_STATUS.KEYS : Fld := ⟨22, 20, .ro, 0⟩
/-- SEC_STATUS.DOMKEY, R526. -/
def SEC_STATUS.DOMKEY : Fld := ⟨17, 16, .ro, 0⟩
/-- The fields of SEC_STATUS, R526. -/
def SEC_STATUS.fields : List Fld := [SEC_STATUS.SVC, SEC_STATUS.DIRTYB, SEC_STATUS.DIRTYA, SEC_STATUS.TAMPUNK, SEC_STATUS.KEYS, SEC_STATUS.DOMKEY]
/-- SEC_SCRUB.GO, R526. -/
def SEC_SCRUB.GO : Fld := ⟨31, 31, .wo, 0⟩
/-- SEC_SCRUB.BUSY, R526. -/
def SEC_SCRUB.BUSY : Fld := ⟨30, 30, .ro, 0⟩
/-- SEC_SCRUB.BLOCK, R526. -/
def SEC_SCRUB.BLOCK : Fld := ⟨11, 0, .rw, 0⟩
/-- The fields of SEC_SCRUB, R526. -/
def SEC_SCRUB.fields : List Fld := [SEC_SCRUB.GO, SEC_SCRUB.BUSY, SEC_SCRUB.BLOCK]
/-- SEC_SCRUBSTAT.CORR, R526. -/
def SEC_SCRUBSTAT.CORR : Fld := ⟨31, 16, .rc, 0⟩
/-- SEC_SCRUBSTAT.UNCORR, R526. -/
def SEC_SCRUBSTAT.UNCORR : Fld := ⟨15, 0, .rc, 0⟩
/-- The fields of SEC_SCRUBSTAT, R526. -/
def SEC_SCRUBSTAT.fields : List Fld := [SEC_SCRUBSTAT.CORR, SEC_SCRUBSTAT.UNCORR]
/-- SEC_TAMPCFG.LOSTZ, R526. -/
def SEC_TAMPCFG.LOSTZ : Fld := ⟨31, 31, .rw, 0⟩
/-- SEC_TAMPCFG.EN, R526. -/
def SEC_TAMPCFG.EN : Fld := ⟨15, 8, .rw, 0⟩
/-- SEC_TAMPCFG.LEVEL, R526. -/
def SEC_TAMPCFG.LEVEL : Fld := ⟨7, 0, .rw, 0⟩
/-- The fields of SEC_TAMPCFG, R526. -/
def SEC_TAMPCFG.fields : List Fld := [SEC_TAMPCFG.LOSTZ, SEC_TAMPCFG.EN, SEC_TAMPCFG.LEVEL]
/-- SEC_TAMP.PINS, R526. -/
def SEC_TAMP.PINS : Fld := ⟨7, 0, .w1c, 0⟩
/-- The fields of SEC_TAMP, R526. -/
def SEC_TAMP.fields : List Fld := [SEC_TAMP.PINS]
/-- SEC_TAMPGTS.GTS, R526. -/
def SEC_TAMPGTS.GTS : Fld := ⟨31, 0, .ro, 0⟩
/-- The fields of SEC_TAMPGTS, R526. -/
def SEC_TAMPGTS.fields : List Fld := [SEC_TAMPGTS.GTS]
/-- SEC_DEVPUB.KEY, R526. -/
def SEC_DEVPUB.KEY : Fld := ⟨31, 0, .ro, 0⟩
/-- The fields of SEC_DEVPUB, R526. -/
def SEC_DEVPUB.fields : List Fld := [SEC_DEVPUB.KEY]
/-- RES_RESID.RESID, R540. -/
def RES_RESID.RESID : Fld := ⟨31, 0, .rw, 0⟩
/-- The fields of RES_RESID, R540. -/
def RES_RESID.fields : List Fld := [RES_RESID.RESID]
/-- RES_OWNER.PREC, R540. -/
def RES_OWNER.PREC : Fld := ⟨17, 16, .rw, 3⟩
/-- RES_OWNER.OWNER, R540. -/
def RES_OWNER.OWNER : Fld := ⟨15, 0, .rw, 1024⟩
/-- The fields of RES_OWNER, R540. -/
def RES_OWNER.fields : List Fld := [RES_OWNER.PREC, RES_OWNER.OWNER]
/-- RES_CMD.GO, R540. -/
def RES_CMD.GO : Fld := ⟨31, 31, .wo, 0⟩
/-- RES_CMD.OP, R540. -/
def RES_CMD.OP : Fld := ⟨30, 29, .wo, 0⟩
/-- RES_CMD.COUNT, R540. -/
def RES_CMD.COUNT : Fld := ⟨8, 0, .wo, 0⟩
/-- The fields of RES_CMD, R540. -/
def RES_CMD.fields : List Fld := [RES_CMD.GO, RES_CMD.OP, RES_CMD.COUNT]
/-- RES_RESULT.DONE, R540. -/
def RES_RESULT.DONE : Fld := ⟨31, 31, .ro, 0⟩
/-- RES_RESULT.STATUS, R540. -/
def RES_RESULT.STATUS : Fld := ⟨30, 28, .ro, 0⟩
/-- RES_RESULT.INDEX, R540. -/
def RES_RESULT.INDEX : Fld := ⟨23, 16, .ro, 0⟩
/-- RES_RESULT.OWNER, R540. -/
def RES_RESULT.OWNER : Fld := ⟨15, 0, .ro, 0⟩
/-- The fields of RES_RESULT, R540. -/
def RES_RESULT.fields : List Fld := [RES_RESULT.DONE, RES_RESULT.STATUS, RES_RESULT.INDEX, RES_RESULT.OWNER]
/-- FAULT_STATUS.LOST, R540. -/
def FAULT_STATUS.LOST : Fld := ⟨31, 16, .ro, 0⟩
/-- FAULT_STATUS.LEVEL, R540. -/
def FAULT_STATUS.LEVEL : Fld := ⟨6, 0, .ro, 0⟩
/-- The fields of FAULT_STATUS, R540. -/
def FAULT_STATUS.fields : List Fld := [FAULT_STATUS.LOST, FAULT_STATUS.LEVEL]
/-- FAULT_POP.GO, R540. -/
def FAULT_POP.GO : Fld := ⟨0, 0, .wo, 0⟩
/-- The fields of FAULT_POP, R540. -/
def FAULT_POP.fields : List Fld := [FAULT_POP.GO]
/-- FAULT_REC.DATA, R540. -/
def FAULT_REC.DATA : Fld := ⟨31, 0, .ro, 0⟩
/-- The fields of FAULT_REC, R540. -/
def FAULT_REC.fields : List Fld := [FAULT_REC.DATA]
/-- RS_ESRCB.KIND, R175. -/
def RS_ESRCB.KIND : Fld := ⟨31, 29, .sh, 0⟩
/-- RS_ESRCB.AGE, R175. -/
def RS_ESRCB.AGE : Fld := ⟨23, 16, .sh, 20⟩
/-- RS_ESRCB.ID, R175. -/
def RS_ESRCB.ID : Fld := ⟨15, 0, .sh, 0⟩
/-- The fields of RS_ESRCB, R175. -/
def RS_ESRCB.fields : List Fld := [RS_ESRCB.KIND, RS_ESRCB.AGE, RS_ESRCB.ID]
/-- A transition word, R145 and R173: SH, reset 0. -/
def RS_TRANS.W : Fld := ⟨31, 0, .sh, 0⟩
/-- The fields of a transition word register, R173. -/
def RS_TRANS.fields : List Fld := [RS_TRANS.W]
/-- CLn_MDATA, R35. -/
def CL_MDATA.DATA : Fld := ⟨31, 0, .rw, 0⟩
/-- The fields of CLn_MDATA, R35. -/
def CL_MDATA.fields : List Fld := [CL_MDATA.DATA]
/-- The fields of a b0 coefficient word, whose reset is 0x4000_0000, R133. -/
def TILE_LCOEFB0.fields : List Fld := [⟨31, 0, .sh, 0x40000000⟩]

/-- PWR registers by offset, R450. -/
def pwrFields (o : Nat) : Option (List Fld) :=
  match o with
  | 0x0 => some PWR_STATUS.fields
  | 0x4 => some PWR_BASE.fields
  | 0x8 => some PWR_FLOOR.fields
  | 0xc => some PWR_REFUSE.fields
  | 0x10 => some PWR_STAT.fields
  | 0x14 => some PWR_CFG.fields
  | 0x18 => some PWR_WATCH.fields
  | 0x1c => some PWR_SKIM.fields
  | 0x20 => some PWR_RET.fields
  | 0x24 => some PWR_COMMIT.fields
  | 0x28 => some PWR_KWAKE.fields
  | 0x2c => some PWR_KALARM0.fields
  | 0x30 => some PWR_KALARM1.fields
  | 0x34 => some PWR_WAKESRC.fields
  | 0x38 => some PWR_ADMIT.fields
  | 0x3c => some PWR_RESTORE.fields
  | 0x40 => some PWR_RSTAT.fields
  | _ =>
    none

/-- TB registers by offset, R75 (TB_NOW and TB_PPSCAP are read through their snapshots, R79). -/
def tbFields (o : Nat) : Option (List Fld) :=
  match o with
  | 0x0 => some TB_CTL.fields
  | 0x4 => some TB_STATUS.fields
  | 0x8 => some TB_COMMIT.fields
  | 0x20 => some TB_SLEW.fields
  | 0x24 => some TB_STEPTHR.fields
  | 0x28 => some TB_LOOP.fields
  | 0x30 => some TB_REFCFG.fields
  | 0x40 => some TB_PPSCFG.fields
  | 0x50 => some TB_PPSCNT.fields
  | 0x60 => some TB_XK0.fields
  | 0x64 => some TB_XK1.fields
  | 0x68 => some TB_XK2.fields
  | 0x6c => some TB_XK3.fields
  | 0x70 => some TB_XL0.fields
  | 0x74 => some TB_XL1.fields
  | 0x78 => some TB_XL2.fields
  | 0x7c => some TB_XL3.fields
  | 0x80 => some TB_MODEL.fields
  | 0x84 => some TB_TEMP.fields
  | 0x88 => some TB_RATE.fields
  | _ =>
    if 0x100 ≤ o ∧ o < 0x140 then some TB_FICTL.fields else
    none

/-- Host port registers by offset from the port base, R334. -/
def hpFields (o : Nat) : Option (List Fld) :=
  match o with
  | 0x0 => some HP_ID.fields
  | 0x4 => some HP_STATUS.fields
  | 0x8 => some HP_CFG.fields
  | 0xc => some HP_CTL.fields
  | 0x10 => some HP_ATTN.fields
  | 0x14 => some HP_INPROD.fields
  | 0x18 => some HP_INACK.fields
  | 0x1c => some HP_OUTPROD.fields
  | 0x20 => some HP_OUTACK.fields
  | 0x24 => some HP_ERR.fields
  | 0x28 => some HP_INBASE.fields
  | 0x2c => some HP_OUTBASE.fields
  | _ =>
    none

/-- HWU registers of one port by offset, R216. -/
def hwuPortFields (o : Nat) : Option (List Fld) :=
  match o with
  | 0x0 => some HWU_TBASE.fields
  | 0x4 => some HWU_WSIZE.fields
  | 0x8 => some HWU_FAULT.fields
  | 0xc => some HWU_FCNT.fields
  | _ =>
    none

/-- RES registers by offset, R540. -/
def resFields (o : Nat) : Option (List Fld) :=
  match o with
  | 0x0 => some RES_RESID.fields
  | 0x4 => some RES_OWNER.fields
  | 0x8 => some RES_CMD.fields
  | 0xc => some RES_RESULT.fields
  | _ =>
    none

/-- SEC registers by offset, R526. -/
def secFields (o : Nat) : Option (List Fld) :=
  match o with
  | 0x0 => some SEC_STATUS.fields
  | 0x4 => some SEC_SCRUB.fields
  | 0x8 => some SEC_SCRUBSTAT.fields
  | 0xc => some SEC_TAMPCFG.fields
  | 0x10 => some SEC_TAMP.fields
  | _ =>
    if 0x14 ≤ o ∧ o < 0x20 then some SEC_TAMPGTS.fields else
    if 0x40 ≤ o ∧ o < 0x80 then some SEC_DEVPUB.fields else
    none

/-- ID registers by offset, R504. -/
def idFields (o : Nat) : Option (List Fld) :=
  match o with
  | 0x0 => some ID_WORD0.fields
  | 0x4 => some ID_WORD1.fields
  | _ =>
    none

/-- Sense registers by offset, R244. -/
def snsFields (o : Nat) : Option (List Fld) :=
  match o with
  | 0x0 => some SNS_STATUS.fields
  | 0x4 => some SNS_COMMIT.fields
  | 0x8 => some SNS_LINKSTAT.fields
  | 0xc => some SNS_STAT.fields
  | 0x10 => some SNS_LAT.fields
  | 0x20 => some SNS_OWCFG.fields
  | 0x24 => some SNS_OWTH.fields
  | 0x28 => some SNS_OWSUS.fields
  | 0x2c => some SNS_OWOPEN.fields
  | 0x30 => some SNS_OWSUSP.fields
  | 0x34 => some SNS_OWTESTED.fields
  | 0x38 => some SNS_OWLAST.fields
  | 0x3c => some SNS_OWRUN.fields
  | 0x40 => some SNS_OWFIX.fields
  | 0x48 => some SNS_THCFG.fields
  | 0x50 => some SNS_ESTCFG.fields
  | 0x54 => some SNS_ESTISC.fields
  | 0x58 => some SNS_ZREF.fields
  | _ =>
    if 0x80 ≤ o ∧ o < 0xC4 then some SNS_SOCT.fields else
    if 0x100 ≤ o ∧ o < 0x220 ∧ o % 16 = 0 then some SNS_EZ.fields else
    if 0x100 ≤ o ∧ o < 0x220 ∧ o % 16 = 4 then some SNS_EV.fields else
    if 0x100 ≤ o ∧ o < 0x220 ∧ o % 16 = 8 then some SNS_ES.fields else
    none

/-- FLX and Scrim registers by offset, R501. -/
def flxFields (o : Nat) : Option (List Fld) :=
  match o with
  | 0x0 => some FLX_CTL.fields
  | 0x4 => some FLX_STATUS.fields
  | 0x8 => some FLX_LEADID0.fields
  | 0xc => some FLX_LEADID1.fields
  | 0x10 => some FLX_DELAY.fields
  | 0x14 => some FLX_STAT.fields
  | 0x400 => some SCR_STATUS.fields
  | 0x404 => some SCR_STAT.fields
  | 0x408 => some SCR_NEIGH.fields
  | 0x40c => some SCR_COAL.fields
  | _ =>
    none

/-- Stipple registers by offset, R180. -/
def stpFields (o : Nat) : Option (List Fld) :=
  match o with
  | 0x0 => some STP_CTL.fields
  | 0x4 => some STP_STATUS.fields
  | 0x8 => some STP_COMMIT.fields
  | 0xc => some STP_TRIG.fields
  | 0x10 => some STP_STAT.fields
  | _ =>
    if 0x40 ≤ o ∧ o < 0x140 ∧ o % 32 = 0x0 then some STP_SCFG.fields else
    if 0x40 ≤ o ∧ o < 0x140 ∧ o % 32 = 0x4 then some STP_SBASE.fields else
    if 0x40 ≤ o ∧ o < 0x140 ∧ o % 32 = 0x8 then some STP_SLEN.fields else
    if 0x40 ≤ o ∧ o < 0x140 ∧ o % 32 = 0xc then some STP_SPER.fields else
    if 0x40 ≤ o ∧ o < 0x140 ∧ o % 32 = 0x10 then some STP_SDTH.fields else
    if 0x40 ≤ o ∧ o < 0x140 ∧ o % 32 = 0x14 then some STP_SRES.fields else
    if 0x40 ≤ o ∧ o < 0x140 ∧ o % 32 = 0x18 then some STP_SSTAT.fields else
    none

/-- LOG registers by offset, R211. -/
def logFields (o : Nat) : Option (List Fld) :=
  match o with
  | 0x0 => some LOG_CTL.fields
  | 0x4 => some LOG_STATUS.fields
  | 0x8 => some LOG_RCOMMIT0.fields
  | 0xc => some LOG_RCOMMIT1.fields
  | 0x10 => some LOG_BCMD.fields
  | 0x14 => some LOG_RET0.fields
  | 0x18 => some LOG_RET1.fields
  | 0x20 => some LOG_FCFG.fields
  | 0x24 => some LOG_FBASE.fields
  | 0x28 => some LOG_FSIZE.fields
  | 0x2c => some LOG_FHEAD.fields
  | 0x30 => some LOG_FLSN.fields
  | 0x34 => some LOG_FSTAT.fields
  | _ =>
    if 0x100 ≤ o ∧ o < 0x600 ∧ o % 32 = 0x0 then some LOG_RCFG.fields else
    if 0x100 ≤ o ∧ o < 0x600 ∧ o % 32 = 0x4 then some LOG_RBASE.fields else
    if 0x100 ≤ o ∧ o < 0x600 ∧ o % 32 = 0x8 then some LOG_RSIZE.fields else
    if 0x100 ≤ o ∧ o < 0x600 ∧ o % 32 = 0xc then some LOG_RSEQ.fields else
    if 0x100 ≤ o ∧ o < 0x600 ∧ o % 32 = 0x10 then some LOG_ROLD.fields else
    if 0x100 ≤ o ∧ o < 0x600 ∧ o % 32 = 0x14 then some LOG_RSTAT.fields else
    if 0x800 ≤ o ∧ o < 0x1000 ∧ o % 8 = 0 then some LOG_BTA.fields else
    if 0x800 ≤ o ∧ o < 0x1000 ∧ o % 8 = 4 then some LOG_BTB.fields else
    none

/-- FAULT registers by offset, R540. -/
def faultFields (o : Nat) : Option (List Fld) :=
  match o with
  | 0x0 => some FAULT_STATUS.fields
  | 0x8 => some FAULT_POP.fields
  | _ =>
    if 0x10 ≤ o ∧ o < 0x28 then some FAULT_REC.fields else
    none

/-- Lane registers by lane offset, R133. -/
def laneFields (o : Nat) : Option (List Fld) :=
  match o with
  | 0x0 => some TILE_LSRC.fields
  | 0x4 => some TILE_LCIC.fields
  | 0x8 => some TILE_LBQC.fields
  | 0x40 => some TILE_LRGLO.fields
  | 0x44 => some TILE_LRGHI.fields
  | 0x48 => some TILE_LST.fields
  | 0x4c => some TILE_LAG.fields
  | 0x50 => some TILE_LTQ.fields
  | 0x60 => some TILE_LVAL.fields
  | 0x64 => some TILE_LFLG.fields
  | 0x68 => some TILE_LBASE.fields
  | 0x6c => some TILE_LAVG.fields
  | _ =>
    if o = 0x10 ∨ o = 0x24 then some TILE_LCOEFB0.fields else
    if 0x10 ≤ o ∧ o < 0x38 then some TILE_LCOEF.fields else
    none

/-- Tile registers by tile offset, R128. -/
def tileFields (o : Nat) : Option (List Fld) :=
  match o with
  | 0x0 => some TILE_CFG.fields
  | 0x4 => some TILE_PERIOD.fields
  | 0x8 => some TILE_COMMIT.fields
  | 0xc => some TILE_STATUS.fields
  | 0x10 => some TILE_STAT.fields
  | 0x14 => some TILE_FIFOSTAT.fields
  | 0x20 => some TILE_TRKCFG.fields
  | 0x24 => some TILE_TRKG.fields
  | 0x34 => some TILE_TRKST.fields
  | _ =>
    if 0x28 ≤ o ∧ o < 0x34 then some TILE_TRKB.fields else
    if 0x100 ≤ o ∧ o < 0x300 ∧ o % 8 = 0 then some TILE_SCHA.fields else
    if 0x100 ≤ o ∧ o < 0x300 ∧ o % 8 = 4 then some TILE_SCHB.fields else
    if 0x400 ≤ o ∧ o < 0xC00 then laneFields ((o - 0x400) % 0x80) else none

/-- Engine registers by engine offset, R173. -/
def engFields (o : Nat) : Option (List Fld) :=
  match o with
  | 0x0 => some RS_ECFG.fields
  | 0x4 => some RS_ESRCA.fields
  | 0x8 => some RS_ESRCB.fields
  | 0xc => some RS_EPRED.fields
  | 0x10 => some RS_EK1.fields
  | 0x14 => some RS_EK2.fields
  | 0x18 => some RS_ELIM.fields
  | 0x1c => some RS_ETMR.fields
  | 0x20 => some RS_EACT.fields
  | 0x30 => some RS_ESTATE.fields
  | 0x34 => some RS_ECNT.fields
  | _ =>
    if 0x100 ≤ o ∧ o < 0x180 then some RS_TRANS.fields else
    none

/-- Registers of a slice by cluster offset, R173. -/
def sliceFields (o : Nat) : Option (List Fld) :=
  match o with
  | 0xc000 => some RS_CTL.fields
  | 0xc004 => some RS_COMMIT.fields
  | 0xc008 => some RS_STATUS.fields
  | 0xc00c => some RS_STAT.fields
  | 0xc010 => some RS_FAULTS.fields
  | 0xc014 => some RS_COALST.fields
  | _ =>
    if 0x8000 ≤ o ∧ o < 0xC000 then engFields ((o - 0x8000) % 0x200) else none

/-- Cluster control registers by cluster offset, R34, R35, R283, R314 and R316. -/
def ctlFields (o : Nat) : Option (List Fld) :=
  match o with
  | 0x40 => some CL_MADDR.fields
  | 0x44 => some CL_MDATA.fields
  | 0x48 => some CL_ISACFG.fields
  | 0x4c => some CL_UCADDR.fields
  | 0x50 => some CL_UCDATA0.fields
  | 0x54 => some CL_UCDATA1.fields
  | 0x60 => some CL_CORECTL.fields
  | 0x64 => some CL_CORECTL.fields
  | 0x68 => some CL_PAIR.fields
  | 0x6c => some CL_PAIRSTAT.fields
  | _ =>
    none

/-- Two-wire bus registers by offset, R380. -/
def twbFields (o : Nat) : Option (List Fld) :=
  match o with
  | 0x0 => some TWB_CFG.fields
  | 0x4 => some TWB_TIMING.fields
  | 0x8 => some TWB_TIMING2.fields
  | 0xc => some TWB_COMMIT.fields
  | 0x10 => some TWB_STATUS.fields
  | 0x14 => some TWB_STAT.fields
  | 0x18 => some TWB_ALERT.fields
  | 0x1c => some TWB_RECOV.fields
  | 0x20 => some TWB_MAN.fields
  | _ =>
    if 0x40 ≤ o ∧ o < 0x80 then some TWB_MDATA.fields else
    if 0x80 ≤ o ∧ o < 0xC0 then some TWB_TDATA.fields else
    if 0x100 ≤ o ∧ o < 0x200 ∧ o % 8 = 0 then some TWB_DESCA.fields else
    if 0x100 ≤ o ∧ o < 0x200 ∧ o % 8 = 4 then some TWB_DESCB.fields else
    none

/-- Clocked serial port registers by offset, R404. -/
def cspFields (o : Nat) : Option (List Fld) :=
  match o with
  | 0x0 => some CSP_CFG.fields
  | 0x4 => some CSP_TIMING.fields
  | 0x8 => some CSP_COMMIT.fields
  | 0xc => some CSP_STATUS.fields
  | 0x10 => some CSP_STAT.fields
  | 0x14 => some CSP_MAN.fields
  | 0x18 => some CSP_MADR.fields
  | 0x1c => some CSP_MLEN.fields
  | 0x20 => some CSP_MBUF.fields
  | 0x24 => some CSP_DRAIN.fields
  | _ =>
    if 0x40 ≤ o ∧ o < 0x80 then some CSP_TX.fields else
    if 0x80 ≤ o ∧ o < 0xC0 then some CSP_TDATA.fields else
    if 0x100 ≤ o ∧ o < 0x200 ∧ o % 16 = 0 then some CSP_DCMD.fields else
    if 0x100 ≤ o ∧ o < 0x200 ∧ o % 16 = 4 then some CSP_DADR.fields else
    if 0x100 ≤ o ∧ o < 0x200 ∧ o % 16 = 8 then some CSP_DFMT.fields else
    if 0x100 ≤ o ∧ o < 0x200 ∧ o % 16 = 12 then some CSP_DPOLL.fields else
    none

/-- Timer registers by offset, R421. -/
def tmrFields (o : Nat) : Option (List Fld) :=
  match o with
  | 0x0 => some TMR_CTL.fields
  | 0x4 => some TMR_CFG.fields
  | 0x8 => some TMR_PRE.fields
  | 0xc => some TMR_LIMIT.fields
  | 0x10 => some TMR_COUNT.fields
  | 0x14 => some TMR_STATUS.fields
  | 0x18 => some TMR_CAP.fields
  | 0x1c => some TMR_PIN.fields
  | _ =>
    none

/-- Analog port registers by offset, R93. -/
def adcFields (o : Nat) : Option (List Fld) :=
    if o < 0x20 then some ADC_SDCFG.fields else
    if 0x40 ≤ o ∧ o < 0x50 then some ADC_FSCFG.fields else
    none

/-- Supply registers, read as KEEP RAM words from 0x2000_1800, R471. -/
def supplyFields (o : Nat) : Option (List Fld) :=
  match o with
  | 0x0 => some PWR_SUPPLY.fields
  | 0x4 => some PWR_DOWNFAULT.fields
  | 0x14 => some PWR_SUPSTAT.fields
  | _ =>
    if o = 8 ∨ o = 12 ∨ o = 16 then some PWR_DOWNGTS.fields else
    none

/-- The fields of the register at a word address of the package map (R30, R31 and the block chapters), or none where
the address holds no listed register: such an access is unmapped under R32. The EIO window, whose registers the spec
lists nowhere, is apart (log entry 9). -/
def fieldsAt (a : Nat) : Option (List Fld) :=
  if a % 4 ≠ 0 then none
  else if 0x20001800 ≤ a ∧ a < 0x20001818 then supplyFields (a - 0x20001800)
  else if a < 0x40000000 then none
  else if a < 0x40001000 then pwrFields (a - 0x40000000)
  else if a < 0x40002000 then tbFields (a - 0x40001000)
  else if a < 0x40003000 then hpFields ((a - 0x40002000) % 0x400)
  else if a < 0x40003040 then hwuPortFields ((a - 0x40003000) % 0x10)
  else if a = 0x40003040 then some HWU_COMMIT.fields
  else if a = 0x40003044 then some HWU_INV.fields
  else if a < 0x40004000 then none
  else if a < 0x40005000 then resFields (a - 0x40004000)
  else if a < 0x40006000 then secFields (a - 0x40005000)
  else if a < 0x40007000 then idFields (a - 0x40006000)
  else if a < 0x40008000 then snsFields (a - 0x40007000)
  else if a < 0x40009000 then flxFields (a - 0x40008000)
  else if a < 0x4000A000 then stpFields (a - 0x40009000)
  else if a < 0x4000B000 then logFields (a - 0x4000A000)
  else if a < 0x4000C000 then faultFields (a - 0x4000B000)
  else if a < 0x41000000 then none
  else if a < 0x41080000 then
    let o := (a - 0x41000000) % 0x10000
    if o < 0x1000 then ctlFields o
    else if o < 0x5000 then tileFields (o % 0x1000)
    else if o < 0x8000 then none
    else sliceFields o
  else if a < 0x42000000 then none
  else if a < 0x42008000 then twbFields ((a - 0x42000000) % 0x1000)
  else if a < 0x42010000 then none
  else if a < 0x42016000 then cspFields ((a - 0x42010000) % 0x1000)
  else if a < 0x42020000 then none
  else if a < 0x42020800 then tmrFields ((a - 0x42020000) % 0x40)
  else if a < 0x42030000 then none
  else if a < 0x42031000 then adcFields (a - 0x42030000)
  else none

end Sys2Proof.Machine
end

