-- ==== Sys2Proof/Machine/Bits.lean ====
section
/-! DEFINITION. Bit fields of register words, byte strings, integer rounding, square roots, and the check codes the spec
names. -/

namespace Sys2Proof.Machine

/-- The value of a field of a word. -/
def fget (w : Word) (f : Fld) : Nat := w.toNat / 2 ^ f.lo % 2 ^ (f.hi + 1 - f.lo)

/-- A word with a field set to a value, modulo the field's width. -/
def fset (w : Word) (f : Fld) (v : Nat) : Word :=
  Word.ofNat (w.toNat / 2 ^ (f.hi + 1) * 2 ^ (f.hi + 1) + v % 2 ^ (f.hi + 1 - f.lo) * 2 ^ f.lo + w.toNat % 2 ^ f.lo)

/-- The largest value a field holds. -/
def Fld.max (f : Fld) : Nat := 2 ^ (f.hi + 1 - f.lo) - 1

/-- The word that a list of fields resets to. -/
def resetOf (fs : List Fld) : Word := fs.foldl (fun w f => fset w f f.rst) 0

/-- A word holding the given values of the given fields, 0 elsewhere. -/
def pack (l : List (Fld × Nat)) : Word := l.foldl (fun w e => fset w e.1 e.2) 0

/-- 1 for true. -/
def b2n (b : Bool) : Nat := if b then 1 else 0

/-- The word after a write by the types of its fields, R6; bits outside the fields are reserved and read 0 (R9). -/
def writeWord (fs : List Fld) (old v : Word) : Word :=
  fs.foldl (fun w f =>
    match f.ty with
    | .rw | .sh => fset w f (fget v f)
    | .w1c => fset w f (fget old f &&& (f.max - fget v f))
    | .w1s => fset w f (fget old f ||| fget v f)
    | .ro | .wo | .rc => w) old

/-- What a read returns, by the types of the fields, R6 and R9. -/
def readWord (fs : List Fld) (w : Word) : Word :=
  fs.foldl (fun r f => if f.ty = .wo then r else fset r f (fget w f)) 0

/-- The word after a read: RC fields are cleared, R6. -/
def afterRead (fs : List Fld) (w : Word) : Word :=
  fs.foldl (fun r f => if f.ty = .rc then fset r f 0 else r) w

/-- A number of the given width read as two's complement. -/
def signed (bits n : Nat) : Int :=
  if n % 2 ^ bits < 2 ^ (bits - 1) then ((n % 2 ^ bits : Nat) : Int) else ((n % 2 ^ bits : Nat) : Int) - 2 ^ bits

/-- An integer as a two's complement number of the given width. -/
def wrap (bits : Nat) (i : Int) : Nat := (i % (2 ^ bits : Int)).toNat

/-- An integer limited to the signed range of the given width. -/
def satI (bits : Nat) (i : Int) : Int :=
  if i < -(2 ^ (bits - 1) : Int) then -(2 ^ (bits - 1) : Int)
  else if (2 ^ (bits - 1) : Int) - 1 < i then (2 ^ (bits - 1) : Int) - 1 else i

/-- A number limited to a maximum. -/
def satN (m n : Nat) : Nat := min m n

/-- n / d rounded up; 0 for d = 0. -/
def ceilDiv (n d : Nat) : Nat := if d = 0 then 0 else (n + d - 1) / d

/-- i / d rounded to the nearest, ties away from zero; d > 0. -/
def roundDiv (i : Int) (d : Nat) : Int :=
  if 0 ≤ i then ((2 * i.toNat + d) / (2 * d) : Nat) else -((2 * (-i).toNat + d) / (2 * d) : Nat)

/-- Bit by bit square root, from bit k - 1 of the root down. -/
def isqrtGo (n : Nat) : Nat → Nat → Nat
  | 0, r => r
  | k + 1, r => if (r + 2 ^ k) * (r + 2 ^ k) ≤ n then isqrtGo n k (r + 2 ^ k) else isqrtGo n k r

/-- The square root rounded down, of a number below 2^256. -/
def isqrt (n : Nat) : Nat := isqrtGo n 128 0

/-- The square root rounded up. -/
def ceilSqrt (n : Nat) : Nat := let r := isqrt n; if r * r = n then r else r + 1

/-- n as k bytes, least significant first (R5). -/
def leBytes : Nat → Nat → List Byte
  | 0, _ => []
  | k + 1, n => BitVec.ofNat 8 n :: leBytes k (n / 256)

/-- The number that bytes spell, least significant first. -/
def ofLe : List Byte → Nat
  | [] => 0
  | b :: r => b.toNat + 256 * ofLe r

/-- n bytes of a string from offset o, 0 beyond its end. -/
def slice (b : List Byte) (o n : Nat) : List Byte := (b.drop o).take n ++ List.replicate (n - ((b.drop o).take n).length) 0

/-- The number at offset o, n bytes, least significant first. -/
def leAt (b : List Byte) (o n : Nat) : Nat := ofLe ((b.drop o).take n)

/-- One bit step of a reflected CRC. -/
def crcStepR (poly : Nat) : Nat → Nat → Nat
  | 0, c => c
  | k + 1, c => crcStepR poly k (if c % 2 = 1 then (c / 2) ^^^ poly else c / 2)

/-- CRC-32 of R153: IEEE 802.3 polynomial, reflected, initial value and final XOR 0xFFFF_FFFF. -/
def crc32 (b : List Byte) : Nat :=
  (b.foldl (fun c x => crcStepR 0xEDB88320 8 (c ^^^ x.toNat)) 0xFFFFFFFF) ^^^ 0xFFFFFFFF

/-- One bit step of a CRC fed most significant bit first, of width w. -/
def crcStepM (w poly : Nat) : Nat → Nat → Nat
  | 0, c => c
  | k + 1, c => crcStepM w poly k (if c / 2 ^ (w - 1) % 2 = 1 then ((2 * c) % 2 ^ w) ^^^ poly else 2 * c % 2 ^ w)

/-- CRC-16/CCITT of R478: x^16 + x^12 + x^5 + 1, initial value 0xFFFF, most significant bit first. -/
def crc16 (b : List Byte) : Nat := b.foldl (fun c x => crcStepM 16 0x1021 8 (c ^^^ (x.toNat * 256))) 0xFFFF

/-- CRC-8 of the SMBus packet error code: x^8 + x^2 + x + 1, initial value 0. -/
def crc8 (b : List Byte) : Nat := b.foldl (fun c x => crcStepM 8 0x07 8 (c ^^^ x.toNat)) 0

/-- The 12 bytes of a GTS, R40. -/
def gtsBytes (g : Gts) : List Byte := leBytes 2 g.unc.toNat ++ leBytes 10 g.t.toNat

/-- The GTS that 12 bytes hold, R40. -/
def gtsOfBytes (b : List Byte) : Gts := ⟨BitVec.ofNat 80 (leAt b 2 10), BitVec.ofNat 16 (leAt b 0 2)⟩

/-- A GTS as three words, bits [31:0] first, R79. -/
def gtsWords (g : Gts) : List Word :=
  let n := g.t.toNat * 65536 + g.unc.toNat
  [Word.ofNat n, Word.ofNat (n / 2 ^ 32), Word.ofNat (n / 2 ^ 64)]

/-- The encoding of an uncertainty, R42, from its square in ps^2. -/
def encodeUnc (var : Nat) : BitVec 16 :=
  let r := ceilSqrt var
  let m (e : Nat) : Nat := max (ceilDiv r (1000 * 2 ^ e)) (if e = 0 then 1 else 0)
  match (List.range 16).find? (fun e => m e ≤ 4095) with
  | some e => BitVec.ofNat 16 (e * 4096 + m e)
  | none => 0xFFFF

/-- The uncertainty in ns that an encoding states, R40. -/
def decodeUnc (u : BitVec 16) : Nat := u.toNat % 4096 * 2 ^ (u.toNat / 4096)

/-- The square in ps^2 of an encoded uncertainty. -/
def uncSq (u : BitVec 16) : Nat := (decodeUnc u * 1000) * (decodeUnc u * 1000)

/-- A span in ns as FRAC units of 2^-40 s, rounded to the nearest. -/
def nsToFrac (ns : Nat) : Nat := (ns * 2 ^ 40 + 500000000) / 1000000000

/-- A span in FRAC units as ns, rounded down. -/
def fracToNs (f : Nat) : Nat := f * 1000000000 / 2 ^ 40

end Sys2Proof.Machine
end

