-- ==== Sys2Proof/Machine/Mem.lean ====
section
/-! DEFINITION. Memory: one list of (address, byte) pairs in canonical form. Package memories lie at their package
addresses (R30); cluster data memory n lies at 2^32 + n × 0x20000 and the program memory of core c at
2^33 + c × 0x10000, spaces of their own outside the package map (R18, R34). -/

namespace Sys2Proof.Machine

/-- What a byte that is not listed reads as: 0, and a free value in the Undercoat ROM (log entry 4). -/
def memDefault (a : Nat) : Byte := if 0x30000000 ≤ a ∧ a < 0x30010000 then Config.romByte a else 0

/-- The byte at an address. -/
def memRead (m : List Host.Cell) (a : Nat) : Byte :=
  match m with
  | [] => memDefault a
  | (k, b) :: r => if k = a then b else memRead r a

/-- The cells with one put before the first greater address. -/
def memInsert (m : List Host.Cell) (a : Nat) (b : Byte) : List Host.Cell :=
  match m with
  | [] => [(a, b)]
  | (k, c) :: r => if a < k then (a, b) :: (k, c) :: r else (k, c) :: memInsert r a b

/-- A byte written: a byte equal to what an unlisted address reads as is not listed. -/
def memWrite (m : List Host.Cell) (a : Nat) (b : Byte) : List Host.Cell :=
  let r := m.filter (fun c => c.1 ≠ a)
  if b = memDefault a then r else memInsert r a b

/-- Addresses strictly rising, and no entry equal to what an unlisted address reads as. -/
def memWf : List Host.Cell → Bool
  | [] => true
  | [(a, b)] => b ≠ memDefault a
  | (a, b) :: (c, d) :: r => b ≠ memDefault a && decide (a < c) && memWf ((c, d) :: r)

/-- Bytes written from an address up. -/
def memWriteBytes (m : List Host.Cell) (a : Nat) : List Byte → List Host.Cell
  | [] => m
  | b :: r => memWriteBytes (memWrite m a b) (a + 1) r

/-- n bytes read from an address up. -/
def memReadBytes (m : List Host.Cell) (a : Nat) : Nat → List Byte
  | 0 => []
  | n + 1 => memRead m a :: memReadBytes m (a + 1) n

/-- The word at an address, little-endian (R5). -/
def memReadWord (m : List Host.Cell) (a : Nat) : Word := Word.ofNat (ofLe (memReadBytes m a 4))

/-- A word written, little-endian (R5). -/
def memWriteWord (m : List Host.Cell) (a : Nat) (w : Word) : List Host.Cell := memWriteBytes m a (leBytes 4 w.toNat)

/-- Memory with a range lost: every byte of it reads its default again. -/
def memLose (m : List Host.Cell) (lo hi : Nat) : List Host.Cell := m.filter (fun c => c.1 < lo ∨ hi ≤ c.1)

/-- Base of a cluster's data memory, R18. -/
def dataMemBase (n : Nat) : Nat := 2 ^ 32 + n * 0x20000
/-- Base of a watch core's program memory, R18. -/
def progMemBase (c : Nat) : Nat := 2 ^ 33 + c * 0x10000

end Sys2Proof.Machine
end

