-- ==== Sys2Proof/Machine/Tab.lean ====
section
/-! DEFINITION. Sparse tables: a list of keys and values in ascending key order, with a default for a key not listed. -/

namespace Sys2Proof.Machine

/-- A sparse table from a number to a value. -/
abbrev Tab (α : Type) := List (Nat × α)

/-- The entry listed for a key. -/
def Tab.find {α : Type} : Tab α → Nat → Option α
  | [], _ => none
  | (k, v) :: r, i => if k = i then some v else Tab.find r i

/-- The value of a key: the entry listed, or the default. -/
def Tab.get {α : Type} (d : α) (t : Tab α) (i : Nat) : α := (Tab.find t i).getD d

/-- The table with a value set: an entry replaced, or inserted before the first greater key. -/
def Tab.put {α : Type} : Tab α → Nat → α → Tab α
  | [], i, v => [(i, v)]
  | (k, w) :: r, i, v =>
    if k = i then (i, v) :: r
    else if i < k then (i, v) :: (k, w) :: r
    else (k, w) :: Tab.put r i v

/-- The table with a key no longer listed. -/
def Tab.del {α : Type} (t : Tab α) (i : Nat) : Tab α := t.filter (fun e => e.1 ≠ i)

/-- The table dst with every key of lo ≤ k < hi taking the entry of src. -/
def Tab.copyRange {α : Type} (src dst : Tab α) (lo hi : Nat) : Tab α :=
  dst.filter (fun e => e.1 < lo) ++ src.filter (fun e => lo ≤ e.1 ∧ e.1 < hi) ++ dst.filter (fun e => hi ≤ e.1)

/-- The table with every key of lo ≤ k < hi no longer listed. -/
def Tab.clearRange {α : Type} (t : Tab α) (lo hi : Nat) : Tab α :=
  t.filter (fun e => e.1 < lo ∨ hi ≤ e.1)

end Sys2Proof.Machine
end

