-- ==== Sys2Proof/Machine/State.lean ====
section
/-! DEFINITION. The state of the block, as plain data: every register, queue, counter, mode and pin the spec names, and
the queue of waiting commands. -/

namespace Sys2Proof.Machine

/-- A fault stops the model. -/
inductive Fault where
  /-- A processor accesses the EIO register window 0x4204_0000 to 0x4204_0FFF: the spec maps it (R30) and lists none of
  its registers (log entry 9). Raised by the register access commands. Safe. -/
  | eioRegister
  deriving DecidableEq, Repr

/-- A refusal: the model gives no meaning. -/
inductive Refusal where
  /-- A command without a meaning yet. Raised by its arm of exec. Safe. -/
  | notModelled (mnemonic : String)
  deriving DecidableEq, Repr

/-! ## Records -/

/-- A lane record, R100. -/
structure LaneRec where
  gts : Gts
  value : BitVec 32
  lane : Nat
  flags : Nat
  seq : Nat
  epoch : Nat
  deriving DecidableEq, Repr

/-- An event record, R155, with its epoch. -/
structure EvRec where
  gts : Gts
  value : BitVec 32
  kind : Nat
  subj : Nat
  rule : Nat
  cause : Nat
  count : Nat
  trans : Nat
  eflags : Nat
  epoch : Nat
  deriving DecidableEq, Repr

/-- A record of FAULT, R535: a level, a cause code of R536, a unit, the GTS and a detail. -/
structure FaultRec where
  level : Nat
  cause : Nat
  unit : Nat
  gts : Gts
  detail : Nat
  deriving DecidableEq, Repr

/-- An instant as an input or a packet carries it: its GTS, the epoch in force at it (R155), and the gated ring whose capture
is still to complete it (R163). -/
structure Stamp where
  gts : Gts
  epoch : Nat
  ring : Option Nat
  deriving DecidableEq, Repr

/-! ## The fabric, R20 to R22 -/

/-- What travels as one packet or one record's flits. -/
inductive Packet where
  | attention (ports : BitVec 4) (g : Stamp)
  | stpTrigger (slot rule : Nat) (g : Stamp)
  | modeRequest (mode : Nat) (g : Stamp)
  | bopen (handle rule : Nat) (g : Stamp)
  | bclose (handle rule : Nat) (g : Stamp)
  | signal (src dst : Nat) (g : Stamp)
  | fault (r : FaultRec)
  | laneRecord (ring : Nat) (r : LaneRec)
  | event (slice : Nat) (r : EvRec)
  deriving DecidableEq, Repr

/-- A packet waiting at a merge point: its channel, its source index there, its final destination at the hub, the flits of it
that have not moved yet (R20), when it was offered, its cycle and its engine's order among the packets of that cycle (R149). -/
structure Waiting where
  ch : Channel
  src : Nat
  dst : Nat
  pkt : Packet
  flits : Nat
  since : Nat
  cycle : Nat
  order : Nat
  deriving DecidableEq, Repr

/-- A merge point: what waits, the source last granted on each channel (R21), and when its latest grant was. -/
structure Merge where
  wait : List Waiting
  lastEvent : Nat
  lastData : Nat
  lastAt : Nat
  deriving DecidableEq, Repr

/-! ## Time -/

/-- The TB PLL, R45. -/
inductive Pll where
  | off
  | settling (since : Nat)
  | starting
  | locked
  deriving DecidableEq, Repr

/-- A gated ring, R55: the edge it measures (pin, rising, when it came), and its calibration (period in fs,
temperature). -/
structure Ring where
  edge : Option (Nat × Bool × Nat)
  cal : Option (Nat × Int)
  deriving DecidableEq, Repr

/-- An edge latched between a wake request and the handover, R57. -/
structure SpanEdge where
  pin : Nat
  rise : Bool
  deriving DecidableEq, Repr

/-- The instants a TIME_SET claims for, R70. -/
inductive ClaimKind where
  | now | nextPps | edge (pin : Nat)
  deriving DecidableEq, Repr

/-- A claim waiting for its instant, R70: the claimed time, U_h as encoded, FORCE, and when it came (model clock). -/
structure Claim where
  kind : ClaimKind
  time : BitVec 80
  unc : BitVec 16
  force : Bool
  since : Nat
  seq : Nat
  op : Nat
  deriving DecidableEq, Repr

/-- A submission that waits in a bank, R73: d, U_src squared, SRC and FORCE. -/
structure Submission where
  d : Int
  usq : Nat
  src : Nat
  force : Bool
  deriving DecidableEq, Repr

/-- What the clock uncertainty stood on at an earlier instant, R59 and R61: the model's clock, U_0 squared, t_0 and the sum
of the rate terms. -/
structure UPoint where
  el : Nat
  u0sq : Nat
  t0El : Nat
  rateSum : Nat
  deriving DecidableEq, Repr

/-- Float's state, R66. -/
inductive FloatState where
  | unset | acquire | locked | holdover
  deriving DecidableEq, Repr

/-- The timebase and Float. Times count 2^-64 s in 104 bits (R44); variances are in ps^2, rate sums in 10^-12 ns. keep is the
KEEP timekeeper at its latest tick, xkPhase the crystal's phase since; calibrated tells when each ring was calibrated since
the start (R55); handovers holds the latest ones by epoch and local time (R156), stepped the latest steps by when they came
and their size in FRAC units (R48); fiLast counts 125 ps (R49); slope is σ_b and past the latest changes of what U_clk grows from (R59); subs
holds the banks' submissions, the Keeper's 0 and the Link processor's 1 (R73). -/
structure Time where
  acc : BitVec 104
  keep : BitVec 104
  keepCarries : Bool
  keepCorr : Int
  refEn : Bool
  pll : Pll
  xkPhase : Nat
  calibrated : Tab Nat
  handovers : List (Nat × BitVec 80)
  stepped : List (Nat × Int)
  rings : Tab Ring
  span : List SpanEdge
  spanFrom : Nat
  fiLast : Tab Nat
  eioLevel : BitVec 48
  ppsLevel : Bool
  state : FloatState
  u0sq : Nat
  t0 : BitVec 80
  t0El : Nat
  rateSum : Nat
  slope : Nat
  past : List UPoint
  residuals : List Nat
  selected : Option TimeSource
  hostSel : Bool
  outliers : Nat
  good : Nat
  accepted : Tab Nat
  usrcSq : Tab Nat
  ppsLast : Option (BitVec 80)
  ppsSeen : Option Nat
  slewLeft : Int
  rateCorr : Int
  claims : Tab Claim
  subs : Tab Submission
  established : Bool
  learnMin : Nat
  commitPending : Bool
  deriving DecidableEq, Repr

/-! ## Tiles -/

/-- What one acquisition brings, R87 and R103. -/
inductive Acq where
  | code (c : Int)
  | bytes (b : List Byte)
  | levels (w : BitVec 16)
  | channels (l : List (Nat × Int × Bool))
  | failed
  deriving DecidableEq, Repr

/-- An acquisition sent to the port and not yet delivered, R569. -/
structure Sent where
  entry : Nat
  cmd : Nat
  lanes : BitVec 16
  /-- The instant at which it is to be made, in local time. -/
  at_ : BitVec 80
  /-- The scheduled instant, in ns of local time. -/
  due : Nat
  /-- The instant of the model's clock at which it is to be made. -/
  opens : Nat
  /-- ADC_SDCFG as its open window latched it, where the register has been written since, R93. -/
  cfg : Option Word := none
  deriving DecidableEq, Repr

/-- An acquired value held by the tile, R110. -/
structure Held where
  lanes : BitVec 16
  gts : Gts
  epoch : Nat
  val : Acq
  ow : Bool
  late : Bool
  /-- When the tile came to hold it, R126. -/
  arrived : Nat := 0
  deriving DecidableEq, Repr

/-- The motion-bias tracker, R120 to R123: b̂ in 2^-16 pipeline units, J in 2^-32, the records of a triad under way. -/
structure Tracker where
  b : List Int
  j : List Int
  conf : Nat
  triad : List LaneRec
  deriving DecidableEq, Repr

/-- A tile, besides its registers. -/
structure Tile where
  running : Bool
  /-- The switching boundary of the pending set, R124. -/
  pending : Option (BitVec 80)
  /-- When GO was written for it. -/
  goEl : Nat
  /-- The latest instant for which each entry was sent, with its epoch, R95. -/
  sent : Tab (Nat × Nat)
  held : List Held
  buffer : List LaneRec
  credits : Nat
  returning : Nat
  fifo : List LaneRec
  fifoWord : Nat
  trk : Tracker
  deriving DecidableEq, Repr

/-- A biquad's history, R106. -/
structure Biquad where
  x1 : Int
  x2 : Int
  y1 : Int
  y2 : Int
  deriving DecidableEq, Repr

/-- A lane's pipeline, R104 to R118. -/
structure Lane where
  window : List Int
  base : Int
  integ : List Int
  comb : List Int
  phase : Nat
  bqa : Option Biquad
  bqb : Option Biquad
  run : Option (Int × Nat)
  fb : Option (Int × Int)
  clean : Nat
  warm : Nat
  ow : Bool
  late : Bool
  full : Option Bool
  miss : Bool
  last : Option Int
  seq : Nat
  epoch : Option Nat
  latest : Option LaneRec
  deriving DecidableEq, Repr

/-! ## Recognition -/

/-- An input waiting for dispatch at an engine, R137 to R150: of source A, or a record of the B lane. -/
inductive EngIn where
  | record (r : LaneRec)
  | edge (pin : Nat) (rise : Bool) (g : Stamp)
  | signal (src : Nat) (g : Stamp)
  | model (slot cls : Nat) (score : Int) (doubt : Nat) (g : Stamp)
  | bLane (r : LaneRec)
  deriving DecidableEq, Repr

/-- A rule engine, R144; its inputs wait in order of arrival, each with its dispatch cycle (R150). -/
structure Engine where
  st : Nat
  c0 : Nat
  c1 : Nat
  deadline : Option Nat
  remaining : Option Nat
  hyst : Bool
  window : List Int
  heldB : Option LaneRec
  lastIn : Nat
  lastQ : Int
  faulted : Bool
  inq : List (Nat × EngIn)
  deriving DecidableEq, Repr

/-- A coalescer entry, R157: valueAt is the instant of the event whose VALUE it keeps. -/
structure Coal where
  key : Nat × Nat × Nat
  close : BitVec 80
  count : Nat
  gts : Gts
  value : BitVec 32
  valueAt : BitVec 80
  trans : Nat
  rule : Nat
  eflags : Nat
  epoch : Nat
  deriving DecidableEq, Repr

/-- A recognizer slice, besides its engines and registers: unready holds the event records whose instant a gated ring still
measures (R163), lostAt the earliest instant among the records lost and lostEflags its WATCHT (R159). -/
structure Slice where
  pending : Option (BitVec 32)
  commits : List (BitVec 32)
  coal : List Coal
  buffer : List EvRec
  unready : List (Nat × EvRec)
  lost : Nat
  lostAt : Stamp
  lostEflags : Nat
  lostRule : Nat
  lastInput : Nat
  deriving DecidableEq, Repr

/-- What a run gathered, R167: the quantised inputs, how many are doubtful, the GTS of the newest input record and its
epoch, and per input the instants of its records from the newest. -/
structure Gathered where
  ins : List Int
  doubt : Nat
  gts : Gts
  epoch : Nat
  times : List (List (BitVec 80))
  deriving DecidableEq, Repr

/-- A run of a Stipple slot, R168 to R170: the triggering rule, or none (NORULE), and what it gathered once it has
started. -/
structure StpRun where
  slot : Nat
  rule : Option Nat
  got : Option Gathered
  deriving DecidableEq, Repr

/-- A Stipple slot: its sparse state (the inputs propagated per layer), the newest record of each input at the latest run, runs
since the last dense one, period base. -/
structure StpSlot where
  sparse : Option (List (List Int))
  newest : List (Option (BitVec 80))
  sinceDense : Nat
  periodAt : Nat
  deriving DecidableEq, Repr

/-- The Stipple engine. -/
structure Stp where
  waiting : List StpRun
  running : Option StpRun
  preempted : List StpRun
  slots : Tab StpSlot
  pendingSlots : List Nat
  idleSince : Nat
  deriving DecidableEq, Repr

/-! ## Rings, batches, the log and the windows -/

/-- The FMT 2 context of one lane, R193. -/
structure Ctx where
  t : Int
  delta : Int
  unc : Nat
  flags : Nat
  seq : Nat
  value : Int
  deriving DecidableEq, Repr

/-- A valid segment of a ring, R187: where it lies and what its header holds. -/
structure Seg where
  page : Nat
  sseq : Nat
  epoch : Nat
  fmt : Nat
  kt : Nat
  kv : Nat
  base : Gts
  nrec : Nat
  used : Nat
  closed : Bool
  aged : Bool
  cut : Bool
  lost : Bool
  flushed : Bool
  lastT : Nat
  ctx : Tab Ctx
  deriving DecidableEq, Repr

/-- A staged record: a lane record or an event record. -/
inductive Staged where
  | lane (r : LaneRec)
  | event (r : EvRec)
  deriving DecidableEq, Repr

/-- A batch ring, R186 to R198: records staged, segments from the oldest to the newest, SSEQ to be taken next. -/
structure BatchRing where
  staged : List Staged
  segs : List Seg
  nextSseq : Nat
  nextPage : Nat
  markLost : Bool
  markCut : Bool
  release : Nat
  pending : Bool
  deriving DecidableEq, Repr

/-- The states of a batch handle, R197. -/
inductive BatchState where
  | free | armed | opened | closed
  deriving DecidableEq, Repr

/-- A batch handle, R197 and R198. -/
structure Handle where
  st : BatchState
  ring : Nat
  first : Nat
  segs : Nat
  deriving DecidableEq, Repr

/-- What the log flusher is doing, R201 and R202: erasing its sector, programming a segment (its ring and SSEQ) into the next
block, reading that block back, or programming the sector's index block. -/
inductive FlashTask where
  | erase
  | program (ring sseq : Nat)
  | readBack (ring sseq : Nat)
  | index
  deriving DecidableEq, Repr

/-- A frame of LOG that has not begun, R397: its descriptor, and the flash address, length and buffer that LOG supplies. -/
structure LogFrame where
  desc : Nat
  addr : Nat
  len : Nat
  buf : Nat
  deriving DecidableEq, Repr

/-- The log flusher, R200 to R204: its task with the frames still to begin, whether the flash will report it failed, the bytes
read of a split Read (R400) and the block read back; the index entries of the sector; whether a failed task is being retried and whether flushing has stopped; the
sector that was erased for the blocks to come; the closed segments in closing order. -/
structure Flusher where
  task : Option FlashTask
  frames : List LogFrame
  fails : Bool
  part : List Byte
  got : Option (List Byte)
  entries : List (List Byte)
  retry : Bool
  stopped : Bool
  erased : Option Nat
  order : List (Nat × Nat)
  setPending : Bool
  deriving DecidableEq, Repr

/-! ## The sense die -/

/-- The state of a sense wire, R233: 0 INTACT, 1 SUSPECT, 2 OPEN; the run of INTACT verdicts; whether it has had one. -/
structure Wire where
  st : Fin 3
  run : Nat
  tested : Bool
  deriving DecidableEq, Repr

/-- The phases of an OWTEST, R229; window B lies at the end of the injection. -/
inductive OwPhase where
  | waiting | windowA | injecting | recovery
  deriving DecidableEq, Repr

/-- An OWTEST in progress: the wire, the phase and its beginning, the codes of window A. -/
structure OwTest where
  wire : Nat
  phase : OwPhase
  since : Nat
  codesA : List Int
  deriving DecidableEq, Repr

/-- A sense-port command whose window is open: its port, tile and lanes. -/
structure SnsCmd where
  port : Nat
  tile : Nat
  lanes : BitVec 16
  deriving DecidableEq, Repr

/-- A window of a conversion group, R223 to R225: its commands, beginning and length, EST, the acquisition GTS and its
epoch, and, as it opened, the wires not INTACT and the cells not delivered (R229). -/
structure SnsWin where
  cmds : List SnsCmd
  since : Nat
  len : Nat
  est : Bool
  gts : Gts
  epoch : Nat
  bad : List Nat
  gone : List Nat := []
  deriving DecidableEq, Repr

/-- What a RESULT frame says, R226: the channel's code and verdict, the excitation chip and the commands that it serves;
whether the channel is withheld from its lanes (R229), and whether it is the last of a cell-group conversion. -/
structure SnsResult where
  port : Nat
  chan : Nat
  code : Int
  ow : Bool
  est : Bool
  chip : Bool
  gts : Gts
  epoch : Nat
  cmds : List SnsCmd
  skip : Bool := false
  final : Bool := false
  deriving DecidableEq, Repr

/-- The frames of the sense link by their types, R226. A VERDICT of 0 tells the state that the passive check gave a wire
(log entry 89). -/
inductive SnsData where
  | cmd (port command : Nat)
  | start (cell therm : Bool)
  | result (r : SnsResult)
  | verdict (wire v : Nat)
  | cfg (addr : Nat) (word : Word)
  | status (dieReset : Bool)
  deriving DecidableEq, Repr

/-- A frame on the sense link, R16 and R226: its data, the resends made, and whether it is on its way or was discarded. -/
structure SnsFrame where
  data : SnsData
  fails : Nat := 0
  sent : Bool := true
  deriving DecidableEq, Repr

/-- The estimator of one cell, R239 and R240, exact: voltages in codes, excitation in mA; σ_OCV squared is none where it
is saturated. -/
structure Cell where
  vbar : Option Rat
  c : Rat
  p : Rat
  s2 : Rat
  ocv : Option Rat
  so2 : Rat
  osig2 : Option Rat
  deriving DecidableEq, Repr

/-- The sense block and the sense die. wanted tells that an access or a command has asked for training (R227), latAt when L
was last calibrated, toDie and toCore the frames of either direction in the order of sending; prev holds, per wire, what
its passive check compares with (R232); latest the codes of the latest cell-group conversion as the RESULT frames brought
them (cells 1 to 18, the stack, the temperature); pendAt when the pending set was committed. -/
structure Sense where
  wanted : Bool
  trained : Bool
  everTrained : Bool
  down : Bool
  downAt : Nat
  latAt : Option Nat
  toDie : List SnsFrame
  toCore : List SnsFrame
  cellWin : Option SnsWin
  cellFree : Nat
  thermWin : Option SnsWin
  thermFree : Nat
  wires : Tab Wire
  lastTested : Nat
  ow : Option OwTest
  prev : Tab (Int × Int)
  latest : List Int
  lfsr : BitVec 15
  chip : Bool
  cells : Tab Cell
  current : List (BitVec 80 × Int × Bool)
  pendOw : Bool
  pendTh : Bool
  pendEst : Bool
  pendAt : Nat
  deriving DecidableEq, Repr


/-! ## Power modes -/

/-- The state of a power domain, R425. -/
inductive DomState where
  | on | ret | off
  deriving DecidableEq, Repr

/-- The phases of an entry of a lower mode, R437. -/
inductive EntryPhase where
  | query | save | handover | powerDown
  deriving DecidableEq, Repr

/-- What a queried block has answered, R437. -/
inductive BlockState where
  | asked | delayed (since : Nat) | accepted
  deriving DecidableEq, Repr

/-- An entry in progress, R437. -/
structure Entry where
  from_ : Nat
  to_ : Nat
  phase : EntryPhase
  blocks : Tab BlockState
  saves : List Nat
  deriving DecidableEq, Repr

/-- A wake request waiting at the admission controller, R447: the domain, when it came. -/
structure WakeReq where
  dom : Nat
  at_ : Nat
  deriving DecidableEq, Repr

/-- A granted wake, R445: the domain, its credits and when it is ready. -/
structure WakeGrant where
  dom : Nat
  credits : Nat
  ready : Nat
  deriving DecidableEq, Repr

/-- A MODE_SET that waits for its mode, R436. -/
structure ModeWait where
  port : Nat
  seq : Nat
  mode : Nat
  deriving DecidableEq, Repr

/-- The power manager: the entry in progress, when a refused one is tried again, whether a wake is under way and when the
latest began, the demands by the instants at which they lapse, requests and grants of wakes, the HWAKE inputs taken high,
the replies that wait, the clusters whose cores wait for PWR_RESTORE (R449), whether a committed set waits for the
next entry (R450), and the SEC of the KEEP alarm that a processor armed (R520). -/
structure Pwr where
  entry : Option Entry
  retryAt : Option Nat
  waking : Bool
  lastWake : Nat
  demands : List Nat
  queue : List WakeReq
  grants : List WakeGrant
  hwake : BitVec 4
  modeWaits : List ModeWait
  held : List Nat
  setPending : Bool
  hostAlarm : Option Nat
  deriving DecidableEq, Repr

/-! ## Host ports and OHP -/

/-- A complete inbound message, taken and waiting for its execution (R333, R342): its SEQ and opcode, the LEN of each slot,
its payload, when the port received its last slot (local time and the model's clock, R70), and the status that refuses it
before its execution, 0 for none. -/
structure Msg where
  seq : Nat
  op : Nat
  lens : List Nat
  payload : List Byte
  at_ : BitVec 80 := 0
  since : Nat := 0
  bad : Nat := 0
  deriving DecidableEq, Repr

/-- A message under assembly from its slots, R333; lost where a restart lost slots of it (R360). -/
structure Assembly where
  seq : Nat
  op : Nat
  frag : Nat
  lens : List Nat
  payload : List Byte
  lost : Bool
  deriving DecidableEq, Repr

/-- An outbound message that waits for room in the ring, R332, from fragment frag on. -/
structure OutMsg where
  op : Nat
  status : Nat
  reply : Bool
  payload : List Byte
  frag : Nat := 0
  deriving DecidableEq, Repr

/-- What a port's event queue holds, R353 and R354. -/
inductive PortEv where
  | record (r : EvRec)
  | message (core : Nat) (bytes : List Byte)
  deriving DecidableEq, Repr

/-- A host port, besides its registers: its strap, the version of its session, HOSTID, SUBS, the message under assembly
and those taken, whether it resynchronises after a gap (R339), the newest ACKSEQ taken, what waits for the outbound ring,
the event queue and the copies lost, the SEQs named by INPROD writes while there is no session (R336), and when each
inbound slot was received. -/
structure Port where
  twoWire : Bool
  session : Option Nat
  hostId : List Byte
  subs : Word
  assembly : Option Assembly
  taken : List Msg
  resync : Bool
  ackIn : Nat
  outWait : List OutMsg
  evq : List PortEv
  evLost : Nat
  announced : List Nat
  rx : Tab (BitVec 80 × Nat)
  deriving DecidableEq, Repr

/-- A role, R344: the cluster that holds it and its assignment epoch. -/
structure Role where
  cluster : Option Nat
  epoch : Nat
  deriving DecidableEq, Repr

/-- What Topcoat keeps for all ports: roles and their epoch, alarms, whose turn it is, whether it runs, which port
claimed a unit for another owner (R530), whether its session records are complete (R430), whether Undercoat serves
recovery (R511), and the restart that an UPDATE_ACTIVATE awaits (port, SEQ of the reply, when; R515). -/
structure Ohp where
  running : Bool
  turn : Nat
  epoch : Nat
  roles : Tab Role
  alarms : List Nat
  nextAlarm : Nat
  alarmOverflow : Bool
  claimedFor : Tab Nat
  records : Bool
  recovery : Bool
  activate : Option (Nat × Nat × Nat)
  deriving DecidableEq, Repr

/-! ## Processors and timers -/

/-- An entry of a store buffer, R304: the address, the bytes, whether it belongs to a shadow. -/
structure StoreEntry where
  addr : Nat
  bytes : List Byte
  shadow : Bool
  deriving DecidableEq, Repr

/-- The long instructions, R274. -/
inductive LongKind where
  | div | divu | rem | remu | sqrt | movb
  | custom (slot imm : Nat)
  deriving DecidableEq, Repr

/-- What a core keeps from before a long instruction, R295 and R302. -/
structure SavedCore where
  pc : Nat
  ds : List (Option Word)
  rs : List Word
  dsp : Word
  rsp : Word
  flags : BitVec 4
  loops : List (Nat × Nat × Nat)
  deriving DecidableEq, Repr

/-- A long instruction in flight, R293 and R294: its inputs (topmost first), outputs reserved, shadow instructions, and
the state from which it issued. -/
structure LongOp where
  kind : LongKind
  ins : List Word
  outs : Nat
  shadow : Nat
  saved : SavedCore
  deriving DecidableEq, Repr

/-- What a takeover replaced in its cluster: its cycle, CLn_PAIR.MODE and CLn_PAIRSTAT, so that a failure of the partner in the
same cycle leaves none (R310). -/
structure Took where
  cycle : Nat
  mode : Nat
  stat : Word
  deriving DecidableEq, Repr

/-- A processor, R249 to R317. The stacks list their hardware entries topmost first; an entry that a long instruction has
reserved is none. A loop is its start, its end and its count, the innermost first. -/
structure Core where
  run : Bool
  halted : Bool
  failed : Bool
  fresh : Bool
  waiting : Bool
  enc : Bool
  pc : Nat
  ds : List (Option Word)
  rs : List Word
  flags : BitVec 4
  ph : Word
  pl : Word
  dsp : Word
  dsbase : Word
  dslim : Word
  rsp : Word
  rsbase : Word
  rslim : Word
  loops : List (Nat × Nat × Nat)
  masked : Nat
  products : List (Word × Word)
  long : Option LongOp
  stores : List StoreEntry
  ie : Bool
  det : Bool
  ien : Nat
  soft : Bool
  bell : Bool
  vbase : Word
  ecause : Word
  eaddr : Word
  eval : Word
  wdog : Nat
  wdogAt : Nat
  wdogOut : Bool := false
  thr : Nat
  acting : Option Nat
  took : Option Took := none
  desc : Tab (BitVec 64)
  micro : Tab (BitVec 64)
  deriving DecidableEq, Repr

/-- What lies beside the cores: the instruction caches of the watch cores by line, each with its tag and 16 bytes (R289), and
the cycles since reset of each processor, in tenths (R313). -/
structure Pipe where
  caches : Tab (Tab (Nat × List Byte))
  cycles : Tab Nat
  deriving DecidableEq, Repr

/-- A watch core's mailbox, R263. -/
structure Mbx where
  out : Tab Word
  inb : Tab Word
  send : Bool
  full : Bool
  ovr : Bool
  deriving DecidableEq, Repr

/-- A timer, R410 to R417, besides its registers: whether it runs, COUNT, the source ticks left in the interval, the
phase A and the capture queue. -/
structure Timer where
  running : Bool
  count : Nat
  left : Nat
  phase : Nat
  queue : List Word
  deriving DecidableEq, Repr

/-! ## Two-wire buses and clocked serial ports -/

/-- Who a bus transaction or frame serves: a tile's acquisition with its lanes, the manual register, or LOG's flusher (R397). -/
inductive BusUser where
  | tile (t : Nat) (lanes : BitVec 16)
  | manual
  | log
  deriving DecidableEq, Repr

/-- A transaction in progress on a two-wire bus, R364 to R367: its acquisition instant, whether it began late, its
epoch. -/
structure TwbJob where
  user : BusUser
  desc : Nat
  at_ : BitVec 80
  late : Bool
  epoch : Nat
  deriving DecidableEq, Repr

/-- A two-wire bus, besides its registers: the transaction in progress, when the bus is free again, whether a bus clear is to
come after a TIMEOUT (R374), whether it is stuck and since when it may be cleared, the target's index, the alert queue and when the next alert response may be made, the
manual transactions waiting, and the reply that waits for the last of them (R386). -/
structure Twb where
  job : Option TwbJob
  freeAt : Nat
  clearing : Bool
  stuck : Bool
  clearAt : Nat
  index : Nat
  alerts : List Nat
  alertAt : Nat
  manual : List Nat
  manReply : Option ModeWait
  setPending : Bool
  deriving DecidableEq, Repr

/-- A frame of a clocked serial port, R392 to R400: its user, descriptor, address, length and buffer, its acquisition
instant, and for a poll when its first frame began and when the next one is due. -/
structure CspJob where
  user : BusUser
  desc : Nat
  addr : Nat
  len : Nat
  buf : Nat
  at_ : BitVec 80
  late : Bool
  epoch : Nat
  since : Nat
  again : Option Nat
  deriving DecidableEq, Repr

/-- A manual frame that waits, R399: its descriptor, the address and length where CSPn_MAN overrides the descriptor's, and its
buffer. -/
structure CspMan where
  desc : Nat
  addr : Option Nat
  len : Option Nat
  buf : Nat
  deriving DecidableEq, Repr

/-- A clocked serial port, besides its registers: the frame in progress, when the next may start, the manual frame that
waits, and the frame suspended or the poll kept (R400). -/
structure Csp where
  job : Option CspJob
  freeAt : Nat
  manual : Option CspMan
  susp : Option CspJob
  setPending : Bool
  deriving DecidableEq, Repr

/-! ## Supplies -/

/-- The supplies, R453 to R469: since when VMAIN is being validated, whether it has been absent, since when the keep
capacitor serves, VCORE in mV, the step in progress (its point and beginning), whether the processor clocks may reach
400 MHz, the forced descent in progress (its beginning and the mode it left), when a safe end state may be left and the
starts made from safe end states, whether PWR stays in KEEP, the count of safe end
states last reported, and whether the always-on set has lost its state since the last start. -/
structure Sup where
  validating : Option Nat
  absent : Bool
  gap : Option Nat
  vcore : Nat
  step : Option (Nat × Nat)
  fast : Bool
  descent : Option (Nat × Nat)
  safeAt : Option Nat
  starts : List Nat
  stay : Bool
  reported : Nat
  lost : Bool
  deriving DecidableEq, Repr

/-! ## SEC -/

/-- The link profile, R474, with the radio latencies of R494 in FRAC units. -/
structure Profile where
  leadReq : Bool
  leadOk : Bool
  domain : Nat
  node : Nat
  csp : Nat
  pin : Nat
  beacon : Nat
  lostn : Nat
  window : Nat
  quota : Nat
  watched : Bool
  gateway : Bool
  repAlarm : Bool
  txLat : Nat
  rxLat : Nat
  deriving DecidableEq, Repr

/-- SEC: host keys and domain keys by slot, the link profile, the scrub in progress (block and beginning), when Topcoat
last scrubbed, how many blocks it has scrubbed since the journal's SCRUB, whether a pass runs at once (R520), the MRAM words
that hold a double-bit error, and whether a tamper still waits for the emptying of the domain keys. -/
structure Sec where
  hostKeys : Tab (List Byte)
  domKeys : Tab (List Byte)
  profile : Option Profile
  scrub : Option (Nat × Nat)
  scrubbedAt : Nat
  since : Nat
  passNow : Bool
  bad : List Nat
  tampered : Bool
  deriving DecidableEq, Repr

/-! ## Flotex -/

/-- A frame sent to a gang partner and not yet answered, R485: whose MESH_SEND, its frame, when it was sent, how often. -/
structure MbxOut where
  port : Nat
  seq : Nat
  pos : Nat
  frame : List Byte
  sentAt : Nat
  sends : Nat
  deriving DecidableEq, Repr

/-- Flotex, besides its registers: TRAIN frames in a row, CRC failures in a row, when RDY rose, when each link came up,
when something was last sent and a SYNC last seen and sent, the sequence number, the claims known, the link delays
measured, the frames unanswered, the frames sent by the latest step that sent any, when the latest LEAD frame was sent
since FLX_A came up, and when the latest RDY echo begins (R482). -/
structure Flx where
  trains : Nat
  crcRun : Nat
  aUpAt : Nat
  lastSent : Nat
  lastSync : Nat
  syncSent : Nat
  seq : Nat
  claim : Option (Nat × Nat)
  best : Option (Nat × Nat)
  delays : List Nat
  waiting : List MbxOut
  out : List (List Byte)
  leadAt : Option Nat
  echoAt : Option Nat
  deriving DecidableEq, Repr

/-! ## Scrim -/

/-- A neighbour, R491. -/
structure Neigh where
  node : Nat
  heard : Nat
  role : Nat
  epoch : Nat
  hops : Nat
  parent : Nat
  unc : BitVec 16
  watched : Bool
  gateway : Bool
  fc : Nat
  window : BitVec 32
  deriving DecidableEq, Repr

/-- A message of the send queue, R497. -/
structure MeshMsg where
  handle : Nat
  port : Nat
  msg : Nat
  dkind : Nat
  dest : Nat
  epoch : Nat
  ack : Bool
  data : List Byte
  sentAt : Nat
  sends : Nat
  deriving DecidableEq, Repr

/-- An entry of the coalescing table, R499: the report, when its window closes in local time, whether it is ready. -/
structure RepEntry where
  rep : MeshRep
  closeAt : Nat
  ready : Bool
  order : Nat
  deriving DecidableEq, Repr

/-- Scrim: whether it runs, the frame counter and the end of its reserved block, neighbours, parent and hops, when the
last BEACON, exchange and ROLE were sent, the roles known (holder and epoch), this node's role, messages seen, the
message counter and handle counter, the send queue, the handles of the latest 256 message numbers sent, the exchange in progress (t1 and t4), the coalescing table and the
subject last served, and the frames handed to the radio by the latest step that handed it any. -/
structure Mesh where
  running : Bool
  fc : Nat
  fcEnd : Nat
  neigh : List Neigh
  parent : Option Nat
  hops : Nat
  beaconAt : Nat
  exchAt : Nat
  roleAt : Nat
  roles : Tab (Nat × Nat)
  role : Option Nat
  seen : List (Nat × Nat)
  msgs : Nat
  handles : Nat
  queue : List MeshMsg
  sent : List (Nat × Nat)
  exch : Option (BitVec 80 × Option (BitVec 80))
  table : List RepEntry
  orders : Nat
  lastSubj : Nat
  radio : List ScrimFrame
  deriving DecidableEq, Repr

/-! ## Topcoat's copies -/

/-- Topcoat's copy in MRAM of the configuration of a domain that is off, R426 and R449: its register words, the bytes of a
program memory or of the window tables, and the decode tables of a watch core. -/
structure Copy where
  words : Tab Word
  cells : List Host.Cell
  desc : Tab (BitVec 64)
  micro : Tab (BitVec 64)
  deriving DecidableEq, Repr

/-! ## The whole state -/

/-- The state of Glanyx, with the queue of waiting commands. -/
structure State where
  pending : List Instr
  free : Nat
  el : Nat
  regs : Tab Word
  pset : Tab Word
  cset : Tab Word
  rdata : Tab Word
  snaps : Tab (List Word)
  mem : List Host.Cell
  merges : Tab Merge
  arrived : List Packet
  faultWait : List (Nat × FaultRec)
  faults : List FaultRec
  faultLost : Nat
  faultLostGts : Gts
  owner : Tab Nat
  dom : Tab DomState
  time : Time
  tiles : Tab Tile
  lanes : Tab Lane
  portQ : Tab (List (Nat × Sent))
  engines : Tab Engine
  slices : Tab Slice
  stp : Stp
  rings : Tab BatchRing
  handles : Tab Handle
  flusher : Flusher
  hwuCache : Tab (List (Nat × Word))
  sense : Sense
  events : List EvRec
  pwr : Pwr
  ports : Tab Port
  ohp : Ohp
  cores : Tab Core
  mbx : Tab Mbx
  timers : Tab Timer
  dither : Nat
  tbus : Nat
  twb : Tab Twb
  csp : Tab Csp
  islands : List Nat
  sup : Sup
  sec : Sec
  flx : Flx
  mesh : Mesh
  pipe : Pipe
  copies : Tab Copy
  deriving DecidableEq, Repr

/-! ## Reset -/

/-- A merge point before its first grant acts as if the highest index had been granted last, R21. -/
def Merge.reset : Merge := { wait := [], lastEvent := 42, lastData := 42, lastAt := 0 }

/-- Time right after the first power-on: the KEEP timekeeper carries time from 0 and the reference settles (R45, R57,
R66). -/
def Time.reset : Time :=
  { acc := 0, keep := 0, keepCarries := true, keepCorr := 0, refEn := true, pll := .settling 0, xkPhase := 0
    calibrated := [], handovers := [], stepped := [], rings := [], span := [], spanFrom := 0, fiLast := [], eioLevel := 0, ppsLevel := false
    state := .unset, u0sq := 0, t0 := 0, t0El := 0, rateSum := 0, slope := 0, past := [], residuals := [], selected := none, hostSel := false
    outliers := 0, good := 0, accepted := [], usrcSq := [], ppsLast := none, ppsSeen := none, slewLeft := 0
    rateCorr := 0, claims := [], subs := [], established := false, learnMin := 0
    commitPending := false }

/-- A gated ring without an edge and without a calibration, R55. -/
def Ring.reset : Ring := { edge := none, cal := none }

/-- The tracker's state reset, R121: b̂ 0 and J 2^-10 times the identity, in 2^-32 units. -/
def Tracker.reset : Tracker :=
  { b := [0, 0, 0], j := [0x400000, 0, 0, 0, 0x400000, 0, 0, 0, 0x400000], conf := 0, triad := [] }

/-- A tile after reset, R127, with every credit (R570). -/
def Tile.reset : Tile :=
  { running := false, pending := none, goEl := 0, sent := [], held := [], buffer := [], credits := 4
    returning := 0, fifo := [], fifoWord := 0, trk := Tracker.reset }

/-- A lane whose state is reset and that has made no record. -/
def Lane.reset : Lane :=
  { window := [], base := 0, integ := [], comb := [], phase := 0, bqa := none, bqb := none, run := none, fb := none
    clean := 0, warm := 0, ow := false, late := false, full := none, miss := false, last := none, seq := 0
    epoch := none, latest := none }

/-- An engine after reset, R144. -/
def Engine.reset : Engine :=
  { st := 0, c0 := 0, c1 := 0, deadline := none, remaining := none, hyst := false, window := [], heldB := none
    lastIn := 0, lastQ := 0, faulted := false, inq := [] }

/-- A slice after reset. -/
def Slice.reset : Slice :=
  { pending := none, commits := [], coal := [], buffer := [], unready := [], lost := 0, lostAt := ⟨⟨0, 0⟩, 0, none⟩, lostEflags := 0
    lostRule := 0, lastInput := 0 }

/-- A Stipple slot after reset. -/
def StpSlot.reset : StpSlot := { sparse := none, newest := [], sinceDense := 0, periodAt := 0 }

/-- Stipple after reset. -/
def Stp.reset : Stp :=
  { waiting := [], running := none, preempted := [], slots := [], pendingSlots := [], idleSince := 0 }

/-- A ring after reset, R188. -/
def BatchRing.reset : BatchRing :=
  { staged := [], segs := [], nextSseq := 0, nextPage := 0, markLost := false, markCut := false, release := 0
    pending := false }

/-- A free handle, R197. -/
def Handle.reset : Handle := { st := .free, ring := 0, first := 0, segs := 0 }

/-- The flusher after reset. -/
def Flusher.reset : Flusher :=
  { task := none, frames := [], fails := false, part := [], got := none, entries := [], retry := false, stopped := false, erased := none
    order := [], setPending := false }

/-- A wire as the sense die resets it, R227. -/
def Wire.reset : Wire := { st := 0, run := 0, tested := false }

/-- The estimator of a cell, reset, R243: the residual variance starts at its floor (log entry 6). -/
def Cell.reset : Cell := { vbar := none, c := 0, p := 0, s2 := 1, ocv := none, so2 := 0, osig2 := none }

/-- The sense block after reset: the link untrained; the excitation register starts at 1 (log entry 6). -/
def Sense.reset : Sense :=
  { wanted := false, trained := false, everTrained := false, down := false, downAt := 0, latAt := none, toDie := []
    toCore := [], cellWin := none, cellFree := 0, thermWin := none, thermFree := 0, wires := [], lastTested := 0
    ow := none, prev := [], latest := [], lfsr := 1, chip := false, cells := [], current := [], pendOw := false
    pendTh := false, pendEst := false, pendAt := 0 }

/-- PWR in SAMPLE, steady, R424. -/
def Pwr.reset : Pwr :=
  { entry := none, retryAt := none, waking := false, lastWake := 0, demands := [], queue := [], grants := []
    hwake := 0, modeWaits := [], held := [], setPending := false, hostAlarm := none }

/-- A host port after a power-on reset, R318 and R353: no session. -/
def Port.reset : Port :=
  { twoWire := false, session := none, hostId := [], subs := 0, assembly := none, taken := [], resync := false
    ackIn := 0, outWait := [], evq := [], evLost := 0, announced := [], rx := [] }

/-- A role never assigned, R344. -/
def Role.reset : Role := { cluster := none, epoch := 0 }

/-- Topcoat before its start: Undercoat runs (R38), the role epoch is 0 (R344), alarm IDs count from 1 (R355). -/
def Ohp.reset : Ohp :=
  { running := false, turn := 0, epoch := 0, roles := [], alarms := [], nextAlarm := 1, alarmOverflow := false
    claimedFor := [], records := false, recovery := false, activate := none }

/-- Core c after a core reset, R258 and R313: cores 0 to 15 are the watch cores by 2 × cluster + core, 16 the Keeper and
17 the Link processor, which run from a start and use the byte encoding. -/
def Core.reset (c : Nat) : Core :=
  let base : Word := if 16 ≤ c then 0 else if c % 2 = 0 then 0x10000 else 0x20000
  let off (n : Word) : Word := if 16 ≤ c then 0 else base - n
  { run := decide (16 ≤ c), halted := decide (c < 16), failed := false, fresh := true, waiting := false
    enc := decide (16 ≤ c), pc := if c = 16 then 0x30000000 else 0, ds := [], rs := [], flags := 0, ph := 0, pl := 0, dsp := base, dsbase := base
    dslim := off 0x800, rsp := off 0x800, rsbase := off 0x800, rslim := off 0x1000, loops := [], masked := 0
    products := [], long := none, stores := [], ie := false, det := false, ien := 0, soft := false, bell := false
    vbase := 0, ecause := 0, eaddr := 0, eval := 0, wdog := 0, wdogAt := 0, thr := 1, acting := none, desc := []
    micro := [] }

/-- An empty mailbox, R263. -/
def Mbx.reset : Mbx := { out := [], inb := [], send := false, full := false, ovr := false }

/-- A two-wire bus after reset, R381. -/
def Twb.reset : Twb :=
  { job := none, freeAt := 0, clearing := false, stuck := false, clearAt := 0, index := 0, alerts := [], alertAt := 0, manual := []
    manReply := none, setPending := false }

/-- A clocked serial port after reset, R405. -/
def Csp.reset : Csp := { job := none, freeAt := 0, manual := none, susp := none, setPending := false }

/-- The supplies at the first start: VMAIN validated, VCORE at the point of SAMPLE (log entry 12). -/
def Sup.reset : Sup :=
  { validating := none, absent := false, gap := none, vcore := 650, step := none, fast := false, descent := none
    safeAt := none, starts := [], stay := false, reported := 0, lost := false }

/-- SEC as manufactured: no host key, no domain key, no profile (R522, R523). -/
def Sec.reset : Sec :=
  { hostKeys := [], domKeys := [], profile := none, scrub := none, scrubbedAt := 0, since := 0, passNow := false, bad := []
    tampered := false }

/-- Flotex after a reset: both links down. -/
def Flx.reset : Flx :=
  { trains := 0, crcRun := 0, aUpAt := 0, lastSent := 0, lastSync := 0, syncSent := 0, seq := 0
    claim := none, best := none, delays := [], waiting := [], out := [], leadAt := none
    echoAt := none }

/-- Scrim before its start, R475: not joined. -/
def Mesh.reset : Mesh :=
  { running := false, fc := 0, fcEnd := 0, neigh := [], parent := none, hops := 0x1F, beaconAt := 0, exchAt := 0
    roleAt := 0, roles := [], role := none, seen := [], msgs := 0, handles := 0, queue := [], sent := [], exch := none
    table := []
    orders := 0, lastSubj := 0, radio := [] }

/-- A timer after reset, R422: stopped, nothing captured. -/
def Timer.reset : Timer := { running := false, count := 0, left := 1, phase := 0, queue := [] }

/-- What KEEP RAM holds of a cleared model after KEEP_LOST, R64: the header with MAGIC, FORMAT, ESTABLISHED 0 and U_0 without
bound, and the check word. -/
def clearedModel : List Host.Cell :=
  [(0x20003F90, 0x47), (0x20003F91, 0x46), (0x20003F92, 0x4C), (0x20003F93, 0x4D), (0x20003F94, 0x01),
   (0x20003F98, 0xFF), (0x20003F99, 0xFF), (0x20003FFC, 0x1D), (0x20003FFD, 0x45), (0x20003FFE, 0x4C), (0x20003FFF, 0x95)]

/-- Glanyx right after its first power-on start, with every supply good (log entry 12): SAMPLE, R38 and R424. KEEP_LOST
is set, and with it SEC_STATUS.TAMPUNK (R466, R525). -/
def State.reset : State :=
  { pending := [], free := 0, el := 0, regs := [(0x40005000, 0x10000000)], pset := [], cset := [], rdata := [], snaps := [], mem := clearedModel
    merges := [], arrived := [], faultWait := [], faults := [], faultLost := 0, faultLostGts := ⟨0, 0⟩
    owner := [], dom := [], time := Time.reset, tiles := [], lanes := [], portQ := [], engines := [], slices := []
    stp := Stp.reset, rings := [], handles := [], flusher := Flusher.reset, hwuCache := [], sense := Sense.reset
    events := [], pwr := Pwr.reset
    ports := [], ohp := Ohp.reset
    cores := [], mbx := [], timers := [], dither := 0, tbus := 0, twb := [], csp := [], islands := []
    sup := Sup.reset, sec := Sec.reset, flx := Flx.reset, mesh := Mesh.reset, pipe := { caches := [], cycles := [] }
    copies := [] }

end Sys2Proof.Machine
end

