-- ==== Sys2Proof/Machine/Ops.lean ====
section
/-! DEFINITION. The named operations over the state that the commands share: registers and their committed sets, memory,
timestamps, fault reports, resource holdings, domains, and the outbound rings of the host ports. -/

namespace Sys2Proof.Machine

/-- The outcome of a command. -/
abbrev Out := Host.Outcome State Fault Refusal

/-! ## Registers -/

/-- The identity word, R504: SILICON_REV 0x10 and the device's own bits (log entry 7). -/
def identityWord : BitVec 64 := (0x0010#16) ++ Config.identityLow

/-- What a register holds that nothing has written: the reset values of its fields (R5), with the instance-dependent
ones of R334, R504 and R526, and the supplies good at the first start (log entry 12). -/
def regDefault (a : Nat) : Word :=
  match fieldsAt a with
  | none => 0
  | some fs =>
    if 0x40002000 ≤ a ∧ a < 0x40003000 then
      let n := (a - 0x40002000) / 0x400
      let o := (a - 0x40002000) % 0x400
      if o = 0 then pack [(HP_ID.MAGIC, 0x4758), (HP_ID.REV, 0x10), (HP_ID.PORT, n)]
      else if o = 8 then fset (resetOf fs) HP_CFG.TWADDR (0x28 + n)
      else resetOf fs
    else if a = PWR_SUPPLY.addr then
      pack [(PWR_SUPPLY.KEEP_LOST, 1), (PWR_SUPPLY.MAINOK, 1), (PWR_SUPPLY.PACKOK, 1), (PWR_SUPPLY.VIOOK, 15)]
    else if a = ID_WORD0.addr then identityWord.extractLsb' 0 32
    else if a = ID_WORD1.addr then identityWord.extractLsb' 32 32
    else if SEC_DEVPUB.addr 0 ≤ a ∧ a < SEC_DEVPUB.addr 16 then Config.devicePublicKey ((a - SEC_DEVPUB.addr 0) / 4)
    else resetOf fs

/-- The stored (shadow) word of a register, R6. -/
def State.reg (s : State) (a : Nat) : Word := Tab.get (regDefault a) s.regs a
/-- The state with a register's stored word set. -/
def State.setReg (s : State) (a : Nat) (w : Word) : State := { s with regs := Tab.put s.regs a w }
/-- The value of a register's field. -/
def State.fld (s : State) (a : Nat) (f : Fld) : Nat := fget (s.reg a) f
/-- The state with a register's field set. -/
def State.setFld (s : State) (a : Nat) (f : Fld) (v : Nat) : State := s.setReg a (fset (s.reg a) f v)
/-- A count raised by n, saturating at the field's largest value. -/
def State.bump (s : State) (a : Nat) (f : Fld) (n : Nat) : State := s.setFld a f (min f.max (s.fld a f + n))
/-- The committed word of an SH register, R7. -/
def State.cword (s : State) (a : Nat) : Word := Tab.get (regDefault a) s.cset a
/-- The committed value of an SH field, R7. -/
def State.cfld (s : State) (a : Nat) (f : Fld) : Nat := fget (s.cword a) f
/-- The word of an SH register in the pending set. -/
def State.pword (s : State) (a : Nat) : Word := Tab.get (regDefault a) s.pset a
/-- The value of an SH field in the pending set. -/
def State.pfld (s : State) (a : Nat) (f : Fld) : Nat := fget (s.pword a) f
/-- The shadow words of lo ≤ a < hi copied into the pending set. -/
def State.toPending (s : State) (lo hi : Nat) : State := { s with pset := Tab.copyRange s.regs s.pset lo hi }
/-- The pending words of lo ≤ a < hi put into effect, R7. -/
def State.takeEffect (s : State) (lo hi : Nat) : State := { s with cset := Tab.copyRange s.pset s.cset lo hi }
/-- The shadow words of lo ≤ a < hi put into effect at once, R7. -/
def State.commitNow (s : State) (lo hi : Nat) : State := { s with cset := Tab.copyRange s.regs s.cset lo hi }

/-! ## Free values -/

/-- The state after one free value has been drawn (log entry 5). -/
def State.drawn (s : State) : State := { s with free := s.free + 1 }

/-- How many records the package event queue holds, R159: a free number, and at least one (log entry 5). -/
def eventQueueSize : Nat := Config.eventQueueSize + 1

/-! ## What a reader received -/

/-- The key of a processor's read result. -/
def sideKey : Side → Nat
  | .keeper => 0
  | .link => 1

/-- The state with the word that a reader's latest read returned (log entry 8). -/
def State.returns (s : State) (reader : Nat) (w : Word) : State := { s with rdata := Tab.put s.rdata reader w }

/-- The key of a snapshot: the reader and the first register it covers. -/
def snapKey (p : Side) (a : Nat) : Nat := sideKey p * 2 ^ 32 + a

/-- The state with a snapshot taken for a reader. -/
def State.snapshot (s : State) (p : Side) (a : Nat) (l : List Word) : State :=
  { s with snaps := Tab.put s.snaps (snapKey p a) l }

/-! ## Modes and domains -/

/-- The mode in effect, R424. -/
def State.mode (s : State) : Nat := s.fld PWR_STATUS.addr PWR_STATUS.MODE
/-- Whether the mode is KEEP, WATCH or SKIM, in which the 1 GHz counter is stopped. -/
def State.lowMode (s : State) : Bool := s.mode ≤ 3

/-- The state of a domain in SAMPLE right after a start, R38 and R425; domains carry their block identifiers of R435. -/
def domDefault (d : Nat) : DomState :=
  if d = 0x0000 ∨ d = 0x1000 ∨ (0x1100 ≤ d ∧ d < 0x1104) ∨ d = 0x1300 ∨ d = 0x1500 ∨ d = 0x1800 ∨ d = 0x1A00 ∨
      (0x163C ≤ d ∧ d < 0x1640) ∨ (0x2400 ≤ d ∧ d < 0x2403) then .on
  else .off

/-- The state of a domain. -/
def State.domState (s : State) (d : Nat) : DomState := Tab.get (domDefault d) s.dom d
/-- Whether a domain is powered and out of retention. -/
def State.isOn (s : State) (d : Nat) : Bool := s.domState d = .on
/-- Whether a block has accepted the entry under way, R437. -/
def State.yielded (s : State) (d : Nat) : Bool :=
  match s.pwr.entry with
  | some e => Tab.find e.blocks d == some .accepted
  | none => false
/-- Whether a block takes new work: it is powered, has not accepted an entry (R437), and no forced descent runs (R460). -/
def State.works (s : State) (d : Nat) : Bool := s.isOn d && !s.yielded d && s.sup.descent.isNone
/-- The state with a domain's state set. -/
def State.setDom (s : State) (d : Nat) (x : DomState) : State := { s with dom := Tab.put s.dom d x }

/-- The domain that holds an address of the package map, R425 and R435; none where the address lies in the always-on
set, in the ROM or nowhere. -/
def domainOf (a : Nat) : Option Nat :=
  if a < 0x800000 then some (0x1600 + a / 0x20000)
  else if 0x08000000 ≤ a ∧ a < 0x08100000 then some 0x1400
  else if 0x10000000 ≤ a ∧ a < 0x11000000 then some 0x1700
  else if a < 0x40000000 then none
  else if a < 0x40001000 then some 0
  else if a < 0x40002000 then some 0x1800
  else if a < 0x40003000 then some (0x1100 + (a - 0x40002000) / 0x400)
  else if a < 0x40004000 then some 0x1A00
  else if a < 0x40005000 then some 0
  else if a < 0x40006000 then some 0x1900
  else if a < 0x40007000 then some 0
  else if a < 0x40008000 then some 0x1500
  else if a < 0x40009000 then some 0x1200
  else if a < 0x4000A000 then some 0x1400
  else if a < 0x4000B000 then some 0x1300
  else if a < 0x4000C000 then some 0
  else if 0x41000000 ≤ a ∧ a < 0x41080000 then
    let n := (a - 0x41000000) / 0x10000
    let o := (a - 0x41000000) % 0x10000
    if o < 0x1000 then some (0x0100 + n)
    else if o < 0x5000 then some (0x0200 + 4 * n + (o / 0x1000 - 1))
    else some (0x0300 + n)
  else if 0x42000000 ≤ a ∧ a < 0x42008000 then some (0x2000 + (a - 0x42000000) / 0x1000)
  else if 0x42010000 ≤ a ∧ a < 0x42016000 then some (0x2100 + (a - 0x42010000) / 0x1000)
  else if 0x42020000 ≤ a ∧ a < 0x42020800 then some (0x2200 + (a - 0x42020000) / 0x40)
  else if 0x42030000 ≤ a ∧ a < 0x42030040 then some (0x2300 + (a - 0x42030000) / 4 % 8)
  else if 0x42030040 ≤ a ∧ a < 0x42031000 then some (0x2308 + (a - 0x42030040) / 4 % 4)
  else none

/-- The credits a domain's wake takes, R445. -/
def wakeCredits (d : Nat) : Nat :=
  match d / 256 with
  | 0x01 => 2 | 0x02 => 2 | 0x03 => 4 | 0x04 => 3
  | 0x17 => 4 | 0x10 => 6 | 0x12 => 4 | 0x14 => 12
  | _ => 1

/-- The class of a domain's wake, R445; watch is true for the slice of a WATCH or SKIM cluster. -/
def wakeClass (d : Nat) (watch : Bool) : Nat :=
  match d / 256 with
  | 0x01 => 3 | 0x02 => 3 | 0x03 => if watch then 0 else 3 | 0x04 => 4
  | 0x00 => 1 | 0x18 => 1
  | 0x16 => 3 | 0x15 => 3 | 0x20 => 3 | 0x21 => 3 | 0x22 => 3 | 0x23 => 3 | 0x24 => 3
  | 0x14 => 5
  | _ => 4

/-- The wake delay of a domain in ns, from Ret or from Off, R445. -/
def wakeDelay (d : Nat) (fromOff : Bool) : Nat :=
  match d / 256 with
  | 0x01 => if fromOff then 2400 else 1200
  | 0x02 => if fromOff then 1600 else 800
  | 0x03 => if fromOff then 6000 else 3600
  | 0x04 => if fromOff then 4000 else 2000
  | 0x16 => if fromOff then 1200 else 600
  | 0x17 => 5000
  | 0x10 => 10000
  | 0x12 => if fromOff then 12000 else 6000
  | 0x14 => if fromOff then 20000 else 8000
  | _ => if fromOff then 1000 else 500

/-- The rail of a domain, R445: 0 region N, 1 region S, 2 package. -/
def wakeRail (d : Nat) : Nat :=
  match d / 256 with
  | 0x01 => d % 256 / 4 | 0x03 => d % 256 / 4
  | 0x02 => d % 256 / 16 | 0x04 => d % 256 / 8
  | _ => 2

/-- A domain's request put to the admission controller, R445, unless it is on or already asked for. -/
def State.askWake (s : State) (d : Nat) : State :=
  if s.isOn d || s.pwr.queue.any (fun r => r.dom = d) || s.pwr.grants.any (fun g => g.dom = d) then s
  else { s with pwr := { s.pwr with queue := s.pwr.queue ++ [{ dom := d, at_ := s.el }] } }

/-- The domain of the edge island through which a tile, a slice or a watch core is reached, R25 and R445. -/
def edgeDomain (d : Nat) : Option Nat :=
  match d / 256 with
  | 0x02 => some (0x0100 + d % 256 / 4)
  | 0x03 => some (0x0100 + d % 256)
  | 0x04 => some (0x0100 + d % 256 / 2)
  | _ => none

/-- A wake of a domain asked for, R445, and before it that of the edge island that the access crosses, where that is not
powered (R24, log entry 16); in WATCH and SKIM a kept slice and a polled tile wake alone (R427, R428). -/
def State.requestWake (s : State) (d : Nat) : State :=
  match edgeDomain d with
  | some e => if s.isOn d || s.lowMode then s.askWake d else (s.askWake e).askWake d
  | none => s.askWake d

/-- Whether an I/O bank is good, R456: 0 to 3 for VIOA to VIOD. -/
def State.vioOk (s : State) (b : Nat) : Bool := (s.fld PWR_SUPPLY.addr PWR_SUPPLY.VIOOK).testBit b
/-- The capture-path term of a bus transaction squared in ps^2, R60: one bus clock period / √3. -/
def busPath (period : Nat) : Nat := ceilDiv (period * 1000 * (period * 1000)) 3

/-! ## Time -/

/-- SEC:FRAC of an accumulator, R44. -/
def top80 (b : BitVec 104) : BitVec 80 := b.extractLsb' 24 80

/-- The clock that carries time, R41: the KEEP timekeeper while it does, else the accumulator. -/
def State.clock (s : State) : BitVec 104 := if s.time.keepCarries then s.time.keep else s.time.acc

/-- The local time, R41. -/
def State.now (s : State) : BitVec 80 := top80 s.clock

/-- TB_STATUS.EPOCH, R48. -/
def State.epoch (s : State) : Nat := s.fld TB_STATUS.addr TB_STATUS.EPOCH

/-- U_clk squared in ps^2, R61, e on the model's clock: U_0^2 + (Σ σ_b t_b)^2 + (½ σ_A (t − t_0)^2)^2, each term rounded up
to 1 ps (log entry 13). -/
def State.growU (s : State) (e u0sq t0El rateSum : Nat) : Nat :=
  let rate := ceilDiv rateSum 1000000000
  let dt := e - t0El
  let age := ceilDiv (s.cfld TB_REFCFG.addr TB_REFCFG.AGE * dt * dt) (2 * 86400 * 10 ^ 17)
  u0sq + rate * rate + age * age

/-- U_clk squared now. -/
def State.uclkSq (s : State) : Nat := s.growU s.el s.time.u0sq s.time.t0El s.time.rateSum

/-- U_clk squared at the instant e on the model's clock, R59 and R61, between the points at which what it grows from changed:
next is the point after those listed, from the newest to the oldest. -/
def State.uclkBack (s : State) (e : Nat) (next : UPoint) : List UPoint → Nat
  | [] => s.growU e next.u0sq next.t0El (next.rateSum - s.time.slope * (next.el - e))
  | p :: r =>
    if p.el ≤ e then
      s.growU e p.u0sq p.t0El
        (if p.t0El = next.t0El then p.rateSum + (next.rateSum - p.rateSum) * (e - p.el) / (next.el - p.el) else p.rateSum)
    else s.uclkBack e p r

/-- U_clk squared at an instant e on the model's clock, R59. -/
def State.uclkAt (s : State) (e : Nat) : Nat :=
  let t := s.time
  if s.el ≤ e then s.growU e t.u0sq t.t0El (t.rateSum + t.slope * (e - s.el))
  else s.uclkBack e ⟨s.el, t.u0sq, t.t0El, t.rateSum⟩ t.past

/-- The point from which U_clk grows now. -/
def State.uPoint (s : State) (t : Time) : UPoint := ⟨s.el, t.u0sq, t.t0El, t.rateSum⟩

/-- The timebase replaced by one in which what U_clk grows from has changed: the latest 64 points are kept (log entry 13). -/
def State.markU (s : State) (t : Time) : State :=
  { s with time := { t with past := (s.uPoint t :: s.uPoint s.time :: s.time.past).take 64 } }

/-- The instant of a local time on the model's clock. -/
def State.elOf (s : State) (t : BitVec 80) : Nat :=
  let base := if s.time.keepCarries then s.el - s.time.xkPhase / 32768 else s.el
  let d := (t - s.now).toInt
  if 0 ≤ d then base + fracToNs d.toNat else base - fracToNs (-d).toNat

/-- The UNC of a timestamp at an instant of the model's clock with a capture-path term, R59; 0xFFFF while Float is UNSET, R43
and R66. -/
def State.uncAt (s : State) (e pathSq : Nat) : BitVec 16 :=
  if s.time.state = .unset then 0xFFFF else encodeUnc (s.uclkAt e + pathSq)

/-- The UNC of a timestamp for now. -/
def State.unc (s : State) (pathSq : Nat) : BitVec 16 := s.uncAt s.el pathSq

/-- The capture-path term of a coarse capture, a decision or a fault, R60, squared in ps^2. -/
def pathCoarse : Nat := 650 * 650
/-- The term of a fine-interpolator engine or the PPS_IN engine, R60. -/
def pathFine : Nat := 45 * 45
/-- The term of an analog conversion at a scheduled instant, R60. -/
def pathAnalog : Nat := 1160 * 1160
/-- The term of a sense-die acquisition, R60. -/
def pathSense : Nat := 23000 * 23000
/-- The term of an edge without a free ring, R60. -/
def pathNoRing : Nat := 8810000 * 8810000

/-- A GTS for an instant. -/
def State.stampAt (s : State) (t : BitVec 80) (pathSq : Nat) : Gts := ⟨t, s.uncAt (s.elOf t) pathSq⟩
/-- A GTS for now. -/
def State.stamp (s : State) (pathSq : Nat) : Gts := s.stampAt s.now pathSq

/-- The epoch in force at an instant of the model's clock, R155. -/
def State.epochAt (s : State) (e : Nat) : Nat := (s.epoch + 256 - s.time.stepped.countP (fun x => decide (e < x.1)) % 256) % 256

/-- A GTS as an input or a packet carries it. -/
def State.carrying (s : State) (g : Gts) : Stamp := ⟨g, s.epochAt (s.elOf g.t), none⟩

/-- Whether the KEEP timekeeper carried time at a local time of an epoch, R156: the handovers after it tell. -/
def State.carriedIn (s : State) (t : BitVec 80) (epoch : Nat) : Bool :=
  let age (e : Nat) : Nat := (s.epoch + 256 - e % 256) % 256
  let after := s.time.handovers.countP (fun h =>
    decide (age h.1 < age epoch) || (decide (age h.1 = age epoch) && decide (t < h.2)))
  if after % 2 = 0 then s.time.keepCarries else !s.time.keepCarries

/-- The timebase with time carried by the KEEP timekeeper or by the accumulator from now on: the latest 64 handovers are
kept. -/
def State.handsOver (s : State) (keep : Bool) : Time :=
  { s.time with keepCarries := keep, handovers := ((s.epoch, s.now) :: s.time.handovers).take 64 }

/-- An instant moved by a span in ns. -/
def addNs (t : BitVec 80) (ns : Nat) : BitVec 80 := t + BitVec.ofNat 80 (nsToFrac ns)

/-! ## Faults -/

/-- The key of an island: its level and its unit as a fault record encodes it, R535 and R539. -/
def islandKey (level unit : Nat) : Nat := level * 2 ^ 32 + unit
/-- Whether an island's clock runs, R539. -/
def State.islandUp (s : State) (level unit : Nat) : Bool := !s.islands.contains (islandKey level unit)

/-! ## Resource holdings -/

/-- The key of a unit: its class and instance, R528. -/
def unitKey (cls inst : Nat) : Nat := cls * 65536 + inst
/-- How many instances a class has, R528; 0 for a class not listed. -/
def classSize (cls : Nat) : Nat :=
  match cls with
  | 1 => 8 | 2 => 32 | 3 => 32 | 4 => 48 | 5 => 32 | 6 => 16 | 7 => 40 | 8 => 256 | 9 => 8 | 10 => 1 | 11 => 1
  | _ => 0
/-- The owner recorded for a unit, 0 where it is free, R529. -/
def State.ownerOf (s : State) (cls inst : Nat) : Nat := Tab.get 0 s.owner (unitKey cls inst)
/-- The state with a unit's owner set. -/
def State.setOwner (s : State) (cls inst o : Nat) : State := { s with owner := Tab.put s.owner (unitKey cls inst) o }

/-- Whether an owner is one that Topcoat claims for, R567. -/
def keeperSide (o : Nat) : Bool :=
  (0x0100 ≤ o && o < 0x0104) || o == 0x0400 || o == 0x1000 || o == 0x1100 || (0x1200 ≤ o && o < 0x1220) || o == 0x1300

/-- Whether a unit is held by a processor's side, R567. -/
def State.sideHolds (s : State) (p : Side) (cls inst : Nat) : Bool :=
  match p with
  | .keeper => keeperSide (s.ownerOf cls inst)
  | .link => s.ownerOf cls inst == 0x0300

/-! ## Parts by number -/

/-- Tile t. -/
def State.tile (s : State) (t : Nat) : Tile := Tab.get Tile.reset s.tiles t
/-- The state with tile t replaced. -/
def State.setTile (s : State) (t : Nat) (x : Tile) : State := { s with tiles := Tab.put s.tiles t x }
/-- Lane l of tile t. -/
def State.lane (s : State) (t l : Nat) : Lane := Tab.get Lane.reset s.lanes (16 * t + l)
/-- The state with lane l of tile t replaced. -/
def State.setLane (s : State) (t l : Nat) (x : Lane) : State := { s with lanes := Tab.put s.lanes (16 * t + l) x }
/-- The engine with rule ID e. -/
def State.engine (s : State) (e : Nat) : Engine := Tab.get Engine.reset s.engines e
/-- The state with engine e replaced. -/
def State.setEngine (s : State) (e : Nat) (x : Engine) : State := { s with engines := Tab.put s.engines e x }
/-- Slice n. -/
def State.slice (s : State) (n : Nat) : Slice := Tab.get Slice.reset s.slices n
/-- The state with slice n replaced. -/
def State.setSlice (s : State) (n : Nat) (x : Slice) : State := { s with slices := Tab.put s.slices n x }
/-- Batch ring r. -/
def State.ring (s : State) (r : Nat) : BatchRing := Tab.get BatchRing.reset s.rings r
/-- The state with ring r replaced. -/
def State.setRing (s : State) (r : Nat) (x : BatchRing) : State := { s with rings := Tab.put s.rings r x }
/-- Batch handle h. -/
def State.handle (s : State) (h : Nat) : Handle := Tab.get Handle.reset s.handles h
/-- The state with handle h replaced. -/
def State.setHandle (s : State) (h : Nat) (x : Handle) : State := { s with handles := Tab.put s.handles h x }
/-- Host port n. -/
def State.port (s : State) (n : Nat) : Port := Tab.get Port.reset s.ports n
/-- The state with host port n replaced. -/
def State.setPort (s : State) (n : Nat) (x : Port) : State := { s with ports := Tab.put s.ports n x }
/-- A merge point by its key: 0 to 7 the cluster edges, 8 + d the hub's output towards block d, 51 to 58 the slices. -/
def State.merge (s : State) (k : Nat) : Merge := Tab.get Merge.reset s.merges k
/-- The state with a merge point replaced. -/
def State.setMerge (s : State) (k : Nat) (x : Merge) : State := { s with merges := Tab.put s.merges k x }

/-! ## Processor clocks, R313 and R458 -/

/-- The tenths of a processor cycle in a nanosecond: 400 MHz at 0.85 V, 100 MHz at 0.65 V and 0.70 V, none below; each clock
runs at the highest rate that its point allows (log entry 22). -/
def State.coreRate (s : State) : Nat := if s.lowMode ∨ s.mode = 1 then 0 else if s.sup.fast then 4 else 1

/-- The cycle of the processor clocks at this instant. -/
def State.coreCycle (s : State) : Nat := if s.sup.fast then s.el * 2 / 5 else s.el / 10

/-- A nanosecond of the processor clocks: each processor that is powered counts its cycles, R313. -/
def State.coreTicks (s : State) : State :=
  if s.coreRate = 0 then s
  else
    let t := (List.range 18).foldl (fun t c =>
      if s.isOn (if c < 16 then 0x0400 + c else if c = 16 then 0x1000 else 0x1200) then
        Tab.put t c (Tab.get 0 t c + s.coreRate) else t) s.pipe.cycles
    { s with pipe := { s.pipe with cycles := t } }

/-! ## The fabric -/

/-- The cycle of a slice's clock, numbered in half nanoseconds: 400 MHz, in WATCH and SKIM 100 MHz (R160, R163). -/
def State.sliceCycle (s : State) (el : Nat) : Nat := if s.lowMode then el / 10 * 20 else el * 2 / 5 * 5
/-- The length of that cycle. -/
def State.cycleLen (s : State) : Nat := if s.lowMode then 20 else 5

/-- The flits of a packet, R20: a record's 24 bytes fill two; an event packet is one. -/
def Packet.flits : Packet → Nat
  | .laneRecord .. => 2
  | .event .. => 2
  | _ => 1

/-- What is offered joins those that wait, behind what its source offered before; of one cycle of a slice the packets stand in
ascending order of their engines (R149). -/
def insertWaiting (w : Waiting) : List Waiting → List Waiting
  | [] => [w]
  | a :: r =>
    if a.src = w.src ∧ a.ch = w.ch ∧ a.cycle = w.cycle ∧ w.order < a.order then w :: a :: r else a :: insertWaiting w r

/-- A packet offered at a merge point. -/
def State.sendTo (s : State) (key src dst : Nat) (ch : Channel) (p : Packet) (order : Nat := 0) : State :=
  let m := s.merge key
  let w : Waiting := { ch, src, dst, pkt := p, flits := p.flits, since := s.el, cycle := s.sliceCycle s.el, order }
  s.setMerge key { m with wait := insertWaiting w m.wait }

/-- A packet offered at the edge of a cluster by a source of R566, bound for a block of R565. -/
def State.sendEdge (s : State) (cluster src dst : Nat) (ch : Channel) (p : Packet) (order : Nat := 0) : State :=
  s.sendTo cluster src dst ch p order

/-- A packet offered at the hub by a source of R565. -/
def State.sendHub (s : State) (src dst : Nat) (ch : Channel) (p : Packet) : State := s.sendTo (8 + dst) src dst ch p

/-- The source at the hub of a block, by its block identifier of R435, R565. -/
def blockSource (d : Nat) : Nat :=
  match d / 256 with
  | 0x10 => 41 | 0x11 => 15 | 0x12 => 21 | 0x13 => 22 | 0x14 => 9 | 0x15 => 20 | 0x16 => 8 | 0x17 => 10 | 0x18 => 14
  | 0x19 => 18 | 0x1A => 16 | 0x20 => 24 + d % 256 | 0x21 => 32 + d % 256 | 0x22 => 38 | 0x23 => 39 | 0x24 => 40
  | _ => 13

/-- The block of a source at the hub: a cluster's edge, else the block identifier of R435. -/
def sourceBlock (src : Nat) : Nat :=
  match src with
  | 8 => 0x1600 | 9 => 0x1400 | 10 => 0x1700 | 14 => 0x1800 | 15 => 0x1100 | 16 => 0x1A00 | 18 => 0x1900 | 20 => 0x1500
  | 21 => 0x1200 | 22 => 0x1300 | 38 => 0x2200 | 39 => 0x2300 | 40 => 0x2400 | 41 => 0x1000 | 42 => 0x1200
  | _ => if 24 ≤ src ∧ src < 32 then 0x2000 + (src - 24) else if 32 ≤ src ∧ src < 38 then 0x2100 + (src - 32) else 0

/-! ## Faults, R535 -/

/-- A fault report offered on the event channel, bound for FAULT (R20, R565): of a lane by its slice, of an island of a cluster
by its source of R566, of a package-level block by the block; a batch action that names no armed handle by LOG, an overrun
DELAY by PWR, what the gang and the domain report by FLX and the Link processor. -/
def State.raise (s : State) (r : FaultRec) : State :=
  if r.cause = 0x0032 then s.sendHub 22 23 .event (.fault r)
  else if r.cause = 0x0025 then s.sendHub 13 23 .event (.fault r)
  else match r.level with
  | 0 => s.sendEdge (r.unit / 64) 7 23 .event (.fault r)
  | 2 => s.sendEdge (r.unit / 65536) (if r.unit / 256 % 256 = 1 then 5 + r.unit % 2 else 7) 23 .event (.fault r)
  | 4 => s.sendHub (blockSource r.unit) 23 .event (.fault r)
  | 5 => s.sendHub 21 23 .event (.fault r)
  | _ => s.sendHub 42 23 .event (.fault r)

/-- A fault of this instant reported. -/
def State.raiseFault (s : State) (level cause unit detail : Nat) : State :=
  s.raise { level, cause, unit, gts := s.stamp pathCoarse, detail }

/-- A report that is at FAULT: it came over the fabric, or FAULT's own monitors made it (R26, R539). -/
def State.atFault (s : State) (r : FaultRec) : State := { s with faultWait := s.faultWait ++ [(s.el, r)] }

/-! ## Memory -/

/-- The state with bytes written to memory. -/
def State.store (s : State) (a : Nat) (b : List Byte) : State := { s with mem := memWriteBytes s.mem a b }
/-- Bytes of memory. -/
def State.load (s : State) (a n : Nat) : List Byte := memReadBytes s.mem a n

/-- Two-wire bus n. -/
def State.bus (s : State) (n : Nat) : Twb := Tab.get Twb.reset s.twb n
/-- The state with two-wire bus n replaced. -/
def State.setBus (s : State) (n : Nat) (x : Twb) : State := { s with twb := Tab.put s.twb n x }
/-- Clocked serial port n. -/
def State.csport (s : State) (n : Nat) : Csp := Tab.get Csp.reset s.csp n
/-- The state with clocked serial port n replaced. -/
def State.setCsport (s : State) (n : Nat) (x : Csp) : State := { s with csp := Tab.put s.csp n x }

/-! ## Publishing to a host port -/

/-- The base of port n's inbound ring, R568. -/
def inRing (n : Nat) : Nat := 0x007B1000 + 0x2000 * n
/-- The base of port n's outbound ring, R568. -/
def outRing (n : Nat) : Nat := 0x007B2000 + 0x2000 * n

/-- (a − b) mod 65,536, R330. -/
def seqDiff (a b : Nat) : Nat := (a + 65536 - b % 65536) % 65536
/-- The later of two sequence numbers, R330. -/
def seqLater (a b : Nat) : Nat := if seqDiff a b ≤ 32767 then a else b

/-- A_out of R332: the later of HPn_OUTACK and the newest ACKSEQ taken. -/
def State.aOut (s : State) (n : Nat) : Nat := seqLater (s.fld (HP_OUTACK.addr n) HP_OUTACK.SEQ) (s.port n).ackIn

/-- The bytes of a slot, R329: its header and its payload, 0 beyond it. -/
def slotBytes (seq ack op status len chan : Nat) (part : List Byte) : List Byte :=
  leBytes 2 seq ++ leBytes 2 ack ++ leBytes 1 op ++ leBytes 1 status ++ leBytes 1 len ++ leBytes 1 chan ++ part ++
    List.replicate (56 - part.length) 0

/-- The outbound message that goes next, with the others: one already begun, else the first reply, else the first
unsolicited message. -/
def nextOut (l : List OutMsg) : Option (OutMsg × List OutMsg) :=
  let pick (p : OutMsg → Bool) : Option (OutMsg × List OutMsg) :=
    match l.findIdx? p with
    | some i => (l[i]?).map (fun m => (m, l.eraseIdx i))
    | none => none
  match pick (fun m => decide (m.frag ≠ 0)) with
  | some r => some r
  | none =>
    match pick (fun m => m.reply) with
    | some r => some r
    | none => pick (fun _ => true)

/-- Whether the outbound ring of port n has room for a slot: 64 unacknowledged for replies, 56 for others, R332. -/
def State.room (s : State) (n : Nat) (reply : Bool) : Bool :=
  seqDiff (s.fld (HP_OUTPROD.addr n) HP_OUTPROD.SEQ + 1) (s.aOut n) ≤ (if reply then 64 else 56)

/-- Waiting messages of port n written slot by slot into its outbound ring as it has room, HPn_OUTPROD following each slot,
R332 and R333. -/
def State.flushSlots (s : State) (n : Nat) : Nat → State
  | 0 => s
  | fuel + 1 =>
    match nextOut (s.port n).outWait with
    | none => s
    | some (m, others) =>
      if !s.room n m.reply then s
      else
        let t := (s.fld (HP_OUTPROD.addr n) HP_OUTPROD.SEQ + 1) % 65536
        let part := m.payload.take 56
        let rest := m.payload.drop 56
        let b := slotBytes t (s.fld (HP_INACK.addr n) HP_INACK.SEQ) m.op m.status part.length
          ((if rest.isEmpty then 0 else 0x80) + m.frag % 128) part
        let s := (s.store (outRing n + 64 * (t % 64)) b).setFld (HP_OUTPROD.addr n) HP_OUTPROD.SEQ t
        let left := if rest.isEmpty then others else { m with payload := rest, frag := m.frag + 1 } :: others
        (s.setPort n { s.port n with outWait := left }).flushSlots n fuel

/-- What waits for port n's outbound ring written as far as there is room. -/
def State.flushOut (s : State) (n : Nat) : State :=
  s.flushSlots n ((s.port n).outWait.foldl (fun k m => k + m.payload.length / 56 + 1) 0)

/-- A message published on port n: it goes at once, or when the outbound ring has room. -/
def State.publish (s : State) (n : Nat) (m : OutMsg) : State :=
  (s.setPort n { s.port n with outWait := (s.port n).outWait ++ [m] }).flushOut n

/-- The reply to a message, R340: OPCODE with bit 7, STATUS, REQSEQ and the fields that follow it. -/
def State.reply (s : State) (n : Nat) (m : Msg) (status : Nat) (fields : List Byte) : State :=
  s.publish n { op := m.op + 0x80, status, reply := true, payload := leBytes 2 m.seq ++ fields }

end Sys2Proof.Machine
end

