-- ==== Sys2Proof/Machine/Saved.lean ====
section
/-! DEFINITION. The list that a cluster saves to KEEP RAM before it goes off, R448. -/

namespace Sys2Proof.Machine

/-- Where cluster n's list lies, R448. -/
def savedAt (n : Nat) : Nat := 0x20000000 + 0x200 * n

/-- SIG of an engine, R448: the CRC-16 over its committed configuration and transition words. -/
def State.engineSig (s : State) (e : Nat) : Nat :=
  crc16 (((List.range 9).flatMap (fun k => leBytes 4 (s.cword (engBase e + 4 * k)).toNat)) ++
    ((List.range 32).flatMap (fun k => leBytes 4 (s.cword (RS_TRANS.addr e k)).toNat)))

/-- The ns that remain on an engine's timer; none where it does not run. -/
def State.engineLeft (s : State) (e : Nat) : Option Nat :=
  match (s.engine e).deadline with
  | some d => some (d - s.el)
  | none => (s.engine e).remaining

/-- The three words of an engine. -/
def State.engineSave (s : State) (e : Nat) : List Nat :=
  let x := s.engine e
  let left := s.engineLeft e
  [s.engineSig e * 65536 + x.st * 8192 + b2n x.hyst * 4096 + b2n left.isSome * 2048 + x.lastIn * 512,
   x.c1 * 65536 + x.c0, min 0xFFFFFFFF (left.getD 0 / 1000)]

/-- The twelve words of core c. -/
def State.coreSave (s : State) (c : Nat) : List Nat :=
  let x := Tab.get (Core.reset c) s.cores c
  let n := c / 2
  [2 * b2n x.det + b2n x.ie, x.ien, x.vbase.toNat, x.wdog, x.thr, x.dsbase.toNat, x.dslim.toNat, x.rsbase.toNat,
   x.rslim.toNat, 2 ^ 31 * b2n x.run, 16 * b2n x.soft + 8 * b2n x.bell,
   if c % 2 = 1 then 0 else s.fld (CL_ISACFG.addr n) CL_ISACFG.ENC0 + 2 * s.fld (CL_ISACFG.addr n) CL_ISACFG.ENC1 +
     256 * s.fld (CL_PAIR.addr n) CL_PAIR.MODE]

/-- The bytes of cluster n's list before its CRC. -/
def State.saveBody (s : State) (n : Nat) : List Byte :=
  leBytes 4 (2 ^ 31 + s.epoch % 256) ++ gtsBytes (s.stamp pathCoarse) ++
    (s.coreSave (2 * n) ++ s.coreSave (2 * n + 1) ++ (List.range 32).flatMap (fun k => s.engineSave (32 * n + k))).flatMap
      (leBytes 4)

/-- Cluster n's list written to KEEP RAM, R448. -/
def State.saveCluster (s : State) (n : Nat) : State :=
  let b := s.saveBody n
  s.store (savedAt n) (b ++ leBytes 4 (crc32 b) ++ List.replicate 12 0)

end Sys2Proof.Machine
end

