-- ==== Sys2Proof/Machine/Float.lean ====
section
/-! DEFINITION. Float's model of the oscillators: the bins of R62 to R64, their rates, and the header. -/

namespace Sys2Proof.Machine

/-- The state with its timebase replaced. -/
def State.setTime (s : State) (t : Time) : State := { s with time := t }

/-! ## The bin model, R62 to R64 -/

/-- The address of bin i of the model, R64: reference bins 0 to 165, crystal bins from 166. -/
def binAddr (i : Nat) : Nat := 0x20003000 + 12 * i
/-- The count of a bin. -/
def State.binCount (s : State) (i : Nat) : Nat := ofLe (s.load (binAddr i) 2)
/-- The mean of a bin, in 2^-40. -/
def State.binMean (s : State) (i : Nat) : Int := signed 32 (ofLe (s.load (binAddr i + 2) 4))
/-- The variance of a bin, in 2^-72. -/
def State.binVar (s : State) (i : Nat) : Nat := ofLe (s.load (binAddr i + 6) 4)
/-- The day of a bin's last entry. -/
def State.binDay (s : State) (i : Nat) : Nat := ofLe (s.load (binAddr i + 10) 2)

/-- Days since 2000-01-01 TAI. -/
def State.today (s : State) : Nat := s.now.toNat / 2 ^ 40 / 86400

/-- σ_b of a bin by the first row of R62, in 10^-12, rounded up; none with fewer than 16 entries. -/
def State.binSigma (s : State) (xk : Bool) (i : Nat) : Option Nat :=
  let n := s.binCount i
  if n < 16 then none
  else
    let floor := if xk then 20000 else if s.cfld TB_REFCFG.addr TB_REFCFG.KIND = 1 then 50 else 500
    some (max floor (ceilSqrt (ceilDiv (s.binVar i * 10 ^ 24) (n * 2 ^ 72))) + 20 * (s.today - s.binDay i))

/-- σ_b for a temperature in 1/16 K and the bin whose mean applies, R62; none for a reading that does not exist. A
temperature half-way between two bin centres belongs to the warmer bin (DESIGN CHOICE, log entry 86). -/
def State.sigma (s : State) (xk : Bool) (temp : Option Int) : Nat × Option Nat :=
  let third : Nat := if xk then 150000000 else s.cfld TB_REFCFG.addr TB_REFCFG.SPEC * 1000
  match temp with
  | none => (third, none)
  | some t16 =>
    let k : Int := (t16 + 8) / 16 + 40
    if k < 0 ∨ 165 < k then (third, none)
    else
      let base := if xk then 166 else 0
      match s.binSigma xk (base + k.toNat) with
      | some g => (g, some (base + k.toNat))
      | none =>
        let best := [-1, 1, -2, 2, -3, 3].foldl (fun (b : Option (Nat × Nat)) (d : Int) =>
          if k + d < 0 ∨ 165 < k + d then b
          else match s.binSigma xk (base + (k + d).toNat) with
            | none => b
            | some g =>
              let g := g + d.natAbs * (if xk then 50000 else 1000)
              match b with
              | none => some (g, base + (k + d).toNat)
              | some (g0, i0) => if g < g0 then some (g, base + (k + d).toNat) else some (g0, i0)) none
        match best with
        | some (g, i) => (g, some i)
        | none => (third, none)

/-- The latest crystal temperature reading, R58. -/
def State.crystalTemp (s : State) : Option Int :=
  if s.fld TB_TEMP.addr TB_TEMP.VALID = 1 then some (signed 16 (s.fld TB_TEMP.addr TB_TEMP.TEMP)) else none

/-- The rate that R62 gives in holdover, in 2^-40: the mean of the bin chosen, or zero. -/
def State.modelRate (s : State) (xk : Bool) : Int :=
  match (s.sigma xk s.crystalTemp).2 with
  | some i => s.binMean i
  | none => 0

/-- The rate correction of the reference in holdover, in 2^-32, R62: against the model's offset. -/
def State.holdRate (s : State) : Int := -(s.modelRate false) / 256

/-- Float holds over, R66: it runs on the model's rate for the reference. -/
def State.enterHoldover (s : State) : State :=
  s.setTime { s.time with state := .holdover, rateCorr := s.holdRate }

/-- The bins from a first index that hold 16 or more entries, R84. -/
def State.learnedBins (s : State) (base : Nat) : Nat := (List.range 166).countP (fun i => 16 ≤ s.binCount (base + i))

/-- The header and the check word rewritten, R64. -/
def State.saveModel (s : State) : State :=
  let u0 : BitVec 16 := if s.time.state = .unset then 0xFFFF else encodeUnc s.time.u0sq
  let s := s.store 0x20003F90 ([0x47, 0x46, 0x4C, 0x4D, 0x01, BitVec.ofNat 8 (b2n s.time.established)] ++
    leBytes 2 (min 0xFFFF (s.time.learnMin / 60)) ++ gtsBytes ⟨s.time.t0, u0⟩ ++ List.replicate 0x58 0)
  s.store 0x20003FFC (leBytes 4 (crc32 (s.load 0x20003000 0xFFC)))

/-- The uncertainty grown by the 1 ns of a handover, R54, R57 and R60; the header of the model follows (R64, R65). -/
def State.addHandover (s : State) : State := (s.markU { s.time with u0sq := s.time.u0sq + 1000 * 1000 }).saveModel

/-- An entry added to a bin, R63; the mean and the variance are kept in the units of R64, rounded down. -/
def State.addEntry (s : State) (i : Nat) (x : Int) : State :=
  let n := s.binCount i
  let w : Int := if n < 1440 then n + 1 else 1440
  let dx := x - s.binMean i
  let mean := s.binMean i + dx / w
  let var : Int := ((w - 1) * ((s.binVar i : Int) * w + dx * dx / 256)) / (w * w)
  s.store (binAddr i) (leBytes 2 (min 1440 (n + 1)) ++ leBytes 4 (wrap 32 (satI 32 mean)) ++
    leBytes 4 (min 0xFFFFFFFF var.toNat) ++ leBytes 2 (s.today % 65536))

end Sys2Proof.Machine
end

