-- ==== Sys2Proof/Machine/PowerOps.lean ====
section
/-! DEFINITION. The operations of PWR that other blocks call: the target mode, starting an entry or a wake, the wake
latch, and replies to MODE_SET. -/

namespace Sys2Proof.Machine

/-- A domain's state once the given mode has been entered, by the table of R425. A Dem domain keeps what it has in
SAMPLE and above, and is retained in WATCH and SKIM (log entry 14). -/
def State.stateIn (s : State) (m d : Nat) : DomState :=
  let cfg (f : Fld) (b : Nat) : DomState := if s.cfld PWR_RET.addr f / 2 ^ b % 2 = 1 then .ret else .off
  let skimTiles := (List.range 4).filterMap (fun k =>
    if s.cfld PWR_SKIM.addr (PWR_SKIM.EN k) = 1 then some (s.cfld PWR_SKIM.addr (PWR_SKIM.TILE k)) else none)
  let cluster (n : Nat) : DomState :=
    if m = 2 ∧ n = s.cfld PWR_WATCH.addr PWR_WATCH.CLUSTER then .ret
    else if m = 3 ∧ skimTiles.any (fun t => t / 4 = n) then .ret
    else cfg PWR_RET.CLRET n
  let now := s.domState d
  if m = 1 then .off
  else if m ≤ 3 then
    if now = .off then .off else
    match d / 256 with
    | 0x18 => .off
    | 0x17 => .off
    | 0x19 => .off
    | 0x24 => .on
    | 0x12 => cfg PWR_RET.LINK 0
    | 0x14 => cfg PWR_RET.STP 0
    | 0x15 =>
      if m = 3 ∧ skimTiles.any (fun t => 29 ≤ s.cfld (TILE_CFG.addr t) TILE_CFG.PORT ∧
          s.cfld (TILE_CFG.addr t) TILE_CFG.PORT ≤ 31) then .ret
      else cfg PWR_RET.SENSE 0
    | 0x16 =>
      if d % 256 < 32 then (if (s.reg LOG_RET0.addr).getLsbD (d % 256) then .ret else .off)
      else if d % 256 < 60 then (if (s.reg LOG_RET1.addr).getLsbD (d % 256 - 32) then .ret else .off)
      else .ret
    | 0x22 =>
      let src := s.cfld (TMR_CFG.addr (d % 256)) TMR_CFG.SRC
      if (Tab.get Timer.reset s.timers (d % 256)).running ∧ (src = 3 ∨ 5 ≤ src) then .on else .ret
    | 0x01 => cluster (d % 256)
    | 0x03 => cluster (d % 256)
    | 0x02 => cluster (d % 256 / 4)
    | 0x04 => cluster (d % 256 / 2)
    | _ => .ret
  else if d / 256 = 0x14 ∧ m = 4 then (if now = .off then .off else cfg PWR_RET.STP 0)
  else now

/-- Every domain, by its block identifier in ascending order (so that a table made over them is in Tab's form), R425 and
R435. -/
def allDomains : List Nat :=
  0x0000 :: (List.range 8).map (0x0100 + ·) ++ (List.range 32).map (0x0200 + ·) ++ (List.range 8).map (0x0300 + ·) ++
  (List.range 16).map (0x0400 + ·) ++ [0x1000] ++ (List.range 4).map (0x1100 + ·) ++
  [0x1200, 0x1300, 0x1400, 0x1500] ++ (List.range 64).map (0x1600 + ·) ++ [0x1700, 0x1800, 0x1900, 0x1A00] ++
  (List.range 8).map (0x2000 + ·) ++ (List.range 6).map (0x2100 + ·) ++ (List.range 32).map (0x2200 + ·) ++
  (List.range 12).map (0x2300 + ·) ++ (List.range 3).map (0x2400 + ·)

/-- The blocks a descent to mode m queries: the powered ones whose state table entry changes, R437. -/
def State.queried (s : State) (m : Nat) : List Nat := allDomains.filter (fun d => s.isOn d && s.stateIn m d ≠ .on)

/-- The target mode of R431. -/
def State.target (s : State) : Nat :=
  let base := s.fld PWR_BASE.addr PWR_BASE.MODE
  let t1 := (List.range 4).foldl (fun t n =>
    let t := if s.fld PWR_FLOOR.addr (PWR_FLOOR.HOLD n) = 1 then max t (s.fld PWR_FLOOR.addr (PWR_FLOOR.MODE n)) else t
    if s.pwr.hwake.getLsbD n then max t 4 else t) base
  if s.pwr.demands.isEmpty then t1
  else
    let d := s.fld PWR_CFG.addr PWR_CFG.DMODE
    max t1 (if d ≤ 1 then 2 else d)

/-- Whether an update session is held, R359 and R517: kept in KEEP RAM at 0x2000_2F00 (log entry 15). -/
def State.updateHeld (s : State) : Bool := (memRead s.mem 0x20002F00).toNat % 2 = 1

/-- The port a tile's committed set binds, R87: 32 to 62 act as 63. -/
def State.boundPort (s : State) (t : Nat) : Nat :=
  let p := s.cfld (TILE_CFG.addr t) TILE_CFG.PORT
  if 32 ≤ p then 63 else p

/-- A common multiple of every EVERY + 1, R95. -/
def everyUnit : Nat := (List.range 256).foldl (fun l e => Nat.lcm l (e + 1)) 1

/-- The sum of two fractions. -/
def fracAdd (a b : Nat × Nat) : Nat × Nat := (a.1 * b.2 + b.1 * a.2, a.2 * b.2)
/-- Whether a fraction exceeds a number. -/
def fracAbove (a : Nat × Nat) (n : Nat) : Bool := n * a.2 < a.1

/-- The frame period that a word of TILE_PERIOD gives, R130. -/
def periodOf (w : Word) : Nat := max 200 (min (fget w TILE_PERIOD.P) 1000000000)

/-- The input rate of a lane as an exact fraction per second, R96. -/
def laneRate (word : Nat → Word) (t l : Nat) : Nat × Nat :=
  if fget (word (TILE_LSRC.addr t l)) TILE_LSRC.EN = 1 then
    ((List.range 64).foldl (fun r e =>
      if fget (word (TILE_SCHA.addr t e)) TILE_SCHA.EN = 1 ∧ (word (TILE_SCHB.addr t e)).getLsbD l then
        r + everyUnit / (fget (word (TILE_SCHB.addr t e)) TILE_SCHB.EVERY + 1)
      else r) 0 * 1000000000, periodOf (word (TILE_PERIOD.addr t)) * everyUnit)
  else (0, 1)

/-- The input rate of a tile's enabled lanes together, R96. -/
def inputRate (word : Nat → Word) (t : Nat) : Nat × Nat :=
  (List.range 16).foldl (fun r l => fracAdd r (laneRate word t l)) (0, 1)

/-- The record rate of a tile's enabled lanes together, R96. -/
def recordRate (word : Nat → Word) (t : Nat) : Nat × Nat :=
  (List.range 16).foldl (fun r l =>
    let x := laneRate word t l
    fracAdd r (x.1, x.2 * (fget (word (TILE_LCIC.addr t l)) TILE_LCIC.RATIO + 1))) (0, 1)

/-- The tiles of the enabled SKIM slots, R428. -/
def State.skimTiles (s : State) : List Nat :=
  (List.range 4).filterMap (fun k =>
    if s.cfld PWR_SKIM.addr (PWR_SKIM.EN k) = 1 then some (s.cfld PWR_SKIM.addr (PWR_SKIM.TILE k)) else none)

/-- Whether a two-wire bus or a clocked serial port can serve acquisitions: powered, or in SKIM woken for them as the port
of a SKIM tile, R428. -/
def State.portUp (s : State) (d port : Nat) : Bool :=
  s.works d || (decide (s.mode = 3) && decide (s.domState d = .ret) && s.skimTiles.any (fun t => decide (s.boundPort t = port)))

/-- The WATCH tile, R427. -/
def State.watchTile (s : State) : Nat :=
  4 * s.cfld PWR_WATCH.addr PWR_WATCH.CLUSTER + s.cfld PWR_WATCH.addr PWR_WATCH.TILE

/-- The refusal reason CAPACITY of R434. -/
def State.overCapacity (s : State) (m : Nat) : Bool :=
  if m = 2 then
    let p := s.boundPort s.watchTile
    let running := s.cfld (TILE_CFG.addr s.watchTile) TILE_CFG.RUN = 1
    running && ((p ≠ 63 && !(p ≤ 7 || (26 ≤ p && p ≤ 28))) || fracAbove (inputRate s.cword s.watchTile) 1000)
  else if m = 3 then
    s.skimTiles.any (fun t => 8 ≤ s.boundPort t && s.boundPort t ≤ 11) ||
      fracAbove (s.skimTiles.foldl (fun r t => fracAdd r (inputRate s.cword t)) (0, 1)) 1000
  else false

/-- The first reason of R437 for which PWR refuses an entry of mode m, with the block concerned (R434); port names the
port that asks, if one does. -/
def State.refusal (s : State) (m : Nat) (port : Option Nat) : Option (Nat × Nat) :=
  match (List.range 4).find? (fun n => s.pwr.hwake.getLsbD n && decide (m < 4)) with
  | some n => some (0x01, 0x1100 + n)
  | none =>
    match (List.range 4).find? (fun n => port ≠ some n && s.fld PWR_FLOOR.addr (PWR_FLOOR.HOLD n) = 1 &&
        decide (m < s.fld PWR_FLOOR.addr (PWR_FLOOR.MODE n))) with
    | some n => some (0x02, 0x1100 + n)
    | none =>
      if s.overCapacity m then some (0x04, 0x0200 + (if m = 2 then s.watchTile else s.skimTiles.headD 0))
      else if s.updateHeld && s.mode = 7 && decide (m < 7) then some (0x05, 0x1000)
      else if !s.pwr.demands.isEmpty && decide (m < (let d := s.fld PWR_CFG.addr PWR_CFG.DMODE; if d ≤ 1 then 2 else d))
        then some (0x07, 0x0000)
      else none

/-- The payload of a MODE_SET reply after REQSEQ, R345. -/
def modeReply (mode reason block : Nat) : List Byte := leBytes 1 mode ++ leBytes 1 reason ++ leBytes 2 block

/-- Every waiting MODE_SET answered, R436: OK where its mode is in effect, else CONFLICT with the reason and block. -/
def State.answerModes (s : State) (reason block : Nat) : State :=
  s.pwr.modeWaits.foldl (fun s w =>
    let ok := s.mode = w.mode
    s.reply w.port { seq := w.seq, op := 0x12, lens := [], payload := [] } (if ok then 0 else 0x22)
      (modeReply s.mode (if ok then 0 else reason) (if ok then 0 else block)))
    { s with pwr := { s.pwr with modeWaits := [] } }

/-- PWR_STATUS with a phase of R451. -/
def State.phase (s : State) (p : Nat) : State :=
  (s.setFld PWR_STATUS.addr PWR_STATUS.PHASE p).setFld PWR_STATUS.addr PWR_STATUS.BUSY (if p = 0 then 0 else 1)

/-- The saved lists that the entry in progress wrote discarded, R437. -/
def State.discardSaves (s : State) : State :=
  match s.pwr.entry with
  | some e => e.saves.foldl (fun s n =>
      let a := savedAt n
      { s with mem := memWrite s.mem (a + 3) (memRead s.mem (a + 3) &&& 0x7F) }) s
  | none => s

/-- An entry refused, R437: the reason recorded, a retry after RETRY ms, waiting MODE_SETs answered. -/
def State.refuseEntry (s : State) (reason block : Nat) : State :=
  let retry := max 1 (s.fld PWR_CFG.addr PWR_CFG.RETRY)
  let s := (s.setReg PWR_REFUSE.addr
    (pack [(PWR_REFUSE.VALID, 1), (PWR_REFUSE.REASON, reason), (PWR_REFUSE.BLOCK, block)])).bump
      PWR_STAT.addr PWR_STAT.REFUSED 1
  let s := s.discardSaves
  let s := { s with pwr := { s.pwr with entry := none, retryAt := some (s.el + retry * 1000000) } }
  (s.phase 0).answerModes reason block

/-- An entry aborted by a wake event before its commit point, R441. -/
def State.abortEntry (s : State) (reason block : Nat) : State :=
  let s := s.discardSaves
  let s := { s with pwr := { s.pwr with entry := none } }
  ((s.bump PWR_STAT.addr PWR_STAT.ABORTED 1).phase 0).answerModes reason block

/-! ## The wake latch, R443 -/

/-- The address of a wake latch entry. -/
def latchAddr (src : Nat) : Nat := 0x20001000 + 0x10 * src
/-- Whether a wake source is pending in the latch. -/
def State.latched (s : State) (src : Nat) : Bool := (memReadWord s.mem (latchAddr src)).getLsbD 31
/-- A wake event put into the latch: PENDING, COUNT saturating at 255, the GTS of the first occurrence, the mode for
source 12. -/
def State.latch (s : State) (src mode : Nat) : State :=
  let w := memReadWord s.mem (latchAddr src)
  let first := !w.getLsbD 31
  let count := if first then 1 else min 255 (w.toNat / 65536 % 256 + 1)
  let s := { s with mem := memWriteWord s.mem (latchAddr src) (Word.ofNat (2 ^ 31 + count * 65536 + mode % 8)) }
  if first then s.store (latchAddr src + 4) (gtsBytes (s.stamp pathCoarse)) else s

/-! ## The loss and the start of the core die, R38, R66, R430 and R466 -/

/-- Whether a register lies in the always-on set, R430, R471 and R526. -/
def alwaysOn (a : Nat) : Bool :=
  [PWR_BASE.addr, PWR_FLOOR.addr, PWR_CFG.addr, PWR_KWAKE.addr, PWR_KALARM0.addr, PWR_KALARM1.addr, TB_TEMP.addr].contains a ||
    (decide (0x20001800 ≤ a) && decide (a < 0x20001818)) || (decide (SEC_TAMPCFG.addr ≤ a) && decide (a < 0x40005020))

/-- Whether a register holds the sequence state of a host port, which the session record keeps (R430). -/
def portSeq (a : Nat) : Bool :=
  decide (0x40002000 ≤ a) && decide (a < 0x40003000) && decide (0x14 ≤ a % 0x400) && decide (a % 0x400 ≤ 0x20)

/-- A port as its session record restores it: its session, subscriptions and sequence numbers (R430). -/
def Port.kept (x : Port) : Port :=
  { Port.reset with twoWire := x.twoWire, session := x.session, hostId := x.hostId, subs := x.subs, ackIn := x.ackIn }

/-- The core die loses its state: what stays is the always-on set, MRAM, SEC's store, and the sessions where their
records are complete, R430, R463 and R466. -/
def State.coreLost (s : State) (records : Bool) : State :=
  let tm := s.time
  { State.reset with
      pending := s.pending, free := s.free, el := s.el, rdata := s.rdata
      regs := s.regs.filter (fun e => alwaysOn e.1 || (records && portSeq e.1))
      mem := s.mem.filter (fun c => (0x10000000 ≤ c.1 && c.1 < 0x11000000) || (0x20000000 ≤ c.1 && c.1 < 0x20004000))
      owner := if records then s.owner else []
      dom := allDomains.foldl (fun t d => Tab.put t d DomState.off) []
      time := { Time.reset with
        keep := tm.keep, keepCorr := if tm.keepCarries then tm.keepCorr else s.modelRate true, refEn := tm.refEn
        pll := .off, xkPhase := tm.xkPhase, calibrated := tm.calibrated
        rings := tm.rings.map (fun r => (r.1, { r.2 with edge := none }))
        eioLevel := tm.eioLevel, ppsLevel := tm.ppsLevel, state := tm.state, u0sq := tm.u0sq, t0 := tm.t0
        t0El := tm.t0El, rateSum := tm.rateSum, slope := tm.slope, past := tm.past
        established := tm.established, learnMin := tm.learnMin }
      pwr := { Pwr.reset with hwake := s.pwr.hwake, lastWake := s.pwr.lastWake, hostAlarm := s.pwr.hostAlarm }
      ports := s.ports.map (fun p => (p.1, if records then p.2.kept else { Port.reset with twoWire := p.2.twoWire }))
      ohp := if records then { Ohp.reset with roles := s.ohp.roles, epoch := s.ohp.epoch, alarms := s.ohp.alarms,
                                              nextAlarm := s.ohp.nextAlarm, claimedFor := s.ohp.claimedFor,
                                              alarmOverflow := s.ohp.alarmOverflow, records := true }
             else Ohp.reset
      sup := s.sup, sec := { s.sec with scrub := none }, mesh := { Mesh.reset with fc := s.mesh.fcEnd, fcEnd := s.mesh.fcEnd } }

/-- The check of R64 on the model in KEEP RAM. -/
def State.modelValid (s : State) : Bool :=
  crc32 (s.load 0x20003000 0xFFC) == ofLe (s.load 0x20003FFC 4) && ofLe (s.load 0x20003F90 5) == 0x14D4C4647

/-- Float at a start, R66: UNSET, counting from 0, after KEEP_LOST or a failed check, which clear the model and write its header
anew (R64); else HOLDOVER where ESTABLISHED is 1, continuing from U_0 and t_0 of R64, else UNSET on the KEEP timekeeper. -/
def State.floatStart (s : State) : State :=
  let tm := s.time
  if s.sup.lost ∨ !s.modelValid then
    ({ s with mem := memLose s.mem 0x20003000 0x20004000 }.markU
      { tm with keep := 0, state := .unset, established := false, learnMin := 0, u0sq := 0, t0 := 0, t0El := s.el
                rateSum := 0 }).saveModel
  else if (memRead s.mem 0x20003F95).toNat % 2 = 1 then
    let g := gtsOfBytes (s.load 0x20003F98 12)
    (s.markU { tm with established := true, learnMin := ofLe (s.load 0x20003F96 2) * 60, u0sq := uncSq g.unc
                       t0 := g.t }).enterHoldover
  else s.setTime { tm with state := .unset, established := false, learnMin := ofLe (s.load 0x20003F96 2) * 60 }

/-- The start of the core die, R38, R424 and R464: SAMPLE, with the domains that are on in it; Undercoat runs. REF_EN rises
and the reference settles, or the PLL starts at once where it has stayed high (R45). KEEP_LOST shows whether the
always-on set lost its state (R466), and with it TAMPUNK (R525). -/
def State.startCore (s : State) (from_ : Nat) : State :=
  let s := s.floatStart
  let s := { s with dom := [], pwr := { s.pwr with waking := false, lastWake := s.el }
                    time := { s.time with refEn := true, spanFrom := s.el, keepCarries := true, calibrated := []
                                          pll := if s.time.refEn then .starting else .settling s.el } }
  let s := s.setFld PWR_SUPPLY.addr PWR_SUPPLY.KEEP_LOST (b2n s.sup.lost)
  let s := s.setFld SEC_STATUS.addr SEC_STATUS.TAMPUNK (b2n s.sup.lost)
  let s := { s with sup := { s.sup with lost := false, vcore := 650, fast := false, step := none, descent := none
                                        safeAt := none }
                    owner := if s.sup.lost then [] else s.owner, rings := if s.sup.lost then [] else s.rings
                    copies := if s.sup.lost then [] else s.copies }
  let s := s.setReg PWR_STATUS.addr (pack [(PWR_STATUS.MODE, 4), (PWR_STATUS.TARGET, s.target),
    (PWR_STATUS.PHASE, if (List.range 49).any (fun i => s.latched i) then 6 else 0),
    (PWR_STATUS.BUSY, b2n ((List.range 49).any (fun i => s.latched i)))])
  let s := s.setReg PWR_WAKESRC.addr (pack [(PWR_WAKESRC.FROM, from_), (PWR_WAKESRC.SRC, 0x3F)])
  (List.range 4).foldl (fun s n =>
    if s.pwr.hwake.getLsbD n then s.setFld (HP_ATTN.addr n) HP_ATTN.WAKE 1 else s) s

/-- The rule ID whose RS_ECFG lies at an address, R173. -/
def engineAt (a : Nat) : Option Nat :=
  if 0x41000000 ≤ a ∧ a < 0x41080000 then
    let o := (a - 0x41000000) % 0x10000
    if 0x8000 ≤ o ∧ o < 0xC000 ∧ o % 0x200 = 0 then some ((a - 0x41000000) / 0x10000 * 32 + (o - 0x8000) / 0x200)
    else none
  else none

/-- Whether an engine is armed, R151 and R154: its committed EN is 1 and no parity error has disarmed it. -/
def State.armed (s : State) (e : Nat) : Bool :=
  s.cfld (RS_ECFG.addr e) RS_ECFG.EN = 1 && !(s.engine e).faulted

/-- The armed engines in ascending rule ID: an armed engine's RS_ECFG is listed in the committed set, since its EN
resets to 0. -/
def State.armedEngines (s : State) : List Nat :=
  (s.cset.filterMap (fun x => engineAt x.1)).filter (fun e => s.armed e)

/-- The domains of the banks that a ring lies in while its committed EN is 1, R205. -/
def State.ringBanks (s : State) (r : Nat) : List Nat :=
  let base := s.cfld (LOG_RBASE.addr r) LOG_RBASE.PAGE
  let size := s.cfld (LOG_RSIZE.addr r) LOG_RSIZE.SEGS
  if s.cfld (LOG_RCFG.addr r) LOG_RCFG.EN = 1 ∧ 0 < size then
    (List.range ((base + size - 1) / 32 + 1 - base / 32)).map (fun k => 0x1600 + base / 32 + k)
  else []

/-- The domains of the running tiles: an acquisition of theirs is due from SAMPLE up, so a wake to it brings them back from
Ret, R424 and R429 (log entry 96). -/
def State.runningTiles (s : State) : List Nat :=
  (s.tiles.filter (fun x => x.2.running)).map (fun x => 0x0200 + x.1)

/-- A wake towards the target begins, R431, R442 and R444: the mode in effect is the target's, REF_EN rises and the PLL
starts where the wake leaves WATCH or SKIM for a mode in which the PLL runs (R45, R57), and the domains on in that mode are
asked for, with the slices that hold an armed engine (R160), the banks that hold a ring (R205) and the running tiles (R429).
Leaving KEEP is a start of the core die (R430). -/
def State.startWake (s : State) (t : Nat) : State :=
  if s.mode = 1 then s.startCore 1
  else
  let low := s.lowMode && decide (4 ≤ t)
  let s := if s.fld PWR_STATUS.addr PWR_STATUS.PHASE = 6 then s
    else (s.setFld PWR_WAKESRC.addr PWR_WAKESRC.FROM s.mode).setFld PWR_WAKESRC.addr PWR_WAKESRC.SRC 0x3F
  let s := s.setFld PWR_STATUS.addr PWR_STATUS.MODE t
  let s := { s with pwr := { s.pwr with waking := low, lastWake := s.el } }
  let s := if low then
      let tm := s.time
      { s with time := { tm with refEn := true, spanFrom := s.el,
                                 pll := if tm.refEn then .starting else .settling s.el } }
    else s
  let s := if low then s.phase 5 else s
  let s := if low then
      ([0x0000, 0x1800, 0x1000, 0x1A00, 0x1300, 0x1500] ++ (List.range 4).map (0x1100 + ·)).foldl
        (fun s d => s.requestWake d) s
    else s
  let s := if 6 ≤ t then s.requestWake 0x1400 else s
  let s := if low then
      (s.armedEngines.map (fun e => 0x0300 + e / 32) ++ (List.range 40).flatMap s.ringBanks ++ s.runningTiles).foldl
        (fun s d => s.requestWake d) s
    else s
  s.answerModes 0 0

/-- Float holds over as Glanyx enters KEEP, R66. -/
def State.keepHoldover (s : State) : State :=
  if s.time.state = .acquire ∨ s.time.state = .locked then
    s.enterHoldover.setTime { s.enterHoldover.time with selected := none }
  else s

/-- The commit point of the entry in progress, R437 and R440: the new mode is in effect, the power-down begins, and
Float holds over where the mode is KEEP (R66); runs that wait for STP wait for a mode where it keeps STP unpowered (R183); where the mode is a low one the waiting MODE_SETs are answered now (R436). -/
def State.commitPoint (s : State) : State :=
  match s.pwr.entry with
  | none => s
  | some e =>
    let s := s.setFld PWR_STATUS.addr PWR_STATUS.MODE e.to_
    let s := { s with pwr := { s.pwr with entry := some { e with phase := .powerDown } } }
    let s := if e.to_ = 1 then s.keepHoldover else s
    let s := if e.to_ < 5 then
        s.stp.waiting.foldl (fun s r => s.setFld (STP_SSTAT.addr r.slot) STP_SSTAT.CODE 1) s else s
    let s := s.phase 4
    if e.to_ ≤ 3 then s.answerModes 0 0 else s

/-- Every block has accepted, R437: the clusters that go off write their lists; then time is handed over where the TB
carries it and the mode is a low one, or the entry commits. -/
def State.allAccepted (s : State) : State :=
  match s.pwr.entry with
  | none => s
  | some e =>
    let off := (List.range 8).filter (fun n => decide (s.domState (0x0100 + n) ≠ .off) && decide (s.stateIn e.to_ (0x0100 + n) = .off))
    let s := off.foldl (fun s n => s.saveCluster n) s
    let s := { s with pwr := { s.pwr with entry := some { e with saves := off, phase := .handover } } }
    if e.to_ ≤ 3 ∧ !s.time.keepCarries then s.phase 3 else s.commitPoint

/-- An entry of mode m begins, R437 and R450: a committed set takes effect, then the checks, then QUERY to every block
whose state changes. -/
def State.startEntry (s : State) (m : Nat) : State :=
  let s := if s.pwr.setPending then
      { s.takeEffect PWR_WATCH.addr PWR_COMMIT.addr with pwr := { s.pwr with setPending := false } }
    else s
  match s.refusal m none with
  | some (reason, block) => s.refuseEntry reason block
  | none =>
    let q := s.queried m
    let e : Entry := { from_ := s.mode, to_ := m, phase := .query, blocks := q.map (fun d => (d, BlockState.asked))
                       saves := [] }
    let s := ({ s with pwr := { s.pwr with entry := some e, retryAt := none } }).phase 1
    if q.isEmpty then s.allAccepted else s

/-! ## Entries -/

/-- Whether PWR may begin an entry now, R433: no replay in progress, DWELL ms since the last wake, none under way. -/
def State.mayEnter (s : State) : Bool :=
  s.pwr.entry.isNone && !s.pwr.waking && (List.range 49).all (fun i => !s.latched i) &&
    (decide (s.pwr.lastWake = 0) || decide (s.pwr.lastWake + s.fld PWR_CFG.addr PWR_CFG.DWELL * 1000000 ≤ s.el))

/-- PWR compares the target with the mode in effect, R431 to R444: a higher target wakes Glanyx, aborts an entry it
reaches, or is latched past the commit point; a lower target begins an entry where R433 allows it. -/
def State.retarget (s : State) : State :=
  let t := s.target
  let moved : Bool := t ≠ s.fld PWR_STATUS.addr PWR_STATUS.TARGET
  let s := s.setFld PWR_STATUS.addr PWR_STATUS.TARGET t
  match s.pwr.entry with
  | some e =>
    if e.phase = .powerDown then (if s.mode < t then s.latch 12 t else s)
    else if e.from_ ≤ t then
      let s := s.abortEntry 0x07 0
      if s.mode < t then s.startWake t else s
    else s
  | none =>
    if s.mode = 1 then s
    else if s.mode < t then (if s.lowMode then (s.latch 12 t).startWake t else s.startWake t)
    else if t < s.mode ∧ s.mayEnter ∧ (s.pwr.retryAt.isNone ∨ moved) then s.startEntry t
    else s

/-- What a wake source's consumer takes, R443: HWAKEn sets HPn_ATTN.WAKE; the others are taken from their own state. -/
def State.consumeWake (s : State) (src : Nat) : State :=
  if src < 4 then s.setFld (HP_ATTN.addr src) HP_ATTN.WAKE 1 else s

/-- Whether the core die may start from KEEP for a wake source, R460, R464 and R469: VMAIN is validated, no descent and no
safe end state is being left, and PWR does not stay in KEEP unless HWAKEn or the return of VMAIN asks. -/
def State.canStart (s : State) (src : Nat) : Bool :=
  decide (s.fld PWR_SUPPLY.addr PWR_SUPPLY.MAINOK = 1) && s.sup.descent.isNone && s.sup.safeAt.isNone &&
    (!s.sup.stay || decide (src < 4) || decide (src = 46))

/-- A wake event of a source of R443, R441 to R443: before the commit point it aborts the entry and goes to its
consumer; past it, or in a lower mode, it is latched, and in a lower mode Glanyx wakes. -/
def State.wakeEvent (s : State) (src : Nat) : State :=
  match s.pwr.entry with
  | some e =>
    if e.phase = .powerDown then s.latch src 0
    else (s.consumeWake src).abortEntry (if src < 4 then 0x01 else 0x07) (if src < 4 then 0x1100 + src else 0)
  | none =>
    if s.sup.descent.isSome then s.latch src 0
    else if s.mode = 1 then (if s.canStart src then (s.latch src 0).startWake 4 else s.latch src 0)
    else if s.lowMode then (s.latch src 0).startWake (max 4 s.target) else s.consumeWake src

/-- An access to a domain, R445: carried out where the domain is powered; where it is not, the access waits and its
wake is asked for (the access is made again when the domain is ready, log entry 16). A first access to a block that has
accepted an entry is a wake event, R437 and R441. -/
def State.withDomain (s : State) (d : Nat) (f : State → State) : State :=
  if s.isOn d then
    match s.pwr.entry with
    | some e =>
      if e.phase ≠ .powerDown ∧ s.yielded d then f (s.abortEntry 0x07 0) else f s
    | none => f s
  else s.requestWake d

/-- An access to the register at an address, by the domain that holds it. -/
def State.access (s : State) (a : Nat) (f : State → State) : State :=
  match domainOf a with
  | some d => s.withDomain d f
  | none => f s

/-- FAULT takes a report, R537: queued up to 64, else counted lost with the earliest GTS; in WATCH and SKIM a report
latches wake source 48. -/
def State.takeFault (s : State) (r : FaultRec) : State :=
  let s := if s.faults.length < 64 then { s with faults := s.faults ++ [r] }
    else
      let g := if s.faultLost = 0 then r.gts else if r.gts.t < s.faultLostGts.t then r.gts else s.faultLostGts
      { s with faultLost := min 0xFFFF (s.faultLost + 1), faultLostGts := g }
  if s.mode = 2 ∨ s.mode = 3 then s.wakeEvent 48 else s

end Sys2Proof.Machine
end

