-- ==== Sys2Proof/Machine/Route.lean ====
section
/-! DEFINITION. Where edges, records and results go: the inputs of the rule engines, R137 to R140 and R150. -/

namespace Sys2Proof.Machine

/-- Whether a slice is that of the WATCH cluster in WATCH or of a SKIM tile's cluster in SKIM, R427 and R428. -/
def State.keptSlice (s : State) (n : Nat) : Bool :=
  (s.mode = 2 && s.cfld PWR_WATCH.addr PWR_WATCH.CLUSTER = n) || (s.mode = 3 && s.skimTiles.any (fun t => t / 4 = n))

/-- A slice takes inputs while it is powered; the WATCH or SKIM slice wakes on one, R163 and R429. -/
def State.sliceTakes (s : State) (n : Nat) : Bool := s.isOn (0x0300 + n) || s.keptSlice n

/-- An input arrives at an engine's dispatch in a cycle; the WATCH or SKIM slice wakes. -/
def State.offerAt (s : State) (e cycle : Nat) (i : EngIn) : State :=
  if s.sliceTakes (e / 32) then
    let s := s.setDom (0x0300 + e / 32) .on
    let x := s.engine e
    let s := s.setEngine e { x with inq := x.inq ++ [(cycle, i)] }
    s.setSlice (e / 32) { s.slice (e / 32) with lastInput := s.el }
  else s

/-- An input arrives at an engine's dispatch now. -/
def State.offer (s : State) (e : Nat) (i : EngIn) : State := s.offerAt e (s.sliceCycle s.el) i

/-- Whether an edge is one that a two-bit edge field selects: 00b rising, 01b falling, 10b both, 11b none. -/
def edgeSelected (sel : Nat) (rise : Bool) : Bool :=
  match sel with
  | 0 => rise
  | 1 => !rise
  | 2 => true
  | _ => false

/-- The kind of an engine's committed source A, R137: 101b to 111b act as 000b. -/
def State.kindA (s : State) (e : Nat) : Nat :=
  let k := s.cfld (RS_ESRCA.addr e) RS_ESRCA.KIND
  if 5 ≤ k then 0 else k

/-- Whether an engine's committed source A, or for a record of the B lane its source B, delivers an input, R137 and R138. -/
def State.names (s : State) (e : Nat) (i : EngIn) : Bool :=
  let id := s.cfld (RS_ESRCA.addr e) RS_ESRCA.ID
  match i with
  | .record r => s.kindA e = 1 && e / 32 = r.lane / 64 && id % 64 = r.lane % 64
  | .edge pin rise _ => s.kindA e = 2 && id % 64 = pin && edgeSelected (id / 64 % 4) rise
  | .signal src _ => s.kindA e = 3 && id % 256 = src
  | .model slot _ _ _ _ => s.kindA e = 4 && id % 8 = slot
  | .bLane r =>
    s.cfld (RS_ESRCB.addr e) RS_ESRCB.KIND = 1 && e / 32 = r.lane / 64 &&
      s.cfld (RS_ESRCB.addr e) RS_ESRCB.ID % 64 = r.lane % 64

/-- An input offered to every armed engine whose source A names it. -/
def State.offerAll (s : State) (i : EngIn) : State :=
  s.armedEngines.foldl (fun s e => if s.names e i then s.offer e i else s) s

/-- An edge on an EIO pin goes to every slice in which an armed engine names the pin and the edge, R137 and R139. -/
def State.edgeToSlices (s : State) (pin : Nat) (rise : Bool) (g : Stamp) : State := s.offerAll (.edge pin rise g)

/-- A signal reaches its target, in a cycle, if the target's source A is KIND 011b naming the sender, R148. -/
def State.signalTo (s : State) (src dst cycle : Nat) (g : Stamp) : State :=
  if s.armed dst ∧ s.names dst (.signal src g) then s.offerAt dst cycle (.signal src g) else s

/-- A lane record offered to its cluster's slice: to each armed engine whose source A is the lane, and to each other whose
source B is (R137, R138). Where both are, the record is dispatched once, as the A input (R150). -/
def State.recordToSlice (s : State) (r : LaneRec) : State :=
  s.armedEngines.foldl (fun s e =>
    if s.names e (.record r) then s.offer e (.record r)
    else if s.names e (.bLane r) then s.offer e (.bLane r)
    else s) s

/-- A Stipple result reaches every armed engine whose source A is the slot, R168. -/
def State.resultToSlices (s : State) (slot cls : Nat) (score : Int) (doubt : Nat) (g : Stamp) : State :=
  s.offerAll (.model slot cls score doubt g)

end Sys2Proof.Machine
end

