-- ==== Sys2Proof/Machine/TimerOps.lean ====
section
/-! DEFINITION. The general timers, R407 to R419: ticks of their sources, arming, expiry, capture, and who is served. -/

namespace Sys2Proof.Machine

/-! ## Processors by number -/

/-- Processor c: 0 to 15 the watch cores by 2 × cluster + core, 16 the Keeper, 17 the Link processor. -/
def State.core (s : State) (c : Nat) : Core := Tab.get (Core.reset c) s.cores c
/-- The state with processor c replaced. -/
def State.setCore (s : State) (c : Nat) (x : Core) : State := { s with cores := Tab.put s.cores c x }
/-- The core whose program processor c runs: its own, or after a takeover the failed core's, R310. -/
def State.ident (s : State) (c : Nat) : Nat := (s.core c).acting.getD c
/-- The core that runs the program of core c, R310. -/
def State.runner (s : State) (c : Nat) : Nat :=
  match [c, c / 2 * 2 + (1 - c % 2)].find? (fun k => decide (c < 16) && (s.core k).acting == some c) with
  | some k => k
  | none => c

/-! ## Timers -/

/-- Timer n. -/
def State.timer (s : State) (n : Nat) : Timer := Tab.get Timer.reset s.timers n
/-- The state with timer n replaced. -/
def State.setTimer (s : State) (n : Nat) (x : Timer) : State := { s with timers := Tab.put s.timers n x }
/-- A field of a timer's committed TMRn_CFG. -/
def State.tcfg (s : State) (n : Nat) (f : Fld) : Nat := s.cfld (TMR_CFG.addr n) f

/-- The processor that receives a timer's interrupt, R415: the core that runs its holder's program, the Link processor or
the Keeper; none for a free timer. -/
def State.timerReceiver (s : State) (n : Nat) : Option Nat :=
  let o := s.ownerOf 5 n
  if 0x0200 ≤ o ∧ o < 0x0210 then some (s.runner (o - 0x0200))
  else if o = 0x0300 then some 17
  else if keeperSide o then some 16
  else none

/-- Whether a timer requests an interrupt, R415. -/
def State.timerAsks (s : State) (n : Nat) : Bool :=
  (decide (s.fld (TMR_STATUS.addr n) TMR_STATUS.DONE = 1) && decide (s.fld (TMR_CTL.addr n) TMR_CTL.IE = 1)) ||
    (!(s.timer n).queue.isEmpty && decide (s.fld (TMR_CTL.addr n) TMR_CTL.CIE = 1))

/-- Whether a timer is frozen, R418: FREEZE is 1 and the core that serves its holder is halted without a failure. -/
def State.frozen (s : State) (n : Nat) : Bool :=
  s.tcfg n TMR_CFG.FREEZE = 1 &&
    (match s.timerReceiver n with
    | some c => (s.core c).halted && !(s.core c).failed
    | none => false)

/-- LIMIT as it acts: 0 as 1, R413. -/
def State.tlimit (s : State) (n : Nat) : Nat := max 1 (s.cword (TMR_LIMIT.addr n)).toNat

/-- The source ticks of the next prescaled interval and the phase after it, R410. -/
def State.interval (s : State) (n phase : Nat) : Nat × Nat :=
  let i := max 1 (s.cfld (TMR_PRE.addr n) TMR_PRE.INT)
  let a := phase + s.cfld (TMR_PRE.addr n) TMR_PRE.FRAC
  if 65536 ≤ a then (i + 1, a - 65536) else (i, a)

/-- One source tick reaches a timer, R410 and R413: COUNT goes no further than LIMIT. -/
def State.sourceTick (s : State) (n : Nat) : State :=
  let t := s.timer n
  if t.running ∧ s.isOn (0x2200 + n) ∧ !s.frozen n ∧ t.count < s.tlimit n then
    if t.left ≤ 1 then
      let (l, a) := s.interval n t.phase
      s.setTimer n { t with count := t.count + 1, left := l, phase := a }
    else s.setTimer n { t with left := t.left - 1 }
  else s

/-- Whether a timer's holder's side holds a pin, R412 and R567. -/
def State.timerPin (s : State) (n pin : Nat) : Bool :=
  let o := s.ownerOf 5 n
  let h := s.ownerOf 4 pin
  decide (pin < 48) && decide (h ≠ 0) && (if keeperSide o then keeperSide h else h == o)

/-- The source of a timer: 110b and 111b act as 011b, R409. -/
def State.tsource (s : State) (n : Nat) : Nat := let c := s.tcfg n TMR_CFG.SRC; if 6 ≤ c then 3 else c

/-- The timers that run, in ascending number. -/
def State.runningTimers (s : State) : List Nat := (s.timers.filter (fun t => t.2.running)).map (·.1)

/-- An edge on a pin ticks the timers that count it while their holder's side holds it, R409 and R533; XEDGE 11b acts as
rising. -/
def State.extEdge (s : State) (pin : Nat) (rise : Bool) : State :=
  s.runningTimers.foldl (fun s n =>
    let e := s.tcfg n TMR_CFG.XEDGE
    if s.tsource n = 5 ∧ s.cfld (TMR_PIN.addr n) TMR_PIN.XPIN = pin ∧ s.timerPin n pin ∧ edgeSelected (if e = 3 then 0 else e) rise then
      s.sourceTick n
    else s) s

/-- Whether a clock of n ticks in d ns has a tick in the nanosecond after el. -/
def clockTick (el n d : Nat) : Bool := el * n / d < (el + 1) * n / d

/-- The source ticks of one nanosecond, R409: REF while REF_EN is high, SYS while the PLL is locked, TBUS as local time
passes a whole microsecond, XK at crystal ticks; RC at free instants (log entry 21). -/
def State.timerTicks (s : State) (xkTick usTick : Bool) : State :=
  s.runningTimers.foldl (fun s n =>
    let locked : Bool := match s.time.pll with
      | .locked => true
      | _ => false
    let go : Bool := match s.tsource n with
      | 0 => s.time.refEn && clockTick s.el 384 10000
      | 1 => locked && clockTick s.el 1 5
      | 2 => locked && usTick
      | 3 => xkTick
      | 4 => Config.rcTick s.el
      | _ => false
    if go then s.sourceTick n else s) s

/-- The expiry of a timer whose COUNT has reached LIMIT, R413. -/
def State.expire (s : State) (n : Nat) : State :=
  let t := s.timer n
  if t.running ∧ s.tlimit n ≤ t.count then
    (s.setTimer n { t with running := false }).setFld (TMR_STATUS.addr n) TMR_STATUS.DONE 1
  else s

/-- An arm, R411 and R412: refused for a pin not held, else the set is committed and counting starts from 0. An expiry
of the same instant completes first, R420. -/
def State.timerArm (s : State) (n : Nat) : State :=
  let s := s.expire n
  let src := s.fld (TMR_CFG.addr n) TMR_CFG.SRC
  let xpin := s.fld (TMR_PIN.addr n) TMR_PIN.XPIN
  let cpin := s.fld (TMR_PIN.addr n) TMR_PIN.CPIN
  if (src = 5 ∧ xpin < 48 ∧ !s.timerPin n xpin) ∨
      (s.fld (TMR_CFG.addr n) TMR_CFG.CEDGE ≠ 3 ∧ cpin < 48 ∧ !s.timerPin n cpin) then
    s.setFld (TMR_STATUS.addr n) TMR_STATUS.NOPIN 1
  else
    let s := s.commitNow (TMR_CFG.addr n) (TMR_COUNT.addr n)
    let s := s.commitNow (TMR_PIN.addr n) (TMR_PIN.addr n + 4)
    let s := { s with dither := s.dither + 1 }
    let a0 := if s.tcfg n TMR_CFG.DITHER = 1 then (Config.ditherAt s.dither).toNat else 0
    let (l, a) := s.interval n a0
    s.setTimer n { s.timer n with running := true, count := 0, left := l, phase := a }

/-- A stop, R414: an expiry of the same instant completes first, R420. -/
def State.timerStop (s : State) (n : Nat) : State :=
  let s := s.expire n
  s.setTimer n { s.timer n with running := false }

/-- A write of TMRn_CTL: the enables, then the arm, then the stop, R420. -/
def State.timerCtl (s : State) (n : Nat) (v : Word) : State :=
  let s := s.setReg (TMR_CTL.addr n) (writeWord TMR_CTL.fields (s.reg (TMR_CTL.addr n)) v)
  let s := if fget v TMR_CTL.ARM = 1 then s.timerArm n else s
  if fget v TMR_CTL.STOP = 1 then s.timerStop n else s

/-- A capture, R416 and R417: COUNT goes onto the queue of four, or the push is dropped and counted. -/
def State.capture (s : State) (n : Nat) : State :=
  let t := s.timer n
  if t.queue.length < 4 then s.setTimer n { t with queue := t.queue ++ [Word.ofNat t.count] }
  else s.bump (TMR_STATUS.addr n) TMR_STATUS.COVF 1

/-- A read of TMRn_CAP by a processor, R419: the head, removed for the processor that receives the interrupt. -/
def State.capRead (s : State) (n c : Nat) : Word × State :=
  match (s.timer n).queue with
  | [] => (0xFFFFFFFF, s)
  | w :: r => (w, if s.timerReceiver n = some c then s.setTimer n { s.timer n with queue := r } else s)

/-- TMRn_STATUS as it reads, R422. -/
def State.timerStatus (s : State) (n : Nat) : Word :=
  let w := s.reg (TMR_STATUS.addr n)
  let w := fset w TMR_STATUS.RUNNING (b2n (s.timer n).running)
  let w := fset w TMR_STATUS.FROZEN (b2n (s.frozen n))
  fset w TMR_STATUS.CLEVEL (s.timer n).queue.length

/-- A register read of timer n at an offset by processor c, R421; none where the offset is unmapped. -/
def State.timerRead (s : State) (n o c : Nat) : Option (Word × State) :=
  match o with
  | 0x00 => some (readWord TMR_CTL.fields (s.reg (TMR_CTL.addr n)), s)
  | 0x04 => some (readWord TMR_CFG.fields (s.reg (TMR_CFG.addr n)), s)
  | 0x08 => some (readWord TMR_PRE.fields (s.reg (TMR_PRE.addr n)), s)
  | 0x0C => some (s.reg (TMR_LIMIT.addr n), s)
  | 0x10 => some (Word.ofNat (s.timer n).count, s)
  | 0x14 => some (s.timerStatus n, s.setFld (TMR_STATUS.addr n) TMR_STATUS.COVF 0)
  | 0x18 => some (s.capRead n c)
  | 0x1C => some (readWord TMR_PIN.fields (s.reg (TMR_PIN.addr n)), s)
  | _ => none

/-- A register write of timer n at an offset, R421, R422. -/
def State.timerWrite (s : State) (n o : Nat) (v : Word) : Option State :=
  match o with
  | 0x00 => some (s.timerCtl n v)
  | 0x04 => some (s.setReg (TMR_CFG.addr n) (writeWord TMR_CFG.fields (s.reg (TMR_CFG.addr n)) v))
  | 0x08 => some (s.setReg (TMR_PRE.addr n) (writeWord TMR_PRE.fields (s.reg (TMR_PRE.addr n)) v))
  | 0x0C => some (s.setReg (TMR_LIMIT.addr n) v)
  | 0x10 => some s
  | 0x14 => some (s.setReg (TMR_STATUS.addr n) (writeWord TMR_STATUS.fields (s.reg (TMR_STATUS.addr n)) v))
  | 0x18 => some s
  | 0x1C => some (s.setReg (TMR_PIN.addr n) (writeWord TMR_PIN.fields (s.reg (TMR_PIN.addr n)) v))
  | _ => none

end Sys2Proof.Machine
end

