-- ==== Sys2Proof/Machine/CoreOps.lean ====
section
/-! DEFINITION. What the processors share, R249 to R317: the store buffer, the microcode engine, abandoning a long
instruction, failure and takeover, exception entry, and who may access what. -/

namespace Sys2Proof.Machine

/-- The power domain of processor c, R435. -/
def coreBlock (c : Nat) : Nat := if c < 16 then 0x0400 + c else if c = 16 then 0x1000 else 0x1200

/-- The size of a processor's instruction space, in the units of its addresses, R260. -/
def Core.space (x : Core) (c : Nat) : Nat := if 16 ≤ c then 2 ^ 32 else if x.enc then 65536 else 32768

/-- The address of vector v, R298: bits 3:0 of CORE_VBASE are ignored. -/
def Core.vector (x : Core) (c v : Nat) : Nat := (x.vbase.toNat / 16 * 16 + 16 * v) % x.space c

/-- The unit of a watch core in a fault record, R535. -/
def coreUnit (c : Nat) : Nat := c / 2 * 65536 + 0x0100 + c % 2

/-- Every product in flight lands, in issue order, R272. -/
def Core.landed (x : Core) : Core :=
  match x.products.getLast? with
  | some (h, l) => { x with ph := h, pl := l, products := [] }
  | none => x

/-! ## Completion and hardware loops, R277 -/

/-- The loop test at the completion of the instruction at an address, R277: where it sends execution to LS, and the
loops that stay, innermost first. -/
def loopEnd (masked at_ : Nat) : List (Nat × Nat × Nat) → Option Nat × List (Nat × Nat × Nat)
  | [] => (none, [])
  | (st, e, n) :: r =>
    if masked < r.length + 1 ∧ e = at_ then (if 1 < n then (some st, (st, e, n - 1) :: r) else loopEnd masked at_ r)
    else (none, (st, e, n) :: r)

/-- The instruction at an address completes: the pc goes to LS where the loop test sends it there, else to next, the
instruction after it or the target of a transfer taken; a long instruction in flight counts one more of its shadow. -/
def Core.completed (x : Core) (at_ next : Nat) (shadow : Bool) : Core :=
  let r := loopEnd x.masked at_ x.loops
  { x with pc := r.1.getD next, loops := r.2, waiting := false
           long := if shadow then x.long.map (fun l => { l with shadow := l.shadow + 1 }) else x.long }

/-! ## The store buffer, R304 to R306 -/

/-- Base of the data space of a watch core, R259. -/
def dataBase (c : Nat) : Nat := dataMemBase (c / 2)

/-- A buffered store performed in cluster data memory. -/
def State.drainEntry (s : State) (c : Nat) (e : StoreEntry) : State := s.store (dataBase c + e.addr) e.bytes

/-- Every committed entry drained in order; shadow entries stay. -/
def State.drainAll (s : State) (c : Nat) : State :=
  let x := s.core c
  let s := (x.stores.filter (fun e => !e.shadow)).foldl (fun s e => s.drainEntry c e) s
  s.setCore c { x with stores := x.stores.filter (·.shadow) }

/-- The youngest buffered store that writes a byte, by its place in the buffer. -/
def youngest (l : List StoreEntry) (a : Nat) : Option Nat :=
  ((List.range l.length).filter (fun i =>
    match l[i]? with
    | some e => decide (e.addr ≤ a ∧ a < e.addr + e.bytes.length)
    | none => false)).getLast?

/-- What a load of a watch core's data space gives, R305: none where it waits for buffered stores to drain. -/
def State.forwarded (s : State) (c a n : Nat) : Option (List Byte) :=
  let l := (s.core c).stores
  let ys := (List.range n).map (fun i => youngest l (a + i))
  match ys.head? with
  | some y =>
    if ys.all (· == y) then
      match y with
      | none => some (s.load (dataBase c + a) n)
      | some i => (l[i]?).map (fun e => Machine.slice e.bytes (a - e.addr) n)
    else none
  | none => some []

/-- Why a data access is not performed: an exception with its vector and address (R275, R298); a domain that is not
powered (R445); or the EIO register window, whose registers the spec does not list (log entry 9). -/
inductive AccessError where
  | trap (vec addr : Nat)
  | waits (dom : Nat)
  | eio
  deriving DecidableEq, Repr

/-- The check of a data-space access of a watch core, R259. -/
def watchCheck (a n : Nat) : Option AccessError :=
  if 0x20000 < a + n then some (.trap 3 a) else if a % n ≠ 0 then some (.trap 4 a) else none

/-! ## Microcode, R280 to R282 -/

/-- A descriptor's fields, R280. -/
structure SlotDesc where
  valid : Bool
  nin : Nat
  nout : Nat
  keepok : Bool
  entry : Nat
  deriving DecidableEq, Repr

/-- The descriptor that 64 bits hold: counts of 5 to 7 act as 4. -/
def slotDesc (d : BitVec 64) : SlotDesc :=
  let f (hi lo : Nat) : Nat := d.toNat / 2 ^ lo % 2 ^ (hi + 1 - lo)
  { valid := f 63 63 = 1, nin := min 4 (f 62 60), nout := min 4 (f 59 57), keepok := f 56 56 = 1, entry := f 55 48 }

/-- Leading zeros of a word. -/
def clz (w : Word) : Nat := ((List.range 32).find? (fun i => w.getLsbD (31 - i))).getD 32
/-- Trailing zeros of a word. -/
def ctz (w : Word) : Nat := ((List.range 32).find? (fun i => w.getLsbD i)).getD 32
/-- Bits set in a word. -/
def popcnt (w : Word) : Nat := (List.range 32).countP (fun i => w.getLsbD i)
/-- The smaller of two words as signed numbers. -/
def minS (a b : Word) : Word := if a.toInt ≤ b.toInt then a else b
/-- The larger of two words as signed numbers. -/
def maxS (a b : Word) : Word := if a.toInt ≤ b.toInt then b else a
/-- The absolute value; −2^31 stays −2^31. -/
def absW (a : Word) : Word := if a.toInt < 0 then -a else a

/-- The operation of a micro-op, R282. -/
def microAlu (op : Nat) (a b : Word) : Word :=
  match op with
  | 1 => a + b
  | 2 => a - b
  | 3 => a &&& b
  | 4 => a ||| b
  | 5 => a ^^^ b
  | 6 => a <<< (b.toNat % 32)
  | 7 => a >>> (b.toNat % 32)
  | 8 => a.sshiftRight (b.toNat % 32)
  | 9 => a * b
  | 10 => minS a b
  | 11 => maxS a b
  | 12 => if a ≤ b then a else b
  | 13 => if a ≤ b then b else a
  | 14 => Word.ofNat (clz a)
  | 15 => absW a
  | _ => a

/-- A micro-register file with one register set. -/
def setU (u : List Word) (i : Nat) (w : Word) : List Word := (List.range 8).map (fun k => if k = i then w else u.getD k 0)

/-- How memory answers a processor: a load of n bytes, and a store. -/
structure MemPort where
  load : State → Nat → Nat → Except AccessError (State × Nat)
  store : State → Nat → List Byte → Except AccessError State

/-- What a run of microcode comes to: the registers at END, an exception, or its steps used up. -/
inductive MicroEnd where
  | done (u : List Word)
  | fault (e : AccessError)
  | spent
  deriving DecidableEq, Repr

/-- Micro-ops from an address, at most fuel of them, R281 and R282. -/
def runMicro (m : MemPort) (micro : Tab (BitVec 64)) : Nat → Nat → List Word → State → State × MicroEnd
  | 0, _, _, s => (s, .spent)
  | k + 1, at_, u, s =>
    let d := Tab.get 0 micro at_
    let f (hi lo : Nat) : Nat := d.toNat / 2 ^ lo % 2 ^ (hi + 1 - lo)
    let dst := f 57 55
    let a := u.getD (f 54 52) 0
    let b := if f 48 48 = 1 then BitVec.ofInt 32 (signed 16 (f 47 32)) else u.getD (f 51 49) 0
    let r := microAlu (f 62 58) a b
    let mem := f 31 29
    let res : Except AccessError (State × List Word) :=
      if 1 ≤ mem ∧ mem ≤ 3 then
        (m.load s r.toNat (if mem = 1 then 4 else if mem = 2 then 2 else 1)).map (fun (s, v) => (s, setU u dst (Word.ofNat v)))
      else if 4 ≤ mem ∧ mem ≤ 6 then
        let n := if mem = 4 then 4 else if mem = 5 then 2 else 1
        (m.store s r.toNat (leBytes n (u.getD dst 0).toNat)).map (fun s => (s, u))
      else .ok (s, setU u dst r)
    match res with
    | .error e => (s, .fault e)
    | .ok (s, u) =>
      if f 63 63 = 1 then (s, .done u)
      else
        let take := match f 28 27 with
          | 1 => decide (r = 0)
          | 2 => decide (r ≠ 0)
          | 3 => true
          | _ => false
        runMicro m micro k (if take then f 26 19 else (at_ + 1) % 256) u s

/-- The micro-registers at set-up: the inputs, topmost in u0, and the immediate in u7, R281. -/
def setupU (ins : List Word) (imm : Nat) : List Word :=
  (List.range 8).map (fun k => if k = 7 then Word.ofNat imm else ins.getD k 0)

/-- A store of a long instruction enters the store buffer; one that finds no free entry waits until the oldest has drained,
R304. -/
def State.bufferStore (s : State) (c a : Nat) (b : List Byte) : State :=
  let s := match (s.core c).stores with
    | e :: r => if r.length < 3 then s else (s.drainEntry c e).setCore c { s.core c with stores := r }
    | [] => s
  s.setCore c { s.core c with stores := (s.core c).stores ++ [⟨a, b, false⟩] }

/-- The memory of a watch core as a long instruction meets it, R304 and R305: a load that cannot be forwarded waits for the
buffered stores to drain. -/
def watchPort (c : Nat) : MemPort :=
  { load := fun s a n => match watchCheck a n with
      | some e => .error e
      | none => match s.forwarded c a n with
        | some b => .ok (s, ofLe b)
        | none => .ok (s.drainAll c, ofLe ((s.drainAll c).load (dataBase c + a) n))
    store := fun s a b => match watchCheck a b.length with
      | some e => .error e
      | none => .ok (s.bufferStore c a b) }

/-- Bytes copied one by one in ascending order, R273: how many were copied, and the error that ended the copy. -/
def copyBytes (m : MemPort) : Nat → Nat → Nat → State → State × Nat × Option AccessError
  | 0, _, _, s => (s, 0, none)
  | n + 1, a, d, s =>
    match m.load s a 1 with
    | .error e => (s, 0, some e)
    | .ok (s', v) =>
      match m.store s' d (leBytes 1 v) with
      | .error e => (s', 0, some e)
      | .ok s'' =>
        let r := copyBytes m n (a + 1) (d + 1) s''
        (r.1, r.2.1 + 1, r.2.2)

/-! ## Abandoning a long instruction, R302 -/

/-- A core's state from before a long instruction put back, its shadow's stores discarded. -/
def Core.restored (x : Core) (v : SavedCore) : Core :=
  { x with pc := v.pc, ds := v.ds, rs := v.rs, dsp := v.dsp, rsp := v.rsp, flags := v.flags, loops := v.loops
           long := none, stores := x.stores.filter (fun e => !e.shadow) }

/-- The long instruction in flight abandoned with its shadow, R302, by a processor whose memory is m. A MOVB that is to have
copied done bytes goes on after those copied; a CUSTOM has performed done micro-ops, whose stores stand (R281). -/
def State.abandon (s : State) (m : MemPort) (c done : Nat) : State :=
  match (s.core c).long with
  | none => s
  | some l =>
    let s := s.setCore c ((s.core c).restored l.saved)
    match l.kind with
    | .movb =>
      let n := (l.ins.getD 0 0).toNat
      let d := l.ins.getD 1 0
      let a := l.ins.getD 2 0
      let r := copyBytes m (min done n) a.toNat d.toNat s
      let k := r.2.1
      let x := r.1.core c
      r.1.setCore c { x with ds := some (Word.ofNat (n - k)) :: some (d + Word.ofNat k) :: some (a + Word.ofNat k) :: x.ds.drop 3 }
    | .custom slot imm =>
      let x := s.core c
      let e := slotDesc (Tab.get 0 x.desc slot)
      (runMicro m x.micro (min done 1023) e.entry (setupU l.ins imm) s).1
    | _ => s

/-! ## Failure and takeover, R254 and R309 to R311 -/

/-- The partner of a watch core. -/
def partner (c : Nat) : Nat := c / 2 * 2 + (1 - c % 2)

/-- The instruction cache of a watch core emptied, R289. -/
def State.emptyCache (s : State) (c : Nat) : State := { s with pipe := { s.pipe with caches := Tab.del s.pipe.caches c } }

/-- A processor's cycle count set, in tenths. -/
def State.setCycles (s : State) (c n : Nat) : State := { s with pipe := { s.pipe with cycles := Tab.put s.pipe.cycles c n } }

/-- The partner takes a failed core's program over, R310: it runs even where it was halted (R311), with its cache empty (log
entry 90). -/
def State.takeOver (s : State) (c cause : Nat) : State :=
  let p := partner c
  let x := s.core c
  let s := (((s.abandon (watchPort p) p 0).drainAll p).emptyCache p).setCycles p (Tab.get 0 s.pipe.cycles c)
  let y := (s.core p).landed
  let k : Took :=
    { cycle := s.coreCycle, mode := s.fld (CL_PAIR.addr (c / 2)) CL_PAIR.MODE, stat := s.reg (CL_PAIRSTAT.addr (c / 2)) }
  let y := { y with run := true, halted := false, fresh := false, took := some k, wdogOut := false }
  let y := { y with acting := some c, enc := x.enc, ds := [], rs := [], loops := [], masked := 0, waiting := false
                    ie := false, det := x.det, ien := x.ien, soft := x.soft, bell := x.bell, vbase := x.vbase
                    ecause := Word.ofNat 13, eaddr := x.eaddr, eval := Word.ofNat (c % 2), wdog := x.wdog
                    wdogAt := s.el, thr := x.thr, dsbase := x.dsbase, dslim := x.dslim, rsbase := x.rsbase
                    rslim := x.rslim, dsp := x.dsbase, rsp := x.rsbase }
  let y := { y with pc := y.vector c 13 }
  let s := s.setCore p y
  let s := s.setFld (CL_PAIR.addr (c / 2)) CL_PAIR.MODE 0
  s.setReg (CL_PAIRSTAT.addr (c / 2)) (pack [(CL_PAIRSTAT.TOOK, 1), (CL_PAIRSTAT.CAUSE, cause), (CL_PAIRSTAT.ACTING, 1),
    (CL_PAIRSTAT.WHO, c % 2)])

/-- A takeover that core c made in this very cycle is undone: where both cores fail in one cycle none occurs, R310. -/
def State.undoTakeOver (s : State) (c : Nat) : State :=
  match (s.core c).took with
  | some k =>
    if k.cycle = s.coreCycle then
      ((s.setCore c { s.core c with acting := none, took := none }).setFld (CL_PAIR.addr (c / 2)) CL_PAIR.MODE k.mode).setReg
        (CL_PAIRSTAT.addr (c / 2)) k.stat
    else s
  | none => s

/-- A core fails, R309: 1 a double fault, 2 its watchdog, 3 its clock. It halts with FAILED, its buffer drained unless
its island has failed, and the core that stands by for it takes over. -/
def State.coreFail (s : State) (c cause : Nat) : State :=
  let x := s.core c
  let s := if c < 16 then
      s.raiseFault 2 (match cause with | 1 => 0x0002 | 2 => 0x0003 | _ => 0x0004) (coreUnit c)
        (if cause = 1 then x.eaddr.toNat else 0)
    else s
  let s := s.abandon (watchPort c) c 0
  let s := if cause = 3 then s.setCore c { s.core c with stores := [] } else if c < 16 then s.drainAll c else s
  let s := (s.setCore c { (s.core c).landed with halted := true, failed := true, waiting := false }).undoTakeOver c
  let m := s.fld (CL_PAIR.addr (c / 2)) CL_PAIR.MODE
  if c < 16 ∧ ((m = 1 ∧ c % 2 = 0) ∨ (m = 2 ∧ c % 2 = 1)) ∧ !(s.core (partner c)).failed then
    s.takeOver c cause
  else s

/-! ## Entry, R297 to R300 -/

/-- The status word of a frame, R299. -/
def Core.statusWord (x : Core) (v : Nat) (imprecise : Bool) : Word :=
  Word.ofNat (b2n imprecise * 2 ^ 31 + b2n x.ie * 2 ^ 30 + x.masked % 8 * 2 ^ 27 + x.loops.length % 8 * 2 ^ 24 +
    v % 256 * 2 ^ 16 + x.flags.toNat)

/-- Entry to vector v, R299: the frame, without spilling; IE cleared; the handler's masked depth; the products in flight
land before the handler starts (R272). An entry that finds more than 14 entries halts the core, R254. -/
def State.enter (s : State) (c v ret : Nat) (cause : Word) (eaddr eval : Word) (imprecise : Bool) : State :=
  let x := s.core c
  let x := { x with ecause := cause, eaddr, eval }
  if 14 < x.rs.length then (s.setCore c x).coreFail c 1
  else
    let x := x.landed
    s.setCore c { x with rs := x.statusWord v imprecise :: Word.ofNat ret :: x.rs, ie := false, masked := x.loops.length
                         pc := x.vector c v, waiting := false }

/-- CORE_ECAUSE, R313. -/
def causeWord (v sub stk : Nat) (imprecise : Bool) : Word :=
  Word.ofNat (b2n imprecise * 2 ^ 31 + stk * 2 ^ 11 + sub * 2 ^ 8 + v)

/-- A precise exception of the instruction at the core's pc, R297: the frame returns to it. A STACK_FAULT with more than
12 entries on the return stack is a double fault, R254. -/
def State.exception (s : State) (c v sub stk eval : Nat) : State :=
  let x := s.core c
  if v = 2 ∧ 12 < x.rs.length then
    (s.setCore c { x with ecause := causeWord v sub stk false, eaddr := Word.ofNat x.pc, eval := Word.ofNat eval }).coreFail c 1
  else s.enter c v x.pc (causeWord v sub stk false) (Word.ofNat x.pc) (Word.ofNat eval) false

/-! ## Who may access what, R28 and R32 -/

/-- Whether the Link processor's memory protection unit allows an access, R28. -/
def linkMay (a : Nat) (write : Bool) : Bool :=
  a < 0x800000 || (decide (0x10000000 ≤ a) && decide (a < 0x11000000)) || (decide (0x20000000 ≤ a) && decide (a < 0x20004000)) ||
    [0x40001, 0x40004, 0x40005, 0x40006, 0x40008, 0x4000B, 0x42020, 0x42040].contains (a / 0x1000) ||
    (decide (0x42010000 ≤ a) && decide (a < 0x42016000)) ||
    (!write && ((decide (0x41000000 ≤ a) && decide (a < 0x41080000)) || a / 0x1000 == 0x40007))

/-- The number of a processor. -/
def sideCore : Side → Nat
  | .keeper => 16
  | .link => 17

/-- An access outside the map or forbidden, R32: a read returns ones, and the processor takes a bus-error exception. -/
def State.busError (s : State) (p : Side) (a : Nat) (write : Bool) : State :=
  let s := if write then s else s.returns (sideKey p) 0xFFFFFFFF
  s.exception (sideCore p) 3 0 0 a

/-- An access by a processor to an address, performed unless its memory protection unit forbids it, R28 and R32. -/
def State.permitted (s : State) (p : Side) (a : Nat) (write : Bool) (f : State → State) : State :=
  match p with
  | .keeper => f s
  | .link => if linkMay a write then f s else s.busError .link a write

end Sys2Proof.Machine
end

