-- ==== Sys2Proof/Machine/Grid.lean ====
section
/-! DEFINITION. The frame grid of the tiles and what a step of local time does to it, R94 to R99, R124 and R569. -/

namespace Sys2Proof.Machine

/-- Whole nanoseconds of local time. -/
def State.nowNs (s : State) : Nat := fracToNs s.now.toNat

/-- Local time in nanoseconds, rounded up. -/
def nsUp (t : BitVec 80) : Nat := ceilDiv (t.toNat * 1000000000) (2 ^ 40)

/-- The instant of a number of nanoseconds since 2000-01-01 TAI. -/
def nsInstant (ns : Nat) : BitVec 80 := BitVec.ofNat 80 (nsToFrac ns)

/-- The port that a word TILE_CFG binds, R87: 32 to 62 act as 63. -/
def portOf (w : Word) : Nat := let p := fget w TILE_CFG.PORT; if 32 ≤ p then 63 else p

/-- Acquisitions waiting at or under way on a port. -/
def State.portWait (s : State) (p : Nat) : List (Nat × Sent) := Tab.get [] s.portQ p
/-- The state with a port's acquisitions replaced. -/
def State.setPortWait (s : State) (p : Nat) (l : List (Nat × Sent)) : State := { s with portQ := Tab.put s.portQ p l }

/-- Acquisitions not made, R98: counted, and the lanes that they would have supplied, enabled in the set that word reads
(R95), carry MISS in their next records. -/
def State.missedIn (s : State) (word : Nat → Word) (t : Nat) (lanes : BitVec 16) (n : Nat) : State :=
  (List.range 16).foldl (fun s l =>
    if lanes.getLsbD l ∧ fget (word (TILE_LSRC.addr t l)) TILE_LSRC.EN = 1 then
      s.setLane t l { s.lane t l with miss := true } else s) (s.bump (TILE_STAT.addr t) TILE_STAT.MISS n)

/-- An acquisition of the committed set not made, R98. -/
def State.missed (s : State) (t : Nat) (lanes : BitVec 16) : State := s.missedIn s.cword t lanes 1

/-! ## Scheduled instants, R94 and R95 -/

/-- The grid of an entry in the set that word reads: its first instant and the span between two, in ns. -/
def entryGrid (word : Nat → Word) (t e : Nat) : Nat × Nat :=
  (fget (word (TILE_SCHA.addr t e)) TILE_SCHA.OFFSET,
    periodOf (word (TILE_PERIOD.addr t)) * (fget (word (TILE_SCHB.addr t e)) TILE_SCHB.EVERY + 1))

/-- The first instant of a grid at or after an instant. -/
def gridNext (g : Nat × Nat) (lo : Nat) : Nat := if lo ≤ g.1 then g.1 else g.1 + ceilDiv (lo - g.1) g.2 * g.2

/-- How many instants of a grid lie after lo and not after hi. -/
def gridCount (g : Nat × Nat) (lo hi : Nat) : Nat :=
  let a := gridNext g (lo + 1)
  if hi < a then 0 else (hi - a) / g.2 + 1

/-- The instant of an entry from lo to hi in the set that word reads, where the entry is enabled. -/
def dueIn (word : Nat → Word) (t e lo hi : Nat) : Option Nat :=
  let a := gridNext (entryGrid word t e) lo
  if fget (word (TILE_SCHA.addr t e)) TILE_SCHA.EN = 1 ∧ a ≤ hi then some a else none

/-- What a crystal tick adds to the KEEP timekeeper, in 2^-64 s, R58. -/
def State.tickStep (s : State) : Int := 2 ^ 49 - s.time.keepCorr * 2 ^ 9

/-- The instants, in ns, that a send now serves: those 2 µs from now to within a nanosecond (R569), or in WATCH and SKIM
those of the crystal tick period that has just ended, none where time has stepped since (R97, R99). -/
def State.sendWindow (s : State) : Nat × Nat :=
  if s.lowMode then
    let tick := s.el - s.time.xkPhase / 32768
    if s.time.stepped.any (fun x => decide (tick ≤ x.1)) then (1, 0)
    else (fracToNs (top80 (s.time.keep - BitVec.ofInt 104 s.tickStep)).toNat + 1, s.nowNs)
  else (s.nowNs + 1999, s.nowNs + 2001)

/-- The words of a tile's pending set or of its committed set, R124. -/
def State.setWord (s : State) (new : Bool) : Nat → Word := if new then s.pword else s.cword

/-- The scheduled instant of an entry that a send now serves, and whether it belongs to the pending set: from the switching
boundary on the pending set governs (R124, R127). No entry is sent twice for one instant of an epoch. -/
def State.dueAt (s : State) (t e : Nat) : Option (Nat × Bool) :=
  let x := s.tile t
  let w := s.sendWindow
  let lo := match Tab.find x.sent e with
    | some (ep, i) => if ep = s.epoch then max w.1 (i + 1) else w.1
    | none => w.1
  let new (b : BitVec 80) : Option (Nat × Bool) :=
    match dueIn s.pword t e lo w.2 with
    | some i => if b ≤ nsInstant i ∧ s.pfld (TILE_CFG.addr t) TILE_CFG.RUN = 1 then some (i, true) else none
    | none => none
  match x.pending, (if x.running then dueIn s.cword t e lo w.2 else none) with
  | none, a => a.map (fun i => (i, false))
  | some b, none => new b
  | some b, some i => if nsInstant i < b then some (i, false) else new b

/-! ## Steps, R97 and R98 -/

/-- The acquisitions of an entry of a running tile that a forward step from now to after_ passes over: their instants (R97), or
their send instants, lead before them (R569, log entry 87). -/
def passedOver (g : Nat × Nat) (now after_ lead : Nat) : Nat :=
  if now + lead ≤ after_ then gridCount g now (after_ + lead)
  else gridCount g now after_ + gridCount g (now + lead) (after_ + lead)

/-- A tile at a step of local time from now to after_: what a forward step passes over is not made (R97, R98), and a
pending set waits for the first boundary of the stepped grid (R124). -/
def State.tileStep (s : State) (t now after_ up lead : Nat) : State :=
  let s :=
    if (s.tile t).running ∧ s.boundPort t ≠ 63 ∧ now < after_ then
      (List.range 64).foldl (fun s e =>
        let n := if s.cfld (TILE_SCHA.addr t e) TILE_SCHA.EN = 1 then
            passedOver (entryGrid s.cword t e) now after_ lead else 0
        if n = 0 then s else s.missedIn s.cword t ((s.cword (TILE_SCHB.addr t e)).extractLsb' 0 16) n) s
    else s
  match (s.tile t).pending with
  | some b =>
    if b ≤ s.now then s
    else
      let p := periodOf (s.pword (TILE_PERIOD.addr t))
      s.setTile t { s.tile t with pending := some (nsInstant (ceilDiv (up + ((s.tile t).goEl + 2000 - s.el)) p * p)) }
  | none => s

/-- An acquisition at its port at a step from now to after_: one whose instant is passed over, or comes so long after a backward
step that it is sent again, is taken out (R97); another keeps its local instant. -/
def sentStep (now after_ lead : Nat) (x : Sent) : Option Sent :=
  if x.due ≤ now then some x
  else if now < after_ then
    if x.due ≤ after_ then none else some { x with opens := x.opens - (after_ - now) }
  else if after_ + lead ≤ x.due + 1 then none
  else some { x with opens := x.opens + (now - after_) }

/-- The tiles and their ports at a step of local time by d FRAC units, R97. -/
def State.gridStep (s : State) (d : Int) : State :=
  let t' := s.now + BitVec.ofInt 80 d
  let lead := if s.lowMode then 0 else 2000
  let s := s.tiles.foldl (fun u x => u.tileStep x.1 s.nowNs (fracToNs t'.toNat) (nsUp t') lead) s
  s.portQ.foldl (fun u q =>
    u.setPortWait q.1 (q.2.filterMap (fun x => (sentStep s.nowNs (fracToNs t'.toNat) lead x.2).map (fun y => (x.1, y))))) s

end Sys2Proof.Machine
end

