-- ==== Sys2Proof/Machine/TimeOps.lean ====
section
/-! DEFINITION. The operations of the TB and of Float, R40 to R86: measurements, claims, steps, captures. -/

namespace Sys2Proof.Machine

/-! ## Sources, R67 -/

/-- The time-out of a continuous source in ns, R67. -/
def sourceTimeout : TimeSource → Nat
  | .pps => 2500000000
  | .gang => 1000000000
  | .scrim => 600000000000
/-- The key of a source, which is its code in TB_STATUS.SRC, R77. -/
def sourceCode : TimeSource → Nat
  | .pps => 1 | .gang => 2 | .scrim => 3
/-- The bit of a source in TB_CTL.SRCEN, R76. -/
def sourceBit : TimeSource → Nat
  | .pps => 0 | .gang => 1 | .scrim => 2

/-- Whether this package is a gang follower, which uses GANG alone, R67: the gang has a lead (R481, R482), and this package
does not lead. -/
def State.gangFollower (s : State) : Bool :=
  s.fld FLX_STATUS.addr FLX_STATUS.VER ≠ 0 && s.fld FLX_STATUS.addr FLX_STATUS.LEAD = 0

/-- Whether a source is enabled and has not timed out, R67. -/
def State.sourceLive (s : State) (c : TimeSource) : Bool :=
  s.fld TB_CTL.addr TB_CTL.FLOATEN = 1 && (s.reg TB_CTL.addr).getLsbD (sourceBit c) &&
    (c = .gang || !s.gangFollower) &&
    (match Tab.find s.time.accepted (sourceCode c) with
     | some t => s.el ≤ t + sourceTimeout c
     | none => false)

/-- The source with the lowest U_src among the live ones, ties ranked PPS, GANG, SCRIM, R67. -/
def State.bestSource (s : State) : Option TimeSource :=
  [TimeSource.pps, .gang, .scrim].foldl (fun b c =>
    if s.sourceLive c then
      match b with
      | none => some c
      | some d => if Tab.get 0 s.time.usrcSq (sourceCode c) < Tab.get 0 s.time.usrcSq (sourceCode d) then some c else some d
    else b) none

/-- Float selects its source, R67: another only below 0.7 of the selected one's U_src, or when that one is gone; with
none left, ACQUIRE and LOCKED become HOLDOVER (R66). -/
def State.selectSource (s : State) : State :=
  let t := s.time
  match t.selected, s.bestSource with
  | some c, some b =>
    if s.sourceLive c then
      if 100 * Tab.get 0 t.usrcSq (sourceCode b) < 49 * Tab.get 0 t.usrcSq (sourceCode c) then
        s.setTime { t with selected := some b, good := 0, outliers := 0 } else s
    else s.setTime { t with selected := some b, good := 0, outliers := 0 }
  | none, some b => s.setTime { t with selected := some b, hostSel := false, good := 0, outliers := 0 }
  | _, none =>
    let u := s.setTime { t with selected := none, good := 0, outliers := 0 }
    if t.state = .acquire ∨ t.state = .locked then u.enterHoldover else u

/-! ## Steps and measurements -/

/-- The limit of the rate correction, ±600 ppm in 2^-32, R44. -/
def rateLimit : Int := 2576980

/-- A step by d FRAC units, R48; the tiles' grids follow local time, R97. -/
def State.stepTime (s : State) (d : Int) : State :=
  let s := s.gridStep d
  let t := s.time
  let add := BitVec.ofInt 104 (d * 2 ^ 24)
  let s := s.setTime { t with acc := t.acc + add, keep := t.keep + add, slewLeft := 0
                              stepped := ((s.el, d) :: t.stepped).take 64 }
  let s := s.setFld TB_STATUS.addr TB_STATUS.EPOCH (s.epoch + 1)
  let s := s.setFld TB_STATUS.addr TB_STATUS.STEPPED 1
  s.raiseFault 4 0x0010 0x1800 (wrap 32 (satI 32 (d * 1000000000 / 2 ^ 40)))

/-- U_0 fixed at a measurement, R61, with t_0 now and the rate terms starting again. -/
def State.fixU0 (s : State) (sq : Nat) : State :=
  s.markU { s.time with u0sq := sq, t0 := s.now, t0El := s.el, rateSum := 0 }

/-- |d| FRAC units in ps. -/
def fracPs (d : Int) : Nat := d.natAbs * 10 ^ 12 / 2 ^ 40

/-- TB_LOOP.TC as it acts, R80: 11 to 15 act as 10. -/
def State.loopTc (s : State) : Nat := min 10 (s.cfld TB_LOOP.addr TB_LOOP.TC)

/-- The loop's new frequency after a measurement: a free value within ±600 ppm for its time constant of 2^TC s, since the
spec gives the loop's order and damping and no gains (log entry 17). -/
def State.loopRate (s : State) : Int :=
  (Config.loopRate (2 ^ s.loopTc) s.free % (2 * rateLimit.toNat + 1) : Nat) - rateLimit

/-- A measurement applied to the loop, R72: a step above TB_STEPTHR.THR, else slewing; the loop takes its new frequency. U_0
is √(U_src² + U_loop²), with U_loop the rms of the last 64 residuals (R61); a phase error that a step removes is no residual of
the loop (log entry 17). -/
def State.applyMeasure (s : State) (d : Int) (usrcSq : Nat) : State :=
  let thr := max 1000 (s.cfld TB_STEPTHR.addr TB_STEPTHR.THR)
  let steps := thr * 1000 < fracPs d
  let res := if steps then s.time.residuals else (fracPs d :: s.time.residuals).take 64
  let s := if steps then s.stepTime d else s.setTime { s.time with slewLeft := d * 2 ^ 24 }
  let s := (s.drawn).setTime { s.time with residuals := res, rateCorr := s.loopRate }
  s.fixU0 (usrcSq + ceilDiv (res.foldl (fun a r => a + r * r) 0) res.length)

/-- 3 × √(U_clk² + U_src²) exceeded by |d|; never while Float is UNSET, whose U_clk is unbounded (R43). -/
def State.beyond3 (s : State) (d : Int) (usrcSq : Nat) : Bool :=
  s.time.state ≠ .unset && decide (9 * (s.uclkSq + usrcSq) < fracPs d * fracPs d)

/-- The shadowed TB fields take effect at a measurement after their commit, R78 and R80. -/
def State.measureCommit (s : State) : State :=
  if s.time.commitPending then
    (s.takeEffect 0x40001020 0x40001044).setTime { s.time with commitPending := false }
  else s

/-- A measurement of a continuous source, R66 and R67; true where it is applied. -/
def State.measure (s : State) (c : TimeSource) (d : Int) (usrcSq : Nat) : State × Bool :=
  if s.fld TB_CTL.addr TB_CTL.FLOATEN = 0 ∨ !(s.reg TB_CTL.addr).getLsbD (sourceBit c) then (s, false)
  else
    let s := s.measureCommit
    let s := s.setTime { s.time with accepted := Tab.put s.time.accepted (sourceCode c) s.el,
                                     usrcSq := Tab.put s.time.usrcSq (sourceCode c) usrcSq }
    let s := s.selectSource
    if s.time.selected ≠ some c then (s, false)
    else
      let out := s.beyond3 d usrcSq
      let st0 := s.time.state
      let s := if st0 = .unset ∨ st0 = .holdover then
          s.setTime { s.time with state := .acquire, good := 0, outliers := 0, hostSel := false } else s
      if out then
        let n := s.time.outliers + 1
        if s.time.state = .locked ∧ 4 ≤ n then
          (s.setTime { s.time with state := .acquire, outliers := 0, good := 0 }, false)
        else (s.setTime { s.time with outliers := n, good := 0 }, false)
      else
        let s := s.applyMeasure d usrcSq
        let good := s.time.good + 1
        let need := s.cfld TB_LOOP.addr TB_LOOP.LOCKN * 4 + 4
        let st := if s.time.state = .acquire ∧ need ≤ good then FloatState.locked else s.time.state
        ((s.setTime { s.time with good, outliers := 0, state := st, established := true }).saveModel, true)

/-- A host claim judged by the first row of R71 that applies; the result is TB_XK3.RESULT and the status the reply to
TIME_SET. -/
def State.judgeClaim (s : State) (d : Int) (usrcSq : Nat) (force expired : Bool) : State × Nat × Nat :=
  if s.fld TB_CTL.addr TB_CTL.FLOATEN = 0 then (s, 2, 0x10)
  else if !(s.reg TB_CTL.addr).getLsbD 3 then (s, 2, 0x10)
  else if expired then (s, 2, 0x01)
  else
    let s := s.measureCommit
    if s.time.state = .unset then
      let s := ((s.stepTime d).fixU0 usrcSq).enterHoldover
      ((s.setTime { s.time with hostSel := true, established := true }).saveModel, 1, 0)
    else if s.beyond3 d usrcSq then
      if force then
        let s := ((s.stepTime d).fixU0 usrcSq).enterHoldover
        ((s.setTime { s.time with selected := none, hostSel := true }).saveModel, 1, 0)
      else
        ((s.setFld TB_STATUS.addr TB_STATUS.CONFLICT 1).raiseFault 4 0x0011 0x1800
          (min 0xFFFFFFFF (d.natAbs * 1000000000 / 2 ^ 40)), 3, 0x22)
    else if usrcSq < s.uclkSq then
      let s := s.applyMeasure d usrcSq
      let s := if s.time.selected = none then
          s.enterHoldover.setTime { s.enterHoldover.time with hostSel := true } else s
      (s.saveModel, 1, 0)
    else (s, 2, 0)

/-- TB_STATUS.STATE, R66. -/
def floatCode : FloatState → Nat
  | .unset => 0 | .acquire => 1 | .locked => 2 | .holdover => 3
/-- TB_STATUS.SRC, R77. -/
def State.sourceShown (s : State) : Nat :=
  match s.time.selected with
  | some c => sourceCode c
  | none => if s.time.hostSel then 4 else 0

/-- The reply to a TIME_SET, R345: result, state, source and the GTS that Float holds. -/
def State.claimReply (s : State) (port : Nat) (c : Claim) (result status : Nat) : State :=
  let fields := leBytes 1 result ++ leBytes 1 (floatCode s.time.state) ++ leBytes 1 s.sourceShown ++ [0] ++
    gtsBytes (s.stamp 0)
  s.reply port { seq := c.seq, op := c.op, lens := [], payload := [] } status fields

/-- Topcoat submits a host claim through TB_XK0 to TB_XK3, R71 and R73, and takes its result at once: a submission that still
waits in that bank is replaced. U_src passes through the bank as R42 encodes it. -/
def State.submitClaim (s : State) (d : Int) (usrcSq : Nat) (force : Bool) : State × Nat × Nat :=
  let n := wrap 80 d
  let u := encodeUnc usrcSq
  let s := (s.setReg TB_XK0.addr (Word.ofNat n)).setReg TB_XK1.addr (Word.ofNat (n / 2 ^ 32))
  let s := (s.setReg TB_XK2.addr (Word.ofNat (n / 2 ^ 64))).setReg TB_XK3.addr
    (pack [(TB_XK3.FORCE, b2n force), (TB_XK3.SRC, 4), (TB_XK3.UNC, u.toNat)])
  let s := s.setTime { s.time with subs := Tab.del s.time.subs 0 }
  let r := s.judgeClaim d (uncSq u) force false
  (r.1.setFld TB_XK3.addr TB_XK3.RESULT r.2.1, r.2)

/-- The waiting claims that an edge serves, R70: of the given kind, the edge at least 1 ms and at most 2 s after the claim
came, judged in port order with the difference to the edge's time at_ and answered; edge is the instant at which it came. -/
def State.serveClaims (s : State) (kind : ClaimKind) (edge at_ : BitVec 80) (pathSq : Nat) : State :=
  let e := s.elOf edge
  (List.range 4).foldl (fun s n =>
    match Tab.find s.time.claims n with
    | none => s
    | some c =>
      if c.kind = kind ∧ c.since + 1000000 ≤ e ∧ e ≤ c.since + 2000000000 then
        let d := ((c.time - at_).toInt)
        let r := s.submitClaim d (uncSq c.unc + pathSq) c.force
        (r.1.setTime { r.1.time with claims := Tab.del r.1.time.claims n }).claimReply n c r.2.1 r.2.2
      else s) s

/-- A submission that Float takes, R66, R71 and R73: SRC 4 is a host claim, 2 and 3 are GANG and SCRIM measurements, other
values are not used. -/
def State.serveSub (s : State) (k : Nat) : State :=
  match Tab.find s.time.subs k with
  | none => s
  | some x =>
    let s := s.setTime { s.time with subs := Tab.del s.time.subs k }
    let r : State × Nat :=
      if x.src = 4 then
        let r := s.judgeClaim x.d x.usq x.force false
        (r.1, r.2.1)
      else if x.src = 2 then let r := s.measure .gang x.d x.usq; (r.1, if r.2 then 1 else 2)
      else if x.src = 3 then let r := s.measure .scrim x.d x.usq; (r.1, if r.2 then 1 else 2)
      else (s, 2)
    r.1.setFld (if k = 0 then TB_XK3.addr else TB_XL3.addr) TB_XK3.RESULT r.2

/-! ## The rate applied, R44 and R72 -/

/-- The nominal step of a tick, R44. -/
def nominalStep : Int := 0x44B82FA0A
/-- What the frequency correction adds to a tick, in 2^-64 s. -/
def State.freqPart (s : State) : Int := nominalStep * s.time.rateCorr / 2 ^ 32
/-- What the correction adds to a tick, R44: frequency and slew, limited to ±600 ppm; the slew is limited by MAXPPM (R72). -/
def State.correction (s : State) : Int :=
  let ppm : Int := max 1 (min 500 (s.cfld TB_SLEW.addr TB_SLEW.MAXPPM))
  let most : Int := nominalStep * ppm / 1000000
  let slew : Int := max (-most) (min most s.time.slewLeft)
  let cap : Int := nominalStep * 600 / 1000000
  max (-cap) (min cap (s.freqPart + slew))

/-! ## PPS, R69 -/

/-- The key under which the GTS of the last accepted PPS edge is kept, R79. -/
def ppsCapKey : Nat := 2 * 2 ^ 32 + 0x40001044

/-- Float takes an edge that disciplines frequency only, R69: the loop has a new frequency where PPS is the selected source. -/
def State.disciplineRate (s : State) : State :=
  if s.fld TB_CTL.addr TB_CTL.FLOATEN = 1 ∧ s.time.selected = some .pps then
    s.drawn.setTime { s.time with rateCorr := s.loopRate }
  else s

/-- R69: an edge on TB_PPSCFG.EDGE with its capture is accepted 999,900,000 to 1,000,100,000 ns after the previous accepted one,
or without the test after 2.5 s without one; an accepted edge within 250 ms is labelled and measured, another disciplines
frequency, and it serves the claims for the next PPS (R70). A committed set takes effect with the edge (log entry 86). -/
def State.ppsOffered (s : State) (rise : Bool) (g : Gts) : State :=
  let s := s.setTime { s.time with ppsLevel := rise }
  let s := if s.cfld TB_PPSCFG.addr TB_PPSCFG.EN = 1 ∨ s.pfld TB_PPSCFG.addr TB_PPSCFG.EN = 1 then s.measureCommit else s
  if s.cfld TB_PPSCFG.addr TB_PPSCFG.EN = 0 ∨ (s.cfld TB_PPSCFG.addr TB_PPSCFG.EDGE = 1) = rise then s
  else
    let t := g.t
    let e := s.elOf t
    let fresh := s.time.ppsSeen.all (fun p => p + 2500000000 ≤ e)
    let gap := match s.time.ppsLast with
      | some l => fracToNs (t - l).toNat
      | none => 0
    if !fresh ∧ (gap < 999900000 ∨ 1000100000 < gap) then s.bump TB_PPSCNT.addr TB_PPSCNT.REJ 1
    else
      let s := s.bump TB_PPSCNT.addr TB_PPSCNT.ACC 1
      let s := s.setTime { s.time with ppsLast := some t, ppsSeen := some e }
      let s := { s with snaps := Tab.put s.snaps ppsCapKey (gtsWords g) }
      let usrc := (s.cfld TB_PPSCFG.addr TB_PPSCFG.RECVUNC * 1000) ^ 2 + pathFine
      let delay := signed 12 (s.cfld TB_PPSCFG.addr TB_PPSCFG.DELAY) * 2 ^ 40 / 1000000000
      let m : Int := (t.toNat : Int) - delay
      let d : Int := (m + 2 ^ 39) / 2 ^ 40 * 2 ^ 40 - m
      let s := if !fresh ∧ s.time.state ≠ .unset ∧ s.uclkSq < (250 * 10 ^ 9) ^ 2 then (s.measure .pps d usrc).1
        else
          let s := (s.setTime { s.time with accepted := Tab.put s.time.accepted 1 s.el,
                                            usrcSq := Tab.put s.time.usrcSq 1 usrc }).selectSource
          if fresh then s else s.disciplineRate
      s.serveClaims .nextPps t (BitVec.ofInt 80 m) pathFine

/-! ## Captures -/

/-- The lowest-numbered enabled fine-interpolator engine that names a pin, R51. -/
def State.fiOwner (s : State) (pin : Nat) : Option Nat :=
  (List.range 16).find? (fun n =>
    s.fld (TB_FICTL.addr n) TB_FICTL.EN = 1 && s.fld (TB_FICTL.addr n) TB_FICTL.PIN = pin)

/-- The instant of an edge in a 125 ps bin of this nanosecond, in bins. -/
def State.binAt (s : State) (bin : Nat) : Nat := 8 * s.el + bin

/-- The engine that captures an edge in a bin, R49, R51 and R86: it owns the pin, its EDGE selects the edge, 8 ns or more have
passed since its last capture, and the 1 GHz counter runs. -/
def State.fiServes (s : State) (pin : Nat) (rise : Bool) (bin : Nat) : Option Nat :=
  if s.lowMode ∨ s.time.keepCarries then none
  else match s.fiOwner pin with
    | none => none
    | some n =>
      if edgeSelected (s.fld (TB_FICTL.addr n) TB_FICTL.EDGE) rise ∧
          ((Tab.find s.time.fiLast n).all (fun t => t + 64 ≤ s.binAt bin)) then some n
      else none

/-- The level of an EIO pin after an edge. -/
def State.setPin (s : State) (pin : Nat) (rise : Bool) : State :=
  let l := s.time.eioLevel
  let bit := BitVec.ofNat 48 (2 ^ pin)
  s.setTime { s.time with eioLevel := if rise then l ||| bit else l &&& ~~~bit }

/-- The key under which the latest capture of an EIO pin is kept. -/
def captureKey (pin : Nat) : Nat := 3 * 2 ^ 32 + pin

/-- A capture of a pin: kept as its latest one, offered to claims. -/
def State.captured (s : State) (pin : Nat) (g : Gts) (pathSq : Nat) : State :=
  { s with snaps := Tab.put s.snaps (captureKey pin) (gtsWords g) }.serveClaims (.edge pin) g.t g.t pathSq

/-- A captured edge: kept as the pin's latest capture, counted by the timers that it clocks (R409), sent to the slices that
watch the pin, offered to claims. -/
def State.edgeCaptured (s : State) (pin : Nat) (rise : Bool) (slices capture : Gts) (pathSq : Nat) : State :=
  let s := (s.setPin pin rise).extEdge pin rise
  let s := { s with snaps := Tab.put s.snaps (captureKey pin) (gtsWords capture) }
  (s.edgeToSlices pin rise (s.carrying slices)).serveClaims (.edge pin) capture.t capture.t pathSq

/-- A time rounded to the nearest FRAC unit, R53. -/
def nearest80 (x : BitVec 104) : BitVec 80 := top80 (x + 0x800000)

/-- The time that a capture took ps after the beginning of this nanosecond, R53. -/
def State.captureAt (s : State) (ps : Nat) : BitVec 80 :=
  nearest80 (s.clock + BitVec.ofNat 104 (ps * 2 ^ 64 / 10 ^ 12))

/-- The midpoint of the crystal tick period under way, R56: half of 2^-15 s after the latest tick. -/
def State.midTick (s : State) : BitVec 80 := nearest80 (s.time.keep + 0x1000000000000)

/-- Whether a crystal tick fell in the nanosecond that has just passed. -/
def State.atTick (s : State) : Bool := s.time.xkPhase < 32768

/-- The time since the latest crystal tick, in 2^-64 s: the crystal's phase goes 32768 on each nanosecond. -/
def State.sinceTick (s : State) : BitVec 104 := BitVec.ofNat 104 (0x44B82FA0A * s.time.xkPhase / 32768)

/-! ## Gated rings, R55 -/

/-- Gated ring r. -/
def State.gring (s : State) (r : Nat) : Ring := Tab.get Ring.reset s.time.rings r
/-- The state with gated ring r replaced. -/
def State.setGring (s : State) (r : Nat) (x : Ring) : State := s.setTime { s.time with rings := Tab.put s.time.rings r x }


end Sys2Proof.Machine
end

