-- ==== Sys2Proof/Machine/Pipeline.lean ====
section
/-! DEFINITION. The filter pipeline of a lane, the integrity checker and the motion-bias tracker, R103 to R123. -/

namespace Sys2Proof.Machine

/-- The code at a byte offset of the acquired bytes, by FORMAT, R103; bytes beyond those acquired read 0. -/
def fieldCode (fmt : Nat) (b : List Byte) (o : Nat) : Int :=
  let at_ (k : Nat) : Nat := (b.getD (o + k) 0).toNat
  match fmt with
  | 1 => signed 8 (at_ 0)
  | 2 => (at_ 0 + 256 * at_ 1 : Nat)
  | 3 => signed 16 (at_ 0 + 256 * at_ 1)
  | 4 => (at_ 1 + 256 * at_ 0 : Nat)
  | 5 => signed 16 (at_ 1 + 256 * at_ 0)
  | 6 => signed 24 (at_ 0 + 256 * at_ 1 + 65536 * at_ 2)
  | 7 => signed 24 (at_ 2 + 256 * at_ 1 + 65536 * at_ 0)
  | 8 => signed 12 ((at_ 1 + 256 * at_ 0) / 16)
  | 9 => signed 12 ((at_ 0 + 256 * at_ 1) / 16)
  | _ => (at_ 0 : Nat)

/-- A list with a number inserted in ascending order. -/
def insertInt (x : Int) : List Int → List Int
  | [] => [x]
  | y :: r => if x ≤ y then x :: y :: r else y :: insertInt x r

/-- The median of an odd number of values. -/
def median (l : List Int) : Int := (l.foldl (fun a x => insertInt x a) []).getD (l.length / 2) 0

/-- The window length that DESPIKE selects, R133. -/
def despikeLen (d : Nat) : Nat := if d = 1 then 3 else if d = 2 then 5 else 1

/-- Despike, R104: the window, filled with the first input after a reset, and its median. -/
def despike (d : Nat) (w : List Int) (x : Int) : List Int × Int :=
  let n := despikeLen d
  let w' := if w.isEmpty then List.replicate n x else (x :: w).take n
  (w', median w')

/-- A cascade of running sums, the first fed by x, R105. -/
def integrate (x : Int) : List Int → List Int
  | [] => []
  | i :: r => (i + x) :: integrate (i + x) r

/-- A cascade of differences: the output and the values kept, R105. -/
def combs (x : Int) : List Int → Int × List Int
  | [] => (x, [])
  | c :: r => let y := combs (x - c) r
              (y.1, x :: y.2)

/-- One despike output enters the CIC decimator of order n and ratio d, R105; a value comes out with every d-th. The
sums are exact over the differences from the first value, which has "always been present". -/
def cicStep (n d : Nat) (l : Lane) (x : Int) : Lane × Option Int :=
  let l := if l.integ.isEmpty then
      { l with base := x, integ := List.replicate n 0, comb := List.replicate n 0, phase := 0 } else l
  let i := integrate (x - l.base) l.integ
  if l.phase + 1 < d then ({ l with integ := i, phase := l.phase + 1 }, none)
  else
    let c := combs (i.getLastD 0) l.comb
    let y := roundDiv (l.base * (d ^ n : Nat) + c.1) (d ^ n)
    ({ l with integ := i, comb := c.2, phase := 0 }, some y)

/-- The five coefficients of a running biquad, Q2.30: b0, b1, b2, a1, a2. -/
structure Coef where
  b0 : Int
  b1 : Int
  b2 : Int
  a1 : Int
  a2 : Int
  deriving DecidableEq, Repr

/-- The Feather coefficients of biquad A or B for FSEL, R108: a fourth-order Bessel low-pass with −3 dB at
f_r × 2^−(3 + FSEL), bilinear with prewarping, the lower Q in A, rounded to Q2.30, b1 set for a gain of exactly 1. They
depend on FSEL alone. -/
def feather (fsel : Nat) (second : Bool) : Coef :=
  match fsel, second with
  | 0, false => ⟨151577598, 303155195, 151577598, -560698333, 93266900⟩
  | 0, true => ⟨209044844, 418089688, 209044844, -529804986, 292242538⟩
  | 1, false => ⟨53442386, 106884771, 53442386, -1213851133, 353878852⟩
  | 1, true => ⟨72925370, 145850739, 72925370, -1288067269, 506026924⟩
  | 2, false => ⟨16518741, 33037482, 16518741, -1632038342, 624371482⟩
  | 2, true => ⟨21930567, 43861135, 21930567, -1714963190, 728943635⟩
  | _, false => ⟨4651364, 9302729, 4651364, -1875197622, 820061255⟩
  | _, true => ⟨6034404, 12068807, 6034404, -1933137988, 883533779⟩

/-- One biquad step, R106: direct form I with a saturating 64-bit accumulator, the result rounded and saturated to 32
bits; with it the new history and whether anything saturated (R107). -/
def biquadStep (c : Coef) (h : Biquad) (x : Int) : Biquad × Int × Bool :=
  let add (a : Int × Bool) (p : Int) : Int × Bool :=
    let s := a.1 + p
    (satI 64 s, a.2 || satI 64 s ≠ s)
  let a := add (add (add (add (add (0, false) (c.b0 * x)) (c.b1 * h.x1)) (c.b2 * h.x2)) (-(c.a1 * h.y1))) (-(c.a2 * h.y2))
  let y := roundDiv a.1 (2 ^ 30)
  let y' := satI 32 y
  ({ x1 := x, x2 := h.x1, y1 := y', y2 := h.y1 }, y', a.2 || y' ≠ y)

/-- The committed coefficients of a lane's biquad, R133. -/
def State.coef (s : State) (t l : Nat) (second : Bool) : Coef :=
  let o := if second then 5 else 0
  let w (j : Nat) : Int := signed 32 (s.cword (TILE_LCOEF.addr t l (o + j))).toNat
  ⟨w 0, w 1, w 2, w 3, w 4⟩

/-- A biquad that runs or is bypassed; its history starts filled with the first value that reaches it, R106. -/
def biquad (c : Option Coef) (h : Option Biquad) (x : Int) : Option Biquad × Int × Bool :=
  match c with
  | none => (h, x, false)
  | some c =>
    let r := biquadStep c (h.getD ⟨x, x, x, x⟩) x
    (some r.1, r.2.1, r.2.2)

/-! ## The tracker, R120 to R123 -/

/-- The determinant of the 3 × 3 matrix in row order. -/
def det3 (m : List Int) : Int :=
  let g (k : Nat) : Int := m.getD k 0
  g 0 * (g 4 * g 8 - g 5 * g 7) - g 1 * (g 3 * g 8 - g 5 * g 6) + g 2 * (g 3 * g 7 - g 4 * g 6)

/-- The adjugate of a symmetric 3 × 3 matrix applied to a vector. -/
def adjMul (m v : List Int) : List Int :=
  let g (k : Nat) : Int := m.getD k 0
  let x := v.getD 0 0
  let y := v.getD 1 0
  let z := v.getD 2 0
  [ (g 4 * g 8 - g 5 * g 7) * x + (g 2 * g 7 - g 1 * g 8) * y + (g 1 * g 5 - g 2 * g 4) * z,
    (g 5 * g 6 - g 3 * g 8) * x + (g 0 * g 8 - g 2 * g 6) * y + (g 2 * g 3 - g 0 * g 5) * z,
    (g 3 * g 7 - g 4 * g 6) * x + (g 1 * g 6 - g 0 * g 7) * y + (g 0 * g 4 - g 1 * g 3) * z ]

/-- Whether a symmetric 3 × 3 matrix has no negative eigenvalue: every principal minor is 0 or more. -/
def psd3 (m : List Int) : Bool :=
  let g (k : Nat) : Int := m.getD k 0
  0 ≤ g 0 && 0 ≤ g 4 && 0 ≤ g 8 && 0 ≤ g 0 * g 4 - g 1 * g 3 && 0 ≤ g 0 * g 8 - g 2 * g 6 &&
    0 ≤ g 4 * g 8 - g 5 * g 7 && 0 ≤ det3 m

/-- CONF of R122: the largest n up to 255 for which 8192 × 2^−TAU × J − n has no negative eigenvalue. -/
def confidence (tau : Nat) (j : List Int) : Nat :=
  (List.range 256).foldl (fun (c n : Nat) =>
    let d : Int := (n : Int) * 2 ^ (32 + tau)
    let m := (List.range 9).map (fun k => 8192 * j.getD k 0 - (if k % 4 = 0 then d else 0))
    if psd3 m then max c n else c) 0

/-- A triad sample, R120 to R122: none where it is rejected. The tracker computes in fixed point, b̂ in 2^-16 and J in
2^-32, rounded down (log entry 18). -/
def trackStep (g tau : Nat) (k : Tracker) (a : List Int) : Option Tracker :=
  let w := (List.range 3).map (fun i => a.getD i 0 * 65536 - k.b.getD i 0)
  let n : Int := (isqrt ((w.foldl (fun t x => t + x * x) 0).toNat) : Nat)
  let e : Int := n - (g : Int) * 65536
  if n = 0 ∨ (g : Int) * 65536 < (e.natAbs : Int) * 8 then none
  else
    let u := w.map (fun x => x * 2 ^ 30 / n)
    let j := (List.range 9).map (fun i =>
      let x := k.j.getD i 0
      x - x / 2 ^ tau + u.getD (i / 3) 0 * u.getD (i % 3) 0 / 2 ^ 28)
    let d := det3 j
    let step := adjMul j u
    let b := (List.range 3).map (fun i => k.b.getD i 0 + (if d = 0 then 0 else step.getD i 0 * e * 4 / d))
    some { k with b, j, conf := confidence tau j }

/-! ## The integrity checker, R113 to R118 -/

/-- Bits of FLAGS, R101. -/
def fOW : Nat := 1
/-- ST. -/
def fST : Nat := 2
/-- RG. -/
def fRG : Nat := 4
/-- AG. -/
def fAG : Nat := 8
/-- TQ. -/
def fTQ : Nat := 16
/-- RGHI. -/
def fRGHI : Nat := 32
/-- SAT. -/
def fSAT : Nat := 64
/-- MISS. -/
def fMISS : Nat := 128
/-- STEP. -/
def fSTEP : Nat := 256
/-- WARM. -/
def fWARM : Nat := 512
/-- BIASU. -/
def fBIASU : Nat := 1024

/-- The run of R115 with a record's VALUE, and whether the record carries ST; an STN of 1 acts as 2. While STN
is 0 the run stays as it is (log entry 87). -/
def stuck (stn delta : Nat) (run : Option (Int × Nat)) (v : Int) : Option (Int × Nat) × Bool :=
  if stn = 0 then (run, false)
  else
    let r := match run with
      | some (f, n) => if delta < (v - f).natAbs then (v, 1) else (f, n + 1)
      | none => (v, 1)
    (some r, max 2 stn ≤ r.2)

/-- F and B of R116 with a clean record's VALUE: 16 fraction bits, each step shifted right arithmetically. -/
def drift (ags agf : Nat) (fb : Option (Int × Int)) (v : Int) : Int × Int :=
  match fb with
  | none => (v * 65536, v * 65536)
  | some (f, b) => (f + (v * 65536 - f) / 2 ^ agf, b + (v * 65536 - b) / 2 ^ ags)

end Sys2Proof.Machine
end

