-- ==== Sys2Proof/Machine/Tile.lean ====
section
/-! DEFINITION. The commands of the sampling tiles, R87 to R136, and the record path into slice, FIFO and ring. -/

namespace Sys2Proof.Machine


/-- A tile acquires while its domain is powered and its island clock runs, or as the WATCH or a SKIM tile, R427 to R429
and R539. -/
def State.tileActive (s : State) (t : Nat) : Bool :=
  s.islandUp 1 t &&
    (s.works (0x0200 + t) || (s.mode = 2 && s.watchTile = t) || (s.mode = 3 && s.skimTiles.any (fun k => k = t)))

/-! ## Acquisitions, R89 to R99 and R569 -/

/-- An acquisition in a port's queue, in the order of the instants; those of one instant by entry number, R95. -/
def insertSent (t : Nat) (x : Sent) : List (Nat × Sent) → List (Nat × Sent)
  | [] => [(t, x)]
  | y :: r =>
    if (if x.due = y.2.due ∧ x.at_ = y.2.at_ then x.entry < y.2.entry else x.opens < y.2.opens) then (t, x) :: y :: r
    else y :: insertSent t x r

/-- A command for an SNS port reaches the sense block, which sends its CMD frame; the first asks for training, R224 and
R227. -/
def State.snsCommand (s : State) (port cmd : Nat) : State :=
  let x := s.sense
  { s with sense := { x with
      wanted := true
      toDie := if x.trained && !x.down then x.toDie ++ [{ data := .cmd port cmd }] else x.toDie } }

/-- R569: at its send instant a running tile sends the entry's acquisition to its port (an SNS port's command to the
sense block), or it is not made. An unbound tile makes none (R136). -/
def acquisitionSend (t : Fin 32) (e : Fin 64) (can : Bool) (s : State) : State :=
  match s.dueAt t e with
  | none => s
  | some (ns, new) =>
    let word := s.setWord new
    let b := word (TILE_SCHB.addr t e)
    let lanes := b.extractLsb' 0 16
    let port := portOf (word (TILE_CFG.addr t))
    let s := s.setTile t { s.tile t with sent := Tab.put (s.tile t).sent e (s.epoch, ns) }
    if !can ∨ !s.tileActive t then s.missedIn word t lanes 1
    else if port = 63 then s
    else
      let at_ := if s.lowMode then s.now else nsInstant ns
      let s := if 29 ≤ port then s.snsCommand port (fget b TILE_SCHB.CMD) else s
      s.setPortWait port (insertSent t { entry := e, cmd := fget b TILE_SCHB.CMD, lanes, at_, due := ns, opens := s.elOf at_ }
        (s.portWait port))
/-- ACQUISITION_SEND. -/
def execAcquisitionSend (t : Fin 32) (e : Fin 64) (can : Bool) (s : State) : Out := .next (acquisitionSend t e can s)

/-- A value delivered to the tile that asked for it. -/
def State.deliver (s : State) (t : Nat) (h : Held) : State :=
  s.setTile t { s.tile t with held := (s.tile t).held ++ [{ h with arrived := s.el }] }

/-- The window of a sigma-delta conversion in halves of a ns from its midpoint to either end, R91: 7812.5 ns × (TCONV + 1). -/
def sdHalf (cfg : Word) : Nat := 15625 * (fget cfg ADC_SDCFG.TCONV + 1)

/-- The window that is open on converter k keeps its setting, R93: a write of ADC_SDCFGk takes effect at the next. -/
def State.latchWindow (s : State) (k : Nat) : State :=
  match s.portWait k with
  | (t, x) :: r =>
    if x.opens ≤ s.el ∧ x.cfg.isNone then
      s.setPortWait k ((t, { x with cfg := some (s.reg (ADC_SDCFG.addr k)) }) :: r)
    else s
  | [] => s

/-- The GTS of an acquisition made at its instant, R89. -/
def State.stampSent (s : State) (x : Sent) (pathSq : Nat) : Gts := ⟨x.at_, s.uncAt x.opens pathSq⟩

/-- The instant of the model's clock at which half a window has passed. -/
def sdMidEl (x : Sent) (cfg : Word) : Nat := x.opens + (sdHalf cfg + 1) / 2

/-- The GTS of a conversion, R89: the midpoint of its window, in the local time then in force (R97). -/
def State.sdStamp (s : State) (x : Sent) (cfg : Word) : Gts :=
  let mid := sdMidEl x cfg
  let steps := s.time.stepped.filter (fun y => decide (x.opens ≤ y.1 ∧ y.1 ≤ mid))
  let shift : Int := steps.foldl (fun a y => a + y.2) ((sdHalf cfg * 2 ^ 40 + 1000000000) / 2000000000 : Nat)
  ⟨x.at_ + BitVec.ofInt 80 shift, s.uncAt mid pathAnalog⟩

/-- The copies of SD conversions that a cell-group conversion may still pair with, R240: none earlier than 100 µs before
the acquisition of every window and result that waits. -/
def State.pairable (s : State) (l : List (BitVec 80 × Int × Bool)) : List (BitVec 80 × Int × Bool) :=
  let results := s.sense.toCore.filterMap (fun f => match f.data with
    | .result r => some r.gts.t
    | _ => none)
  let oldest := ((s.sense.cellWin.map (·.gts.t)).toList ++ results).foldl (fun a t => min a t.toNat) s.now.toNat
  l.filter (fun x => decide (oldest ≤ x.1.toNat + nsToFrac 100000))

/-- R91, R92 and R240: a window closes; the code goes to the tile with the midpoint of the window as its instant, with
OW where the open-input source drives it to positive full scale; the sense block copies it where SNS_ESTCFG names it. -/
def sdConversionDone (k : Fin 8) (code : BitVec 24) (s : State) : State :=
  match s.portWait k with
  | [] => s
  | (t, x) :: r =>
    let cfg := x.cfg.getD (s.reg (ADC_SDCFG.addr k))
    let ow := fget cfg ADC_SDCFG.OWEN = 1 ∧ code = 0x7FFFFF
    let g := s.sdStamp x cfg
    let s := (s.setPortWait k r).deliver t
      { lanes := x.lanes, gts := g, epoch := s.epochAt (sdMidEl x cfg), val := .code code.toInt, ow, late := false }
    if s.cfld SNS_ESTCFG.addr SNS_ESTCFG.ISRC = k.val ∧ s.cfld SNS_ESTCFG.addr SNS_ESTCFG.ISEL = x.cmd % 2 then
      { s with sense := { s.sense with
          current := s.pairable ((g.t, code.toInt, ow || code = 0x7FFFFF || code = 0x800000) :: s.sense.current) } }
    else s
/-- SD_CONVERSION_DONE. -/
def execSdConversionDone (k : Fin 8) (code : BitVec 24) (s : State) : Out := .next (sdConversionDone k code s)

/-- R89 and R569: an AFS port holds at the scheduled instant and delivers the code. -/
def afsHold (k : Fin 4) (code : BitVec 12) (s : State) : State :=
  match s.portWait (8 + k) with
  | [] => s
  | (t, x) :: r =>
    (s.setPortWait (8 + k) r).deliver t
      { lanes := x.lanes, gts := s.stampSent x pathAnalog, epoch := s.epochAt x.opens
        val := if s.vioOk 3 then .code code.toInt else .failed
        ow := !s.vioOk 3, late := false }
/-- AFS_HOLD. -/
def execAfsHold (k : Fin 4) (code : BitVec 12) (s : State) : Out := .next (afsHold k code s)

/-- R89: an EIO group port snapshots the levels of its 16 pins at the scheduled instant. -/
def eioGroupSnapshot (g : Fin 3) (s : State) : State :=
  match s.portWait (26 + g) with
  | [] => s
  | (t, x) :: r =>
    (s.setPortWait (26 + g) r).deliver t
      { lanes := x.lanes, gts := s.stampSent x pathCoarse, epoch := s.epochAt x.opens
        val := if s.vioOk 3 then .levels (s.time.eioLevel.extractLsb' (16 * g) 16) else .failed
        ow := !s.vioOk 3, late := false }
/-- EIO_GROUP_SNAPSHOT. -/
def execEioGroupSnapshot (g : Fin 3) (s : State) : Out := .next (eioGroupSnapshot g s)

/-! ## Records -/

/-- The bytes of a lane record, R100. -/
def laneBytes (r : LaneRec) : List Byte :=
  gtsBytes r.gts ++ leBytes 4 r.value.toNat ++ leBytes 2 r.lane ++ leBytes 2 r.flags ++ leBytes 2 r.seq ++
    leBytes 1 r.epoch ++ [0]

/-- A record offered to the batch ring, R111 and R570: sent while the tile holds a credit and nothing waits, else kept
in the 64-record buffer, else not kept and counted. -/
def State.offerRing (s : State) (t : Nat) (r : LaneRec) : State :=
  let x := s.tile t
  if x.buffer.isEmpty ∧ 0 < x.credits then
    (s.setTile t { x with credits := x.credits - 1 }).sendEdge (t / 4) (1 + t % 4) 8 .data (.laneRecord t r)
  else if x.buffer.length < 64 then s.setTile t { x with buffer := x.buffer ++ [r] }
  else s.bump (TILE_STAT.addr t) TILE_STAT.DROP 1

/-- A record enters the tile FIFO, R112: a full FIFO loses its oldest record; where that record was partly read, the next
read begins with word 0 of the new oldest (log entry 87). -/
def State.offerFifo (s : State) (t : Nat) (r : LaneRec) : State :=
  let x := s.tile t
  if x.fifo.length < 32 then s.setTile t { x with fifo := x.fifo ++ [r] }
  else (s.setTile t { x with fifo := x.fifo.drop 1 ++ [r], fifoWord := 0 }).bump (TILE_FIFOSTAT.addr t) TILE_FIFOSTAT.LOST 1

/-- R37: a record is delivered to slice, FIFO and ring in one step. -/
def State.deliverRecord (s : State) (t : Nat) (r : LaneRec) : State :=
  let c := s.cword (TILE_CFG.addr t)
  let s := if fget c TILE_CFG.RECEN = 1 then s.recordToSlice r else s
  let s := if fget c TILE_CFG.FIFOEN = 1 then s.offerFifo t r else s
  if fget c TILE_CFG.RINGEN = 1 then s.offerRing t r else s

/-- The lanes of a tile's triad, R120. -/
def State.triadLanes (s : State) (t : Nat) : List Nat :=
  [s.cfld (TILE_TRKCFG.addr t) TILE_TRKCFG.LX, s.cfld (TILE_TRKCFG.addr t) TILE_TRKCFG.LY,
   s.cfld (TILE_TRKCFG.addr t) TILE_TRKCFG.LZ]

/-- A record of a triad lane reaches the tracker, R120: with the three records of one GTS it is a triad sample. The
value kept is the biquad output. -/
def State.toTracker (s : State) (t : Nat) (r : LaneRec) : State :=
  let lanes := s.triadLanes t
  if s.cfld (TILE_TRKCFG.addr t) TILE_TRKCFG.EN = 1 ∧ lanes.contains (r.lane % 16) then
    let x := s.tile t
    let same := r :: x.trk.triad.filter (fun q => q.gts = r.gts ∧ q.lane ≠ r.lane)
    if same.length < 3 then s.setTile t { x with trk := { x.trk with triad := same } }
    else
      let bad := same.any (fun q => q.flags &&& (fOW + fST + fRG + fSAT + fMISS + fWARM) ≠ 0)
      let a := lanes.map (fun l => ((same.find? (fun q => q.lane % 16 = l)).map (fun q => q.value.toInt)).getD 0)
      let tau := max 8 (min 24 (s.cfld (TILE_TRKCFG.addr t) TILE_TRKCFG.TAU))
      let k := { x.trk with triad := [] }
      match (if bad then none else trackStep (s.cfld (TILE_TRKG.addr t) TILE_TRKG.GREF) tau k a) with
      | some k' => s.setTile t { x with trk := k' }
      | none => (s.setTile t { x with trk := k }).bump (TILE_TRKST.addr t) TILE_TRKST.REJ 1
  else s

/-- A CIC output of a lane becomes a record, R106 to R118 and R123: the biquads, the tracker's correction, the flags, SEQ
and the delivery. -/
def State.makeRecord (s : State) (t l : Nat) (v : Int) (g : Gts) (epoch : Nat) : State :=
  let x := s.lane t l
  let f (a : Nat) (q : Fld) : Nat := s.cfld a q
  let mode := f (TILE_LBQC.addr t l) TILE_LBQC.BQMODE
  let fsel := f (TILE_LBQC.addr t l) TILE_LBQC.FSEL
  let ca := if mode = 0 then none else if mode = 3 then some (feather fsel false) else some (s.coef t l false)
  let cb := if mode ≤ 1 then none else if mode = 3 then some (feather fsel true) else some (s.coef t l true)
  let ra := biquad ca x.bqa v
  let rb := biquad cb x.bqb ra.2.1
  let out := rb.2.1
  let apply := f (TILE_TRKCFG.addr t) TILE_TRKCFG.APPLY = 1 ∧ (s.triadLanes t).contains l
  let axis := (s.triadLanes t).idxOf l
  let value := if apply then satI 32 (out - roundDiv ((s.tile t).trk.b.getD axis 0) 65536) else out
  let lo := signed 32 (s.cword (TILE_LRGLO.addr t l)).toNat
  let hi := signed 32 (s.cword (TILE_LRGHI.addr t l)).toNat
  let rg := value < lo ∨ hi < value ∨ x.full.isSome
  let rghi := if hi < value then true else if value < lo then false else x.full.getD false
  let st := stuck (f (TILE_LST.addr t l) TILE_LST.STN) (f (TILE_LST.addr t l) TILE_LST.STDELTA) x.run value
  let n := f (TILE_LCIC.addr t l) TILE_LCIC.ORDER + 1
  let d := f (TILE_LCIC.addr t l) TILE_LCIC.RATIO + 1
  let warm := x.warm < (if 1 < d then n else 0) + f (TILE_LTQ.addr t l) TILE_LTQ.WARMN
  let sat := ra.2.2 || rb.2.2
  let clean := !(x.ow || st.2 || decide rg || sat || x.miss || decide warm)
  let agf := f (TILE_LAG.addr t l) TILE_LAG.AGF
  let fb := if clean then drift (f (TILE_LAG.addr t l) TILE_LAG.AGS) agf x.fb value
    else x.fb.getD (value * 65536, value * 65536)
  let cleanN := if clean then x.clean + 1 else x.clean
  let thr := f (TILE_LAG.addr t l) TILE_LAG.AGTHR
  let ag := thr ≠ 0 ∧ 2 ^ (agf + 2) ≤ cleanN ∧ thr * 256 * 65536 < (fb.1 - fb.2).natAbs
  let step := x.epoch.any (fun e => e ≠ epoch)
  let tq := decide (decodeUnc (BitVec.ofNat 16 (f (TILE_LTQ.addr t l) TILE_LTQ.TQMAX)) < decodeUnc g.unc) || step || x.late
  let biasu := apply ∧ (s.tile t).trk.conf < f (TILE_TRKCFG.addr t) TILE_TRKCFG.CONFMIN
  let flags := b2n x.ow * fOW + b2n st.2 * fST + b2n rg * fRG + b2n ag * fAG + b2n tq * fTQ +
    b2n (decide rg && rghi) * fRGHI + b2n sat * fSAT + b2n x.miss * fMISS + b2n step * fSTEP + b2n warm * fWARM +
    b2n biasu * fBIASU
  let r : LaneRec := { gts := g, value := BitVec.ofInt 32 value, lane := 16 * t + l, flags, seq := x.seq, epoch }
  let x' := { x with bqa := ra.1, bqb := rb.1, run := st.1, fb := some fb, clean := cleanN, warm := x.warm + 1
                     ow := false, late := false, full := none, miss := false, seq := (x.seq + 1) % 65536
                     epoch := some epoch, latest := some r }
  ((s.setLane t l x').toTracker t { r with value := BitVec.ofInt 32 out }).deliverRecord t r

/-- The code that an acquired value gives a lane, with OW and full scale (R92, R103, R113, R114); none where the lane
receives no input. -/
def laneCode (port fmt sel : Nat) (h : Held) (last : Option Int) : Option (Int × Bool × Option Bool) :=
  match h.val with
  | .code c =>
    let top : Int := if port < 8 then 8388607 else 2047
    let full := if c = top then (if h.ow then none else some true) else if c = -top - 1 then some false else none
    some (c, h.ow, full)
  | .bytes b => some (fieldCode fmt b sel, h.ow, none)
  | .levels w => if sel < 16 then some ((b2n (w.getLsbD sel) : Nat), false, none) else none
  | .channels l =>
    match l.find? (fun c => c.1 = sel) with
    | some (_, c, ow) =>
      some (c, ow, if c = 8388607 then some true else if c = -8388608 then some false else none)
    | none => none
  | .failed => if 26 ≤ port ∧ port < 29 ∧ 16 ≤ sel then none else some (last.getD 0, true, none)

/-- One input enters a lane's pipeline, R103 to R105. -/
def State.laneIn (s : State) (t l : Nat) (h : Held) : State :=
  let x := s.lane t l
  match laneCode (s.boundPort t) (s.cfld (TILE_LSRC.addr t l) TILE_LSRC.FORMAT)
      (s.cfld (TILE_LSRC.addr t l) TILE_LSRC.SEL) h x.last with
  | none => s
  | some (c, ow, full) =>
    let w := despike (s.cfld (TILE_LSRC.addr t l) TILE_LSRC.DESPIKE) x.window (c * 256)
    let x := { x with window := w.1, last := some c, ow := x.ow || ow, late := x.late || h.late
                      full := if full.isSome then full else x.full }
    let n := s.cfld (TILE_LCIC.addr t l) TILE_LCIC.ORDER + 1
    let d := s.cfld (TILE_LCIC.addr t l) TILE_LCIC.RATIO + 1
    let r := cicStep n d x w.2
    let s := s.setLane t l r.1
    match r.2 with
    | some v => s.makeRecord t l v h.gts h.epoch
    | none => s

/-- R103: the oldest value the tile holds enters the pipeline of each enabled lane that the acquisition supplies. -/
def State.takeHeld (s : State) (t : Nat) : State :=
  match (s.tile t).held with
  | [] => s
  | h :: r =>
    let s := s.setTile t { s.tile t with held := r }
    (List.range 16).foldl (fun s l =>
      if h.lanes.getLsbD l ∧ s.cfld (TILE_LSRC.addr t l) TILE_LSRC.EN = 1 then s.laneIn t l h else s) s

/-! ## Commit, R124 to R126 -/

/-- The checks of R88, R96 and R125 on the shadow set; 0 where it passes, else the lowest CERR. -/
def State.tileCheck (s : State) (t : Nat) : Nat :=
  let port := portOf (s.reg (TILE_CFG.addr t))
  let trk (f : Fld) : Nat := s.fld (TILE_TRKCFG.addr t) f
  let on (l : Nat) : Bool := s.fld (TILE_LSRC.addr t l) TILE_LSRC.EN = 1
  let x := trk TILE_TRKCFG.LX
  let y := trk TILE_TRKCFG.LY
  let z := trk TILE_TRKCFG.LZ
  if port ≠ 63 ∧ s.ownerOf 3 port ≠ 0x1200 + t then 1
  else if (List.range 64).any (fun e => s.fld (TILE_SCHA.addr t e) TILE_SCHA.EN = 1 &&
      decide (periodOf (s.reg (TILE_PERIOD.addr t)) ≤ s.fld (TILE_SCHA.addr t e) TILE_SCHA.OFFSET)) then 2
  else if fracAbove (inputRate s.reg t) 5000000 then 3
  else if fracAbove (recordRate s.reg t) 1000000 then 4
  else if trk TILE_TRKCFG.EN = 1 ∧ (x = y ∨ y = z ∨ x = z ∨ !(on x && on y && on z) ∨
      s.fld (TILE_TRKG.addr t) TILE_TRKG.GREF = 0) then 5
  else 0

/-- A lane's state as a new set finds it, R126: kept where its source, CIC and biquad words are unchanged, else reset;
F and B are kept where TILE_LSRC is unchanged, and with them
the count of clean records (log entry 87). -/
def State.laneSwitch (s : State) (old : State) (t l : Nat) : State :=
  let same (a : Nat) : Bool := s.cword a = old.cword a
  let src := same (TILE_LSRC.addr t l)
  if src && same (TILE_LCIC.addr t l) && same (TILE_LBQC.addr t l) &&
      (List.range 10).all (fun j => same (TILE_LCOEF.addr t l j)) then s
  else
    let x := s.lane t l
    s.setLane t l { x with window := [], integ := [], comb := [], phase := 0, bqa := none, bqb := none, run := none
                           warm := 0, last := none
                           fb := if src then x.fb else none
                           clean := if src then x.clean else 0 }

/-- The pending set takes effect, R126. -/
def State.setSwitched (s : State) (t : Nat) : State :=
  let old := s
  let s := s.takeEffect (tileBase t) (tileBase t + 0x1000)
  let s := (List.range 16).foldl (fun s l => s.laneSwitch old t l) s
  let trk := if s.cword (TILE_TRKCFG.addr t) = old.cword (TILE_TRKCFG.addr t) ∧
      s.cword (TILE_TRKG.addr t) = old.cword (TILE_TRKG.addr t) then (s.tile t).trk else Tracker.reset
  s.setTile t { s.tile t with pending := none, running := s.cfld (TILE_CFG.addr t) TILE_CFG.RUN = 1, trk }

/-- R126: at its boundary the pending set takes effect; the inputs that arrived before it are processed under the old one. -/
def State.setSwitch (s : State) (t : Nat) : State :=
  match (s.tile t).pending with
  | some b =>
    if b ≤ s.now then
      let e := s.elOf b
      ((s.tile t).held.foldl (fun s h => if h.arrived < e then s.takeHeld t else s) s).setSwitched t
    else s
  | none => s
/-- TILE_SET_SWITCH. -/
def tileSetSwitch (t : Fin 32) (s : State) : State := s.setSwitch t
/-- TILE_SET_SWITCH. -/
def execTileSetSwitch (t : Fin 32) (s : State) : Out := .next (tileSetSwitch t s)

/-- R124: GO copies the shadow set into the pending set and checks it; a set that passes takes effect at the first
boundary of its own frame grid at least 2 µs later; a refused one leaves the sets as they are (R125). -/
def tileCommit (t : Fin 32) (v : Word) (s : State) : State :=
  s.access (tileBase t) (fun s =>
    let s := s.setSwitch t
    if fget v TILE_COMMIT.GO = 1 then
      let c := s.tileCheck t
      if c = 0 then
        let p := periodOf (s.reg (TILE_PERIOD.addr t))
        let at_ := nsInstant (ceilDiv (nsUp s.now + 2000) p * p)
        let s := (s.toPending (tileBase t) (tileBase t + 0x1000)).setTile t { s.tile t with pending := some at_, goEl := s.el }
        s.setFld (TILE_STATUS.addr t) TILE_STATUS.CERR 0
      else (s.setFld (TILE_STATUS.addr t) TILE_STATUS.REFUSED 1).setFld (TILE_STATUS.addr t) TILE_STATUS.CERR c
    else s)
/-- TILE_COMMIT. -/
def execTileCommit (p : Side) (t : Fin 32) (v : Word) (s : State) : Out :=
  .next (s.permitted p (tileBase t) true (tileCommit t v))

/-- LANE_INPUT: the oldest value the tile holds is processed, under the set in force when it arrived, R103 and R126. -/
def laneInput (t : Fin 32) (s : State) : State :=
  match (s.tile t).held with
  | [] => s
  | h :: _ =>
    (match (s.tile t).pending with
     | some b => if b ≤ s.now ∧ s.elOf b ≤ h.arrived then s.setSwitch t else s
     | none => s).takeHeld t
/-- LANE_INPUT. -/
def execLaneInput (t : Fin 32) (s : State) : Out := .next (laneInput t s)

/-- R111, R570: a credit arrives at the tile, which then offers its oldest buffered record to its ring. -/
def creditReturn (t : Fin 32) (s : State) : State :=
  let x := s.tile t
  if x.returning = 0 then s
  else
    let x := { x with returning := x.returning - 1, credits := x.credits + 1 }
    match x.buffer with
    | [] => s.setTile t x
    | r :: rest =>
      (s.setTile t { x with buffer := rest, credits := x.credits - 1 }).sendEdge (t / 4) (1 + t % 4) 8 .data
        (.laneRecord t r)
/-- CREDIT_RETURN. -/
def execCreditReturn (t : Fin 32) (s : State) : Out := .next (creditReturn t s)

/-- A read of a tile FIFO by core c of 16, R112: the word and the state after. -/
def State.fifoRead (s : State) (c t : Nat) : Word × State :=
  let x := s.tile t
  if s.cfld (TILE_CFG.addr t) TILE_CFG.FIFOCORE ≠ c % 2 then (0xFFFFFFFF, s)
  else match x.fifo with
    | [] => (0xFFFFFFFF, s)
    | r :: rest =>
      (Word.ofNat (leAt (laneBytes r) (4 * x.fifoWord) 4),
        s.setTile t (if x.fifoWord < 5 then { x with fifoWord := x.fifoWord + 1 }
                     else { x with fifo := rest, fifoWord := 0 }))

/-- The key of a watch core's read result. -/
def coreKey (c : Nat) : Nat := 16 + c

/-- R112: the next word of the oldest record of the FIFO of tile t of the core's cluster. -/
def tfifoRead (c : Fin 16) (t : Fin 4) (s : State) : State :=
  let r := s.fifoRead (s.ident c) (4 * (c / 2) + t)
  r.2.returns (coreKey c) r.1
/-- TFIFO_READ. -/
def execTfifoRead (c : Fin 16) (t : Fin 4) (s : State) : Out := .next (tfifoRead c t s)

/-- The words of TILE_LVAL, TILE_LFLG, TILE_LBASE and TILE_LAVG as they stand, R133. Between a set change that resets F and B and
the lane's next record the last two are 0 (log entry 87). -/
def State.laneWords (s : State) (t l : Nat) : List Word :=
  let x := s.lane t l
  let fb := x.fb.getD (0, 0)
  [ (x.latest.map (fun r => r.value)).getD 0,
    Word.ofNat ((x.latest.map (fun r => r.seq * 65536 + r.flags)).getD 0),
    BitVec.ofInt 32 (roundDiv fb.2 65536), BitVec.ofInt 32 (roundDiv fb.1 65536) ]

/-- R134: a read of TILE_LVALn snapshots the four lane registers for the reader. -/
def tileLvalSnapshot (p : Side) (t : Fin 32) (l : Fin 16) (s : State) : State :=
  s.access (tileBase t) (fun s =>
    let w := s.laneWords t l
    (s.snapshot p (TILE_LVAL.addr t l) w).returns (sideKey p) (w.headD 0))
/-- TILE_LVAL_SNAPSHOT. -/
def execTileLvalSnapshot (p : Side) (t : Fin 32) (l : Fin 16) (s : State) : Out := .next (tileLvalSnapshot p t l s)

end Sys2Proof.Machine
end

