-- ==== Sys2Proof/Machine/CoreIo.lean ====
section
/-! DEFINITION. Interrupt sources, core-local registers and I/O space of the processors, R262 to R264, R301, R312 and
R313. -/

namespace Sys2Proof.Machine

/-! ## Interrupts, R301 -/

/-- Mailbox of core c. -/
def State.mailbox (s : State) (c : Nat) : Mbx := Tab.get Mbx.reset s.mbx c
/-- The state with the mailbox of core c replaced. -/
def State.setMailbox (s : State) (c : Nat) (m : Mbx) : State := { s with mbx := Tab.put s.mbx c m }

/-- CORE_IPEND of a processor, R313. The Keeper's and the Link processor's have no TFIFO, mailbox or partner. -/
def State.ipend (s : State) (c : Nat) : Nat :=
  let x := s.core c
  let tmr := (List.range 32).any (fun n => s.timerReceiver n == some c && s.timerAsks n)
  let fifo := decide (c < 16) && (List.range 4).any (fun t =>
    decide (s.cfld (TILE_CFG.addr (c / 2 * 4 + t)) TILE_CFG.FIFOCORE = s.ident c % 2) &&
      decide (max 1 x.thr ≤ (s.tile (c / 2 * 4 + t)).fifo.length))
  let mb := decide (c < 16) && (s.mailbox (s.ident c)).full
  b2n tmr + 2 * b2n fifo + 4 * b2n mb + 8 * b2n x.bell + 16 * b2n x.soft

/-- The lowest vector of a source that is pending and enabled, R301. -/
def State.interruptOf (s : State) (c : Nat) : Option Nat :=
  let p := s.ipend c &&& (s.core c).ien
  ((List.range 5).find? (fun i => p.testBit i)).map (· + 8)

/-! ## Core-local registers and I/O space, R262, R263, R312 and R313 -/

/-- A read of a core-local register; none where the address is unmapped. -/
def State.localRead (s : State) (c a : Nat) : Option (Word × State) :=
  let x := s.core c
  match a with
  | 0x00 => some (Word.ofNat (2 * b2n x.det + b2n x.ie), s)
  | 0x04 => some (Word.ofNat x.ien, s)
  | 0x08 => some (Word.ofNat (s.ipend c), s)
  | 0x0C => some (x.vbase, s)
  | 0x10 => some (x.ecause, s)
  | 0x14 => some (x.eaddr, s)
  | 0x18 => some (x.eval, s)
  | 0x1C => some (0, s)
  | 0x20 => some (Word.ofNat x.wdog, s)
  | 0x24 => some (Word.ofNat x.thr, s)
  | 0x28 => some (Word.ofNat (Tab.get 0 s.pipe.cycles c / 10), s)
  | _ => none

/-- A write of CORE_CTL: DET takes effect, R307, and IE. -/
def State.writeCoreCtl (s : State) (c : Nat) (v : Word) : State :=
  s.setCore c { s.core c with det := v.getLsbD 1, ie := v.getLsbD 0 }
/-- A write of CORE_RING: GO sets the partner's DOORBELL. -/
def State.writeRing (s : State) (c : Nat) (v : Word) : State :=
  if v.getLsbD 0 ∧ c < 16 then s.setCore (partner c) { s.core (partner c) with bell := true } else s
/-- A write of CORE_WDOG: the period, and the watchdog restarts. -/
def State.writeWdog (s : State) (c : Nat) (v : Word) : State :=
  s.setCore c { s.core c with wdog := v.toNat % 2 ^ 20, wdogAt := s.el, wdogOut := false }

/-- A write of a core-local register; none where the address is unmapped. -/
def State.localWrite (s : State) (c a : Nat) (v : Word) : Option State :=
  let x := s.core c
  match a with
  | 0x00 => some (s.writeCoreCtl c v)
  | 0x04 => some (s.setCore c { x with ien := v.toNat % 32 })
  | 0x08 => some (s.setCore c { x with soft := x.soft || v.getLsbD 4 })
  | 0x0C => some (s.setCore c { x with vbase := v })
  | 0x10 => some s
  | 0x14 => some s
  | 0x18 => some s
  | 0x1C => some (s.writeRing c v)
  | 0x20 => some (s.writeWdog c v)
  | 0x24 => some (s.setCore c { x with thr := v.toNat % 64 })
  | 0x28 => some s
  | _ => none

/-- MBX_CTL as it reads, R263. -/
def Mbx.word (m : Mbx) : Word := Word.ofNat (4 * b2n m.ovr + 2 * b2n m.full + b2n m.send)

/-- A write of MBX_CTL, R263. -/
def Mbx.write (m : Mbx) (v : Word) : Mbx :=
  { m with ovr := m.ovr && !v.getLsbD 2, full := m.full && !v.getLsbD 1, send := m.send || v.getLsbD 0 }

/-- Whether a watch core may access timer n, R264. -/
def State.coreHoldsTimer (s : State) (c n : Nat) : Bool := s.ownerOf 5 n == 0x0200 + s.ident c

/-- A read of I/O space, R262: none where the address is unmapped or a timer is not held. -/
def State.ioRead (s : State) (c a : Nat) : Option (Word × State) :=
  if a < 0x100 then s.localRead c a
  else if 16 ≤ c then none
  else
    let id := s.ident c
    let m := s.mailbox id
    if a < 0x140 then
      let t := c / 2 * 4 + (a - 0x100) / 0x10
      match (a - 0x100) % 0x10 with
      | 0 => some (s.fifoRead id t)
      | 4 => some (Word.ofNat ((s.tile t).fifo.length + (s.tile t).fifoWord * 256), s)
      | _ => none
    else if 0x200 ≤ a ∧ a < 0x220 then some (Tab.get 0 m.out ((a - 0x200) / 4), s)
    else if a = 0x220 then some (m.word, s)
    else if 0x240 ≤ a ∧ a < 0x260 then some (Tab.get 0 m.inb ((a - 0x240) / 4), s)
    else if 0x1000 ≤ a ∧ a < 0x1800 then
      let n := (a - 0x1000) / 0x40
      if s.coreHoldsTimer c n then s.timerRead n ((a - 0x1000) % 0x40) c else none
    else none

/-- A write of I/O space, R262. -/
def State.ioWrite (s : State) (c a : Nat) (v : Word) : Option State :=
  if a < 0x100 then s.localWrite c a v
  else if 16 ≤ c then none
  else
    let id := s.ident c
    let m := s.mailbox id
    if a < 0x140 then (if (a - 0x100) % 0x10 = 0 ∨ (a - 0x100) % 0x10 = 4 then some s else none)
    else if 0x200 ≤ a ∧ a < 0x220 then
      some (s.setMailbox id (if m.send then { m with ovr := true } else { m with out := Tab.put m.out ((a - 0x200) / 4) v }))
    else if a = 0x220 then some (s.setMailbox id (m.write v))
    else if 0x240 ≤ a ∧ a < 0x260 then some s
    else if 0x1000 ≤ a ∧ a < 0x1800 then
      let n := (a - 0x1000) / 0x40
      if s.coreHoldsTimer c n then s.timerWrite n ((a - 0x1000) % 0x40) v else none
    else none

end Sys2Proof.Machine
end

