-- ==== Sys2Proof/Machine/Cores.lean ====
section
/-! DEFINITION. The commands of the store buffers, failure and takeover, core control and the decode
tables, R284 to R286 and R304 to R316. -/

namespace Sys2Proof.Machine

/-- STORE_DRAIN: the oldest entry drains to cluster data memory if it is committed, R304. -/
def storeDrain (c : Fin 16) (s : State) : State :=
  let x := s.core c
  match x.stores with
  | e :: r => if e.shadow then s else (s.drainEntry c e).setCore c { x with stores := r }
  | [] => s
/-- STORE_DRAIN. -/
def execStoreDrain (c : Fin 16) (s : State) : Out := .next (storeDrain c s)

/-- WATCHDOG_EXPIRY: PERIOD µs after the last write of CORE_WDOG the core fails, R309, halted or not. -/
def watchdogExpiry (c : Fin 16) (s : State) : State :=
  let x := s.core c
  if x.wdog ≠ 0 ∧ x.wdogAt + x.wdog * 1000 ≤ s.el ∧ !x.wdogOut ∧ s.isOn (coreBlock c) then
    (s.setCore c { x with wdogOut := true }).coreFail c 2
  else s
/-- WATCHDOG_EXPIRY. -/
def execWatchdogExpiry (c : Fin 16) (s : State) : Out := .next (watchdogExpiry c s)

/-- CORE_CLOCK: cluster control finds the core's island clock stopped for 1 µs, R309. -/
def coreClock (c : Fin 16) (s : State) : State := if !(s.core c).failed ∧ s.isOn (coreBlock c) then s.coreFail c 3 else s
/-- CORE_CLOCK. -/
def execCoreClock (c : Fin 16) (s : State) : Out := .next (coreClock c s)

/-- An OUT acts once no long instruction is in flight and the store buffer is empty, R294 and R306. -/
def State.outDone (s : State) (c : Nat) (f : State → State) : State :=
  if (s.core c).long.isNone ∧ (s.core c).stores = [] then f s else s

/-- CORE_DET_WRITE: a write of CORE_CTL takes effect once no long instruction is in flight and the buffer is empty,
R307. -/
def coreDetWrite (c : Fin 18) (v : Word) (s : State) : State := s.outDone c (fun s => s.writeCoreCtl c v)
/-- CORE_DET_WRITE. -/
def execCoreDetWrite (c : Fin 18) (v : Word) (s : State) : Out := .next (coreDetWrite c v s)

/-- CORE_RING: GO sets the partner's DOORBELL, R313. -/
def coreRing (c : Fin 16) (v : Word) (s : State) : State := s.outDone c (fun s => s.writeRing c v)
/-- CORE_RING. -/
def execCoreRing (c : Fin 16) (v : Word) (s : State) : Out := .next (coreRing c v s)

/-- CORE_WDOG_WRITE: the period is set and the watchdog restarts, R313. -/
def coreWdogWrite (c : Fin 18) (v : Word) (s : State) : State := s.outDone c (fun s => s.writeWdog c v)
/-- CORE_WDOG_WRITE. -/
def execCoreWdogWrite (c : Fin 18) (v : Word) (s : State) : Out := .next (coreWdogWrite c v s)

/-! ## CLn_CORECTLc, R314 and R315 -/

/-- CLn_CORECTLc as it reads. -/
def State.coreCtlWord (s : State) (c : Nat) : Word :=
  let x := s.core c
  pack [(CL_CORECTL.RUN, b2n x.run), (CL_CORECTL.HALTED, b2n x.halted), (CL_CORECTL.FAILED, b2n x.failed)]

/-- The encoding that CLn_ISACFG gives core c. -/
def State.encOf (s : State) (c : Nat) : Bool :=
  s.fld (CL_ISACFG.addr (c / 2)) (if c % 2 = 0 then CL_ISACFG.ENC0 else CL_ISACFG.ENC1) = 1

/-- RUN 0: the core halts as an interrupt entry would, without a frame, R315. -/
def State.haltCore (s : State) (m : MemPort) (c done : Nat) : State :=
  let s := if (s.core c).halted then s else (s.abandon m c done).drainAll c
  s.setCore c { (s.core c).landed with run := false, halted := true, waiting := false }

/-- RUN 1: the core leaves halt at the address at which it halted, or at vector 0 after a reset, with its committed
encoding and an empty instruction cache, R284, R289 and R315. One held after its cluster woke from off runs only once
PWR_RESTORE names the cluster (R449). -/
def State.resumeCore (s : State) (c : Nat) : State :=
  let x := s.core c
  if x.halted ∧ !s.pwr.held.contains (c / 2) then
    let s := s.emptyCache c
    let x := { x with run := true, halted := false, fresh := false, enc := if x.acting.isSome then x.enc else s.encOf c }
    s.setCore c (if (s.core c).fresh then { x with pc := x.vector c 0, ecause := 0, eaddr := 0, eval := 0 } else x)
  else s.setCore c { x with run := true }

/-- CORECTL_RUN: a write of RUN. -/
def corectlRun (c : Fin 16) (run : Bool) (done : Nat) (s : State) : State :=
  s.access (CL_CORECTL.addr (c / 2) (c % 2)) (fun s => if run then s.resumeCore c else s.haltCore (watchPort c) c done)
/-- CORECTL_RUN. -/
def execCorectlRun (p : Side) (c : Fin 16) (run : Bool) (done : Nat) (s : State) : Out :=
  .next (s.permitted p (CL_CORECTL.addr (c / 2) (c % 2)) true (corectlRun c run done))

/-- The core reset of RST, R258 and R314: stacks, core-local registers and loop stack at reset; the next RUN starts at
vector 0. The decode table stays. A running core's committed stores drain first (R304); one that ran its partner's program
no longer does (R316). -/
def State.rstCore (s : State) (c : Nat) : State :=
  let x := s.core c
  let s := ((if x.halted then s else s.drainAll c).emptyCache c).setCycles c 0
  let s := if x.acting.isSome then s.setFld (CL_PAIRSTAT.addr (c / 2)) CL_PAIRSTAT.ACTING 0 else s
  s.setCore c { Core.reset c with desc := x.desc, micro := x.micro }

/-- CORECTL_RST: a write of RST 1. -/
def corectlRst (c : Fin 16) (s : State) : State :=
  s.access (CL_CORECTL.addr (c / 2) (c % 2)) (fun s => s.rstCore c)
/-- CORECTL_RST. -/
def execCorectlRst (p : Side) (c : Fin 16) (s : State) : Out :=
  .next (s.permitted p (CL_CORECTL.addr (c / 2) (c % 2)) true (corectlRst c))

/-! ## CLn_ISACFG, the decode tables and CLn_PAIR, R284 to R286 and R316 -/

/-- A write of CLn_ISACFG: a bit that changes the encoding of a core that is not halted stays and sets REFUSED. -/
def isacfgWrite (n : Fin 8) (v : Word) (s : State) : State :=
  s.access (CL_ISACFG.addr n) (fun s =>
    let a := CL_ISACFG.addr n
    let old := s.reg a
    let w := writeWord CL_ISACFG.fields old v
    let bad (f : Fld) (c : Nat) : Bool := fget w f ≠ fget old f && !(s.core c).halted
    let b0 := bad CL_ISACFG.ENC0 (2 * n)
    let b1 := bad CL_ISACFG.ENC1 (2 * n + 1)
    let w := if b0 then fset w CL_ISACFG.ENC0 (fget old CL_ISACFG.ENC0) else w
    let w := if b1 then fset w CL_ISACFG.ENC1 (fget old CL_ISACFG.ENC1) else w
    s.setReg a (if b0 || b1 then fset w CL_ISACFG.REFUSED 1 else w))
/-- ISACFG_WRITE. -/
def execIsacfgWrite (p : Side) (n : Fin 8) (v : Word) (s : State) : Out :=
  .next (s.permitted p (CL_ISACFG.addr n) true (isacfgWrite n v))

/-- The core that CLn_UCADDR names. -/
def State.ucCore (s : State) (n : Nat) : Nat := 2 * n + s.fld (CL_UCADDR.addr n) CL_UCADDR.CORE
/-- Whether CLn_UCADDR names the slot descriptors. -/
def State.ucTable (s : State) (n : Nat) : Bool := s.fld (CL_UCADDR.addr n) CL_UCADDR.TABLE = 1
/-- The entry that CLn_UCADDR names: bits 7:5 are ignored for descriptors. -/
def State.ucIndex (s : State) (n : Nat) : Nat :=
  let i := s.fld (CL_UCADDR.addr n) CL_UCADDR.INDEX
  if s.ucTable n then i % 32 else i
/-- The 64 bits of the entry selected. -/
def State.ucEntry (s : State) (n : Nat) : BitVec 64 :=
  let x := s.core (s.ucCore n)
  Tab.get 0 (if s.ucTable n then x.desc else x.micro) (s.ucIndex n)
/-- INDEX after an access through CLn_UCDATA1, R285. -/
def State.ucAdvance (s : State) (n : Nat) : State :=
  if s.fld (CL_UCADDR.addr n) CL_UCADDR.INC = 1 then
    s.setFld (CL_UCADDR.addr n) CL_UCADDR.INDEX ((s.ucIndex n + 1) % (if s.ucTable n then 32 else 256))
  else s

/-- The key of cluster n's entry snapshot. -/
def ucKey (n : Nat) : Nat := 5 * 2 ^ 32 + n

/-- A write of CLn_UCDATA0: bits 31:0 are staged. -/
def ucdata0Write (n : Fin 8) (v : Word) (s : State) : State :=
  s.access (CL_UCDATA0.addr n) (fun s => s.setReg (CL_UCDATA0.addr n) v)
/-- UCDATA0_WRITE. -/
def execUcdata0Write (p : Side) (n : Fin 8) (v : Word) (s : State) : Out :=
  .next (s.permitted p (CL_UCDATA0.addr n) true (ucdata0Write n v))

/-- A read of CLn_UCDATA0 snapshots the entry and returns bits 31:0. -/
def ucdata0Read (p : Side) (n : Fin 8) (s : State) : State :=
  s.access (CL_UCDATA0.addr n) (fun s =>
    let e := s.ucEntry n
    { s with snaps := Tab.put s.snaps (ucKey n) [e.extractLsb' 0 32, e.extractLsb' 32 32] }.returns (sideKey p)
      (e.extractLsb' 0 32))
/-- UCDATA0_READ. -/
def execUcdata0Read (p : Side) (n : Fin 8) (s : State) : Out :=
  .next (s.permitted p (CL_UCDATA0.addr n) false (ucdata0Read p n))

/-- A write of CLn_UCDATA1 stores the entry of a halted core, or sets REFUSED; INDEX advances either way. -/
def ucdata1Write (n : Fin 8) (v : Word) (s : State) : State :=
  s.access (CL_UCDATA1.addr n) (fun s =>
    let c := s.ucCore n
    let x := s.core c
    let e : BitVec 64 := v ++ s.reg (CL_UCDATA0.addr n)
    let s := if x.halted then
        s.setCore c (if s.ucTable n then { x with desc := Tab.put x.desc (s.ucIndex n) e }
                     else { x with micro := Tab.put x.micro (s.ucIndex n) e })
      else s.setFld (CL_UCADDR.addr n) CL_UCADDR.REFUSED 1
    s.ucAdvance n)
/-- UCDATA1_WRITE. -/
def execUcdata1Write (p : Side) (n : Fin 8) (v : Word) (s : State) : Out :=
  .next (s.permitted p (CL_UCDATA1.addr n) true (ucdata1Write n v))

/-- A read of CLn_UCDATA1 returns the snapshot's high half, and INDEX advances. -/
def ucdata1Read (p : Side) (n : Fin 8) (s : State) : State :=
  s.access (CL_UCDATA1.addr n) (fun s =>
    (s.ucAdvance n).returns (sideKey p) ((Tab.get [] s.snaps (ucKey n)).getD 1 0))
/-- UCDATA1_READ. -/
def execUcdata1Read (p : Side) (n : Fin 8) (s : State) : Out :=
  .next (s.permitted p (CL_UCDATA1.addr n) false (ucdata1Read p n))

/-- A write of CLn_PAIR: a MODE that names a pair is discarded where ENC0 and ENC1 differ. -/
def pairWrite (n : Fin 8) (v : Word) (s : State) : State :=
  s.access (CL_PAIR.addr n) (fun s =>
    let a := CL_PAIR.addr n
    let w := writeWord CL_PAIR.fields (s.reg a) v
    let m := fget v CL_PAIR.MODE
    if (m = 1 ∨ m = 2) ∧ s.encOf (2 * n) ≠ s.encOf (2 * n + 1) then
      s.setReg a (fset (fset w CL_PAIR.MODE (s.fld a CL_PAIR.MODE)) CL_PAIR.REFUSED 1)
    else s.setReg a w)
/-- PAIR_WRITE. -/
def execPairWrite (p : Side) (n : Fin 8) (v : Word) (s : State) : Out :=
  .next (s.permitted p (CL_PAIR.addr n) true (pairWrite n v))

/-! ## Mailboxes, R263 and R354 -/

/-- MBX_SEND: a write of MBX_CTL; SEND hands the outbound words to the Keeper. -/
def mbxSend (c : Fin 16) (v : Word) (s : State) : State :=
  s.outDone c (fun s => s.setMailbox (s.ident c) ((s.mailbox (s.ident c)).write v))
/-- MBX_SEND. -/
def execMbxSend (c : Fin 16) (v : Word) (s : State) : Out := .next (mbxSend c v s)

/-- The 32 bytes of a core's outbound message. -/
def Mbx.outBytes (m : Mbx) : List Byte := (List.range 8).flatMap (fun k => leBytes 4 (Tab.get 0 m.out k).toNat)

end Sys2Proof.Machine
end

