-- ==== Sys2Proof/Machine/RuleOps.lean ====
section
/-! DEFINITION. The rule engines: predicates, judgements, transitions, actions, event records and the coalescer, R137 to
R159. -/

namespace Sys2Proof.Machine

/-- Classes of an input, R144. -/
inductive InClass where
  | t | f | d | x
  deriving DecidableEq, Repr

/-- The code of an input class, R155. -/
def InClass.code : InClass → Nat
  | .t => 0 | .f => 1 | .d => 2 | .x => 3

/-! ## Predicates -/

/-- A's VALUE for an input; that of a model result is its score (DESIGN CHOICE, log entry 88). -/
def EngIn.value : EngIn → Int
  | .record r => r.value.toInt
  | .edge _ rise _ => b2n rise
  | .signal _ _ => 1
  | .model _ _ score _ _ => score
  | .bLane r => r.value.toInt
/-- FLAGS of an input. -/
def EngIn.flags : EngIn → Nat
  | .record r => r.flags
  | _ => 0
/-- The instant of an input. -/
def EngIn.at_ : EngIn → Stamp
  | .record r => ⟨r.gts, r.epoch, none⟩
  | .edge _ _ g => g
  | .signal _ g => g
  | .model _ _ _ _ g => g
  | .bLane r => ⟨r.gts, r.epoch, none⟩
/-- The order of inputs of one cycle, R150: edges, signals, model results, records, each by source index. -/
def EngIn.rank : EngIn → Nat
  | .edge pin _ _ => pin
  | .signal src _ => 1000 + src
  | .model slot _ _ _ _ => 2000 + slot
  | .record _ => 3000
  | .bLane _ => 3000

/-- The input that dispatch takes first, R150: earliest cycle, then rank, then arrival order; with the rest. -/
def pickInput : List (Nat × EngIn) → Option ((Nat × EngIn) × List (Nat × EngIn))
  | [] => none
  | a :: r =>
    match pickInput r with
    | none => some (a, r)
    | some (b, rest) =>
      if b.1 < a.1 ∨ (b.1 = a.1 ∧ b.2.rank < a.2.rank) then some (b, a :: rest) else some (a, r)

/-- The largest of a list of numbers and a first one. -/
def maxI (x : Int) (l : List Int) : Int := l.foldl max x
/-- The smallest. -/
def minI (x : Int) (l : List Int) : Int := l.foldl min x

/-- q of R141, from the quantity code, W, x, the earlier believed x (newest first), the input and the flags. -/
def quantity (qty w : Nat) (x : Int) (win : List Int) (flags cls : Nat) (i : EngIn) : Int :=
  let prev := win.take (w - 1)
  match qty with
  | 1 => x - win.getD (w - 1) 0
  | 2 => roundDiv (prev.foldl (· + ·) x) w
  | 3 => maxI x prev
  | 4 => minI x prev
  | 5 => maxI x prev - minI x prev
  | 6 => (flags : Nat)
  | 7 => i.value
  | 8 => 1
  | 9 => match i with
    | .model _ c score _ _ => if c = cls then score else -129
    | _ => -129
  | _ => x

/-- The judgement of R142: true or false, by CMP, K1, K2 and HYST. -/
def compare (cmp : Nat) (q k1 k2 : Int) (hyst : Bool) : Bool :=
  let k2p := max 0 k2
  match cmp with
  | 0 => if k1 < q then true else if q ≤ k1 - k2p then false else hyst
  | 1 => if q < k1 then true else if k1 + k2p ≤ q then false else hyst
  | 2 => k1 ≤ q && q ≤ k2
  | 3 => q < k1 || k2 < q
  | 4 => (BitVec.ofInt 64 q &&& BitVec.ofInt 64 k1) ≠ 0
  | 5 => (BitVec.ofInt 64 q &&& BitVec.ofInt 64 k1) = 0
  | 6 => k1 < (q.natAbs : Int)
  | _ => true

/-- The DOUBT conditions of R143. -/
def State.doubtful (s : State) (e : Nat) (i : EngIn) : Bool :=
  let x := s.engine e
  let pred (f : Fld) : Nat := s.cfld (RS_EPRED.addr e) f
  let qty := pred RS_EPRED.QTY
  let comb := pred RS_EPRED.COMB = 1 ∨ pred RS_EPRED.COMB = 2
  let mask := s.cfld (RS_ECFG.addr e) RS_ECFG.FLAGMASK
  let w := pred RS_EPRED.WIN + 1
  let flags := i.flags ||| (if comb then (x.heldB.map (fun b => b.flags)).getD 0 else 0)
  let age := min 31 (s.cfld (RS_ESRCB.addr e) RS_ESRCB.AGE)
  let far := match x.heldB with
    | none => true
    | some b => decide (nsToFrac (2 ^ age * 1000) < ((i.at_.gts.t.toNat : Int) - b.gts.t.toNat).natAbs)
  let believed := (qty ≠ 6 && (flags &&& mask) ≠ 0) || (decide comb && far) ||
    (qty = 1 && decide (x.window.length < w)) || (2 ≤ qty && qty ≤ 5 && decide (x.window.length < w - 1))
  match i with
  | .edge .. => false
  | .signal .. => false
  | .model _ _ _ doubt _ => believed || (qty = 9 && 1 ≤ doubt && mask ≠ 0)
  | _ => believed

/-- The class and q of an A input, with x, R141 to R143. -/
def State.judge (s : State) (e : Nat) (i : EngIn) : InClass × Int × Int :=
  let g := s.engine e
  let pred (f : Fld) : Nat := s.cfld (RS_EPRED.addr e) f
  let b := (g.heldB.map (fun b => b.value.toInt)).getD 0
  let comb := pred RS_EPRED.COMB
  let x := if comb = 1 then i.value - b else if comb = 2 then i.value + b else i.value
  if s.doubtful e i then (.d, x, x)
  else
    let flags := i.flags ||| (if comb = 1 ∨ comb = 2 then (g.heldB.map (fun b => b.flags)).getD 0 else 0)
    let q := quantity (pred RS_EPRED.QTY) (pred RS_EPRED.WIN + 1) x g.window flags
      (s.cfld (RS_ESRCA.addr e) RS_ESRCA.ID / 256) i
    let t := compare (pred RS_EPRED.CMP) q (signed 32 (s.cword (RS_EK1.addr e)).toNat)
      (signed 32 (s.cword (RS_EK2.addr e)).toNat) g.hyst
    (if t then .t else .f, q, x)

/-! ## Event records -/

/-- The kind and the subject of an engine's event records: its source A, R156. -/
def State.subject (s : State) (e : Nat) : Nat × Nat :=
  let id := s.cfld (RS_ESRCA.addr e) RS_ESRCA.ID
  match s.kindA e with
  | 1 => (0, e / 32 * 64 + id % 64)
  | 2 => (1, id % 64)
  | 3 => (3, id % 256)
  | _ => (4, id % 8)

/-- The bytes of an event record, R155. -/
def eventBytes (r : EvRec) : List Byte :=
  gtsBytes r.gts ++ leBytes 4 r.value.toNat ++ leBytes 2 (0x8000 + r.kind * 0x1000 + r.subj) ++ leBytes 1 r.rule ++
    leBytes 1 r.cause ++ leBytes 2 r.count ++ leBytes 1 r.trans ++ leBytes 1 r.eflags

/-- An event record offered to the slice's event ring while RINGEN is 1, R159. -/
def State.eventToRing (s : State) (n : Nat) (r : EvRec) : State :=
  if s.fld (RS_CTL.addr n) RS_CTL.RINGEN = 1 then s.sendEdge n 7 8 .data (.event n r) (r.rule % 32 + 1) else s

/-- Buffered event records emitted into the package event queue while it has room. -/
def State.drainBuffer (s : State) (n : Nat) : List EvRec → State
  | [] => s.setSlice n { s.slice n with buffer := [] }
  | r :: rest =>
    if s.events.length < eventQueueSize then State.drainBuffer { s with events := s.events ++ [r] } n rest
    else s.setSlice n { s.slice n with buffer := r :: rest }

/-- R159: as the package event queue has space the buffered records are emitted, then one record for those lost. Its VALUE and
TRANS are 0 (DESIGN CHOICE, log entry 88). -/
def State.drainSlice (s : State) (n : Nat) : State :=
  let s := s.drainBuffer n (s.slice n).buffer
  let x := s.slice n
  if x.buffer.isEmpty ∧ x.lost ≠ 0 ∧ s.events.length < eventQueueSize then
    let r : EvRec := { gts := x.lostAt.gts, value := 0, kind := 7, subj := 0, rule := x.lostRule, cause := 0xFF
                       count := min 0xFFFF x.lost, trans := 0
                       eflags := x.lostEflags ||| (if 0xFFFF < x.lost then 2 else 0), epoch := x.lostAt.epoch }
    ({ s.setSlice n { x with lost := 0 } with events := s.events ++ [r] }).eventToRing n r
  else s

/-- An event record to the package event queue, R159: where the queue is full it is buffered, and past the slice's 32 records
it is counted lost with the earliest GTS. From the first loss to the summary every record is lost, since none may come out
between them and the summary (DESIGN CHOICE, log entry 88). -/
def State.queueEvent (s : State) (n : Nat) (r : EvRec) : State :=
  let s := s.drainSlice n
  let x := s.slice n
  if x.lost = 0 ∧ x.buffer.isEmpty ∧ s.events.length < eventQueueSize then { s with events := s.events ++ [r] }
  else if x.lost = 0 ∧ x.buffer.length < 32 then s.setSlice n { x with buffer := x.buffer ++ [r] }
  else
    let first := x.lost = 0
    let earlier := first ∨ r.gts.t < x.lostAt.gts.t
    (s.setSlice n { x with lost := x.lost + 1
                           lostAt := if earlier then ⟨r.gts, r.epoch, none⟩ else x.lostAt
                           lostEflags := if earlier then r.eflags &&& 4 else x.lostEflags
                           lostRule := if first then r.rule else x.lostRule }).bump (RS_STAT.addr n) RS_STAT.EVLOST 1

/-- An event record that slice n emits, R156, R159 and R185: to the package event queue, to the event ring, and to FAULT where
its engine's QTY is FLAGS. -/
def State.emitEvent (s : State) (n : Nat) (r : EvRec) : State :=
  let s := (s.queueEvent n r).eventToRing n r
  if r.kind = 0 ∧ s.cfld (RS_EPRED.addr r.rule) RS_EPRED.QTY = 6 then
    s.raiseFault 0 0x0007 r.subj (r.value.toNat % 65536 + r.rule * 65536)
  else s

/-- The summary of a coalescer entry, R157. RULE is the leader's, where events of several rules share the key (DESIGN CHOICE,
log entry 88). -/
def Coal.summary (c : Coal) (csat : Bool) : EvRec :=
  { gts := c.gts, value := c.value, kind := c.key.1, subj := c.key.2.1, rule := c.rule, cause := c.key.2.2
    count := c.count, trans := c.trans, eflags := c.eflags ||| 1 ||| (if csat then 2 else 0), epoch := c.epoch }

/-- The key of an event in its slice, R157: SUBJ and CAUSE. -/
def EvRec.coalKey (r : EvRec) : Nat × Nat × Nat := (r.kind, r.subj, r.cause)

/-- The entries of a slice with the entry of a key replaced, or freed. -/
def replaceCoal (l : List Coal) (k : Nat × Nat × Nat) (c : Option Coal) : List Coal :=
  l.filterMap (fun x => if x.key = k then c else some x)

/-- An entry's window ends, R157: one summary if it has merged events, and the entry is freed. -/
def State.closeCoal (s : State) (n : Nat) (c : Coal) : State :=
  let s := s.setSlice n { s.slice n with coal := replaceCoal (s.slice n).coal c.key none }
  if c.count = 0 then s else s.emitEvent n (c.summary false)

/-- The coalescing window in FRAC units, R157 and R179. -/
def State.coalWindow (s : State) (n : Nat) : BitVec 80 :=
  BitVec.ofNat 80 (nsToFrac (s.fld (RS_CTL.addr n) RS_CTL.WIN * 1000000))

/-- An event of an engine with COAL 1 passes through the coalescer, R157 and R158. -/
def State.coalesce (s : State) (n : Nat) (r : EvRec) : State :=
  let s := match (s.slice n).coal.find? (fun c => c.key = r.coalKey && decide (c.close ≤ r.gts.t)) with
    | some c => s.closeCoal n c
    | none => s
  match (s.slice n).coal.find? (fun c => c.key = r.coalKey) with
  | none =>
    if (s.slice n).coal.length < 64 then
      let c : Coal := { key := r.coalKey, close := r.gts.t + s.coalWindow n, count := 0, gts := r.gts, value := r.value
                        valueAt := r.gts.t, trans := r.trans, rule := r.rule, eflags := r.eflags, epoch := r.epoch }
      (s.setSlice n { s.slice n with coal := (s.slice n).coal ++ [c] }).emitEvent n r
    else (s.emitEvent n r).bump (RS_STAT.addr n) RS_STAT.COALOVF 1
  | some c =>
    if c.count = 0xFFFF then
      let c' : Coal := { c with close := r.gts.t + s.coalWindow n, count := 1, gts := r.gts, value := r.value
                                valueAt := r.gts.t, trans := r.trans, epoch := r.epoch, eflags := r.eflags }
      (s.setSlice n { s.slice n with coal := replaceCoal (s.slice n).coal c.key (some c') }).emitEvent n (c.summary true)
    else
      let earlier := c.count = 0 ∨ r.gts.t < c.gts.t
      let bigger := c.count = 0 ∨ c.value.toInt.natAbs < r.value.toInt.natAbs ∨
        (c.value.toInt.natAbs = r.value.toInt.natAbs ∧ r.gts.t < c.valueAt)
      let c' : Coal := { c with count := c.count + 1
                                gts := if earlier then r.gts else c.gts
                                epoch := if earlier then r.epoch else c.epoch
                                eflags := if earlier then r.eflags else c.eflags
                                value := if bigger then r.value else c.value
                                valueAt := if bigger then r.gts.t else c.valueAt
                                trans := r.trans }
      s.setSlice n { s.slice n with coal := replaceCoal (s.slice n).coal c.key (some c') }

/-! ## Transitions -/

/-- A counter operation of R145. -/
def counterOp (op c : Nat) : Nat :=
  match op with
  | 1 => min 0xFFFF (c + 1)
  | 2 => 0
  | 3 => c - 1
  | _ => c

/-- Bits hi down to lo of a transition word, R145. -/
def tw (w : Word) (hi lo : Nat) : Nat := w.toNat / 2 ^ lo % 2 ^ (hi + 1 - lo)

/-- The length of a timer of R147 in ns. -/
def State.timerNs (s : State) (e : Nat) : Nat :=
  max 1 (s.cfld (RS_ETMR.addr e) RS_ETMR.TVAL) * 2 ^ s.cfld (RS_ETMR.addr e) RS_ETMR.TSCALE * 1000

/-- The guard of a transition word, R145 and R146. -/
def State.guard (s : State) (e : Nat) (w : Word) (c0 c1 : Nat) (running : Bool) : Bool :=
  match tw w 25 24 with
  | 0 => true
  | 1 => s.cfld (RS_ELIM.addr e) RS_ELIM.LIM0 ≤ c0
  | 2 => s.cfld (RS_ELIM.addr e) RS_ELIM.LIM1 ≤ c1
  | _ => running

/-- An attention packet of slice n, R149: the bits join the packet that the slice forms in this cycle. -/
def State.sendAttention (s : State) (n : Nat) (bits : BitVec 4) (g : Stamp) : State :=
  let m := s.merge n
  let mine (w : Waiting) : Bool := w.src = 7 && w.ch = .event && w.cycle = s.sliceCycle s.el && w.order = 0
  if m.wait.any mine then
    s.setMerge n { m with wait := m.wait.map (fun w =>
      match w.pkt with
      | .attention b at_ => if mine w then { w with pkt := .attention (b ||| bits) at_ } else w
      | _ => w) }
  else s.sendEdge n 7 15 .event (.attention bits g)

/-- An event record of an engine whose instant is known leaves, R157: through the coalescer where WIN is not 0 and COAL is 1. -/
def State.eventOut (s : State) (n : Nat) (r : EvRec) : State :=
  if s.fld (RS_CTL.addr n) RS_CTL.WIN ≠ 0 ∧ s.cfld (RS_ECFG.addr r.rule) RS_ECFG.COAL = 1 then s.coalesce n r
  else s.emitEvent n r

/-- An event record with its instant, R155 and R156. -/
def State.dated (s : State) (r : EvRec) (g : Stamp) : EvRec :=
  { r with gts := g.gts, epoch := g.epoch, eflags := if s.carriedIn g.gts.t g.epoch then 4 else 0 }

/-- The actions that bits 17:8 of a transition word name, R148 and R149, in the order attention, SIGNAL, STP, MODE,
BOPEN, BCLOSE, EVENT. A SIGNAL within the slice arrives in the next dispatch cycle. An event record waits for the capture of
a gated ring that its instant comes from (R163). -/
def State.actions (s : State) (e : Nat) (w : Word) (cls : InClass) (before after : Nat) (q : Int) (g : Stamp) : State :=
  let n := e / 32
  let act (f : Fld) : Nat := s.cfld (RS_EACT.addr e) f
  let target := act RS_EACT.TARGET
  let batch := act RS_EACT.BATCH
  let send (s : State) (dst : Nat) (p : Packet) : State := s.sendEdge n 7 dst .event p (e % 32 + 1)
  let s := if tw w 17 14 ≠ 0 then s.sendAttention n (BitVec.ofNat 4 (tw w 17 14)) g else s
  let s := if tw w 8 8 = 1 then
      (if target / 32 = n then s.signalTo e target (s.sliceCycle s.el + s.cycleLen) g
       else send s (target / 32) (.signal e target g)) else s
  let s := if tw w 10 10 = 1 then send s 9 (.stpTrigger (act RS_EACT.SLOT) e g) else s
  let s := if tw w 9 9 = 1 then send s 13 (.modeRequest (act RS_EACT.MODE) g) else s
  let s := if tw w 12 12 = 1 then send s 22 (.bopen batch e g) else s
  let s := if tw w 11 11 = 1 then send s 22 (.bclose batch e g) else s
  if tw w 13 13 = 1 then
    let sub := s.subject e
    let r : EvRec := s.dated { gts := g.gts, value := BitVec.ofInt 32 (satI 32 q), kind := sub.1, subj := sub.2, rule := e
                               cause := tw w 7 0, count := 1, trans := cls.code * 64 + before * 8 + after
                               eflags := 0, epoch := g.epoch } g
    match g.ring with
    | some k => s.setSlice n { s.slice n with unready := (s.slice n).unready ++ [(k, r)] }
    | none => s.eventOut n r
  else s

/-- The transition of R146 on an input of a class: counters, guard, timer, state, actions; run tells whether the timer runs as
the input finds it. -/
def State.transition (s : State) (e : Nat) (cls : InClass) (q : Int) (g : Stamp) (run : Bool) : State :=
  let x := s.engine e
  let w := s.cword (RS_TRANS.addr e (4 * x.st + cls.code))
  let c0 := counterOp (tw w 23 22) x.c0
  let c1 := counterOp (tw w 21 20) x.c1
  let ok := s.guard e w c0 c1 run
  let deadline := match tw w 19 18 with
    | 0 => x.deadline
    | 2 => none
    | _ => some (s.el + s.timerNs e)
  let st := if ok then tw w 31 29 else tw w 28 26
  let s := s.setEngine e { x with c0, c1, deadline, st, lastIn := cls.code }
  if ok then s.actions e w cls x.st st q g else s

/-- When a timer that ends at d has expired, R147, on the model's clock and in local time: at d; while the KEEP timekeeper
carries time at the first tick of the crystal at or after d. -/
def State.expired (s : State) (d : Nat) : Option (Nat × BitVec 80) :=
  if s.time.keepCarries then
    let last := s.el * 32768 - s.time.xkPhase
    if d * 32768 ≤ last then
      let n := (last - d * 32768) / 1000000000
      some (ceilDiv (last - n * 1000000000) 32768,
        nearest80 (s.time.keep - BitVec.ofInt 104 (n * s.tickStep)))
    else none
  else if d ≤ s.el then some (d, s.now - BitVec.ofNat 80 (nsToFrac (s.el - d)))
  else none

/-- Whether an engine's timer runs as an input of a dispatch cycle finds it, R145 and R147: it stops at its expiry. -/
def State.timerRuns (s : State) (e cycle : Nat) : Bool :=
  match (s.engine e).deadline with
  | none => false
  | some d => (s.expired d).all (fun x => decide (cycle ≤ s.sliceCycle x.1))

/-- The parity failure of R154: the engine disarms itself and takes no inputs, its timer stops, RS_FAULTS shows it and the
fault report names its rule ID. -/
def State.parityFail (s : State) (e word : Nat) : State :=
  let s := s.setEngine e { s.engine e with faulted := true, deadline := none, remaining := none, inq := [] }
  let a := RS_FAULTS.addr (e / 32)
  let s := s.setReg a (s.reg a ||| Word.ofNat (2 ^ (e % 32)))
  s.raiseFault 2 0x0006 (e / 32 * 65536 + 0x0200 + e) word

/-! ## Instants that a gated ring measures, R163 -/

/-- A packet whose instant gated ring k measures, with that instant. -/
def Packet.resolve (k : Nat) (g : Stamp) : Packet → Packet
  | .attention b x => .attention b (if x.ring = some k then g else x)
  | .stpTrigger n e x => .stpTrigger n e (if x.ring = some k then g else x)
  | .modeRequest m x => .modeRequest m (if x.ring = some k then g else x)
  | .bopen h e x => .bopen h e (if x.ring = some k then g else x)
  | .bclose h e x => .bclose h e (if x.ring = some k then g else x)
  | .signal a b x => .signal a b (if x.ring = some k then g else x)
  | p => p

/-- An input whose instant gated ring k measures, with that instant. -/
def EngIn.resolve (k : Nat) (g : Stamp) : EngIn → EngIn
  | .edge p up x => .edge p up (if x.ring = some k then g else x)
  | .signal a x => .signal a (if x.ring = some k then g else x)
  | i => i

/-- The capture of gated ring k is complete, R163: what waits with its instant has it, and the event records that waited for it
leave their slices. -/
def State.resolveRing (s : State) (k : Nat) (g : Stamp) : State :=
  let merges := s.merges.map (fun m => (m.1, { m.2 with wait := m.2.wait.map (fun w => { w with pkt := w.pkt.resolve k g }) }))
  let engines := s.engines.map (fun x => (x.1, { x.2 with inq := x.2.inq.map (fun i => (i.1, i.2.resolve k g)) }))
  let s := { s with merges, engines, arrived := s.arrived.map (fun p => p.resolve k g) }
  (List.range 8).foldl (fun s n =>
    let x := s.slice n
    let s := if x.unready.isEmpty then s else s.setSlice n { x with unready := x.unready.filter (fun r => decide (r.1 ≠ k)) }
    (x.unready.filter (fun r => decide (r.1 = k))).foldl (fun s r => s.eventOut n (s.dated r.2 g)) s) s

end Sys2Proof.Machine
end

