-- ==== Sys2Proof/Machine/LogOps.lean ====
section
/-! DEFINITION. Batch rings, segments and batches, R185 to R199, and what a power-down does to them, R205 and R206. -/

namespace Sys2Proof.Machine

/-! ## Records and their encodings, R191 to R193 -/

/-- The GTS of a staged record. -/
def Staged.gts : Staged → Gts
  | .lane r => r.gts
  | .event r => r.gts
/-- The epoch of a staged record. -/
def Staged.epoch : Staged → Nat
  | .lane r => r.epoch
  | .event r => r.epoch
/-- The 24 bytes of a staged record, R100 and R155. -/
def Staged.bytes : Staged → List Byte
  | .lane r => laneBytes r
  | .event r => eventBytes r

/-- The low k bits of n, least significant first. -/
def bitsOf : Nat → Nat → List Bool
  | 0, _ => []
  | k + 1, n => (n % 2 == 1) :: bitsOf k (n / 2)

/-- Bits as bytes, least significant first; the last byte is filled with 0. -/
def bytesOfBits : Nat → List Bool → List Byte
  | 0, _ => []
  | _, [] => []
  | k + 1, l => BitVec.ofNat 8 ((l.take 8).foldr (fun b n => 2 * n + b2n b) 0) :: bytesOfBits k (l.drop 8)

/-- The zigzag of R193. -/
def zigzag (v : Int) : Nat := if 0 ≤ v then 2 * v.toNat else 2 * (-v).toNat - 1

/-- The Rice code of R193 with parameter k and an escape width; none where the field needs more than that width. -/
def rice (k esc n : Nat) : Option (List Bool) :=
  let q := n / 2 ^ k
  if q < 16 then some (List.replicate q true ++ [false] ++ bitsOf k n)
  else if n < 2 ^ esc then some (List.replicate 16 true ++ bitsOf esc n)
  else none

/-- The encoder's context of a lane at the opening of a segment, R193. -/
def Seg.ctxOf (g : Seg) (l : Nat) : Ctx :=
  (Tab.find g.ctx l).getD
    { t := g.base.t.toNat, delta := 0, unc := g.base.unc.toNat, flags := 0, seq := 0xFFFF, value := 0 }

/-- The bits of a compressed record and the lane's context after it, R193. -/
def Seg.compress (g : Seg) (r : LaneRec) : Option (List Bool × Ctx) :=
  let l := r.lane % 16
  let c := g.ctxOf l
  let t : Int := r.gts.t.toNat
  let same := 0 < g.nrec ∧ r.gts.t.toNat = g.lastT
  let unc := r.gts.unc.toNat
  match (if same then some [] else rice g.kt 50 (zigzag (t - c.t - c.delta))), rice g.kv 33 (zigzag (r.value.toInt - c.value)) with
  | some dt, some dv =>
    some (bitsOf 4 l ++ [decide same] ++ dt ++
        (if unc = c.unc then [true] else false :: bitsOf 16 unc) ++
        (if r.flags = c.flags then [true] else false :: bitsOf 11 r.flags) ++
        (if r.seq = (c.seq + 1) % 65536 then [true] else false :: bitsOf 16 r.seq) ++ dv,
      { t, delta := t - c.t, unc, flags := r.flags, seq := r.seq, value := r.value.toInt })
  | _, _ => none

/-- The bytes of a relative record, R192; none where its time lies before BASE or too far after it. -/
def Seg.relative (g : Seg) (r : LaneRec) : Option (List Byte) :=
  if r.gts.t < g.base.t ∨ 2 ^ 48 ≤ r.gts.t.toNat - g.base.t.toNat then none
  else some (leBytes 6 (r.gts.t.toNat - g.base.t.toNat) ++ leBytes 2 r.gts.unc.toNat ++ leBytes 4 r.value.toNat ++
    leBytes 2 (r.lane % 16 * 4096 + r.flags % 2048) ++ leBytes 2 r.seq)

/-- A record put into a segment: the payload offset and bytes it writes, and the segment after it; none where the record
does not fit or its fields do not, R189. The part of a byte already in use is given as prev. -/
def Seg.add (g : Seg) (x : Staged) (prev : Byte) : Option (Nat × List Byte × Seg) :=
  let put (b : List Byte) : Option (Nat × List Byte × Seg) :=
    if g.used + b.length ≤ 4048 then
      some (g.used, b, { g with used := g.used + b.length, nrec := g.nrec + 1, lastT := x.gts.t.toNat })
    else none
  match g.fmt, x with
  | 1, .lane r => (g.relative r).bind put
  | 2, .lane r =>
    match g.compress r with
    | some (bits, c) =>
      if g.used + bits.length ≤ 4048 * 8 then
        let all := bitsOf (g.used % 8) prev.toNat ++ bits
        some (g.used / 8, bytesOfBits all.length all,
          { g with used := g.used + bits.length, nrec := g.nrec + 1, lastT := r.gts.t.toNat
                   ctx := Tab.put g.ctx (r.lane % 16) c })
      else none
    | none => none
  | _, _ => put x.bytes

/-! ## Segments, R186 to R190 -/

/-- A field of a ring's committed LOG_RCFGr. -/
def State.rcfg (s : State) (r : Nat) (f : Fld) : Nat := s.cfld (LOG_RCFG.addr r) f
/-- The pages of a ring's committed set. -/
def State.rsize (s : State) (r : Nat) : Nat := s.cfld (LOG_RSIZE.addr r) LOG_RSIZE.SEGS
/-- The first page of a ring's committed set. -/
def State.rbase (s : State) (r : Nat) : Nat := s.cfld (LOG_RBASE.addr r) LOG_RBASE.PAGE
/-- The encoding of a ring, R191: event rings always use FMT 0, and 11b acts as 00b. -/
def State.rfmt (s : State) (r : Nat) : Nat :=
  let f := s.rcfg r LOG_RCFG.FMT
  if 32 ≤ r ∨ f = 3 then 0 else f

/-- SFLAGS of a segment, R187. -/
def Seg.sflags (g : Seg) : Nat := b2n g.closed + 2 * b2n g.lost + 4 * b2n g.aged + 8 * b2n g.cut

/-- The payload bytes in use. -/
def Seg.usedBytes (g : Seg) : Nat := if g.fmt = 2 then ceilDiv g.used 8 else g.used

/-- The 48 header bytes of a segment of ring r with a CRC, R187. -/
def Seg.header (g : Seg) (r crc : Nat) : List Byte :=
  [0x47, 0x53, 0x45, 0x47] ++ leBytes 1 r ++ leBytes 1 g.fmt ++ leBytes 1 g.epoch ++ leBytes 1 g.sflags ++
    leBytes 4 g.sseq ++ gtsBytes g.base ++ leBytes 2 g.nrec ++ leBytes 2 g.used ++ leBytes 4 crc ++
    leBytes 8 identityWord.toNat ++ leBytes 4 0xFFFFFFFF ++ leBytes 1 g.kt ++ leBytes 1 g.kv ++ [0, 0]

/-- The CRC of R187 over a block's header and its payload bytes in use. -/
def blockCrc (h payload : List Byte) : Nat := crc32 (slice h 0 28 ++ slice h 32 8 ++ slice h 44 4 ++ payload)

/-- The open segment of a ring. -/
def BatchRing.open_ (x : BatchRing) : Option Seg :=
  match x.segs.getLast? with
  | some g => if g.closed then none else some g
  | none => none

/-- A ring with its newest segment replaced. -/
def BatchRing.setLast (x : BatchRing) (g : Seg) : BatchRing := { x with segs := x.segs.dropLast ++ [g] }

/-- A segment of a ring by its SSEQ. -/
def State.segBySeq (s : State) (r q : Nat) : Option Seg := (s.ring r).segs.find? (fun g => g.sseq = q)

/-- Whether a segment in the closing order still waits to be written to the log, if its ring's LOGEN is 1. -/
def State.unwritten (s : State) (e : Nat × Nat) : Bool := (s.segBySeq e.1 e.2).any (fun g => g.closed && !g.flushed)

/-- The closed segments that wait to be flushed, in the order in which they closed, R201: those of rings whose LOGEN is 1. -/
def State.backlog (s : State) : List (Nat × Nat) :=
  s.flusher.order.filter (fun e => decide (s.rcfg e.1 LOG_RCFG.LOGEN = 1) && s.unwritten e)

/-- The open segment of ring r closed, R189 and R190: CRC, then SFLAGS with CLOSED and the cause. It joins the closing
order of R201, from which the segments that are gone or flushed are dropped. -/
def State.closeSeg (s : State) (r : Nat) (aged cut : Bool) : State :=
  match (s.ring r).open_ with
  | none => s
  | some g =>
    let g := { g with closed := true, aged, cut := g.cut || cut }
    let crc := blockCrc (g.header r 0) (s.load (g.page * 0x1000 + 48) g.usedBytes)
    let s := (s.store (g.page * 0x1000) (g.header r crc)).setRing r ((s.ring r).setLast g)
    { s with flusher := { s.flusher with order := s.flusher.order.filter s.unwritten ++ [(r, g.sseq)] } }

/-- The open segment closed with CUT where it holds records, R189. -/
def State.cutSeg (s : State) (r : Nat) : State :=
  match (s.ring r).open_ with
  | some g => if 0 < g.nrec then s.closeSeg r false true else s
  | none => s

/-- Whether a segment is pinned, R196 and R198. -/
def State.pinned (s : State) (r : Nat) (g : Seg) : Bool :=
  (decide (s.rcfg r LOG_RCFG.LOGEN = 1) && !g.flushed) ||
    s.handles.any (fun e => decide (e.2.ring = r ∧ e.2.first ≤ g.sseq) &&
      (match e.2.st with
      | .opened => true
      | .closed => decide (g.sseq < e.2.first + e.2.segs)
      | _ => false))

/-- The ring with its next page free to open a segment in, R186 and R196: the segment in that page, its oldest, goes where it
may be reused; none where the writer cannot append. -/
def State.freePage (s : State) (r : Nat) : Option BatchRing :=
  let x := s.ring r
  let page := s.rbase r + x.nextPage
  if s.rsize r = 0 then none
  else match x.segs.find? (fun g => g.page = page) with
    | none => some x
    | some g =>
      if s.pinned r g || (decide (s.rcfg r LOG_RCFG.FULL = 1) && decide (x.release ≤ g.sseq)) then none
      else some { x with segs := x.segs.filter (fun g => g.page ≠ page) }

/-- A segment opened with a record, R190. -/
def State.openSeg (s : State) (r : Nat) (x : Staged) (b : BatchRing) : State :=
  let g : Seg :=
    { page := s.rbase r + b.nextPage, sseq := b.nextSseq, epoch := x.epoch, fmt := s.rfmt r, kt := s.rcfg r LOG_RCFG.KT
      kv := s.rcfg r LOG_RCFG.KV, base := x.gts, nrec := 0, used := 0, closed := false, aged := false
      cut := b.markCut, lost := b.markLost, flushed := false, lastT := x.gts.t.toNat, ctx := [] }
  match g.add x 0 with
  | none => s
  | some (o, bytes, g) =>
    let b := { b with segs := b.segs ++ [g], nextSseq := b.nextSseq + 1, nextPage := (b.nextPage + 1) % max 1 (s.rsize r)
                      markLost := false, markCut := false }
    ((s.store (g.page * 0x1000 + 48 + o) bytes).store (g.page * 0x1000) (g.header r 0)).setRing r b

/-- The head of a ring's staging space taken: its place is free, and for a tile ring a credit goes back, R570. -/
def State.unstage (s : State) (r : Nat) : State :=
  let x := s.ring r
  let s := s.setRing r { x with staged := x.staged.drop 1 }
  if r < 32 then s.setTile r { s.tile r with returning := (s.tile r).returning + 1 } else s

/-- Whether the open segment takes a record: its epoch is the segment's, and it fits, R189. -/
def State.intoOpen (s : State) (r : Nat) (x : Staged) : Option (Nat × List Byte × Seg) :=
  match (s.ring r).open_ with
  | none => none
  | some g =>
    if g.epoch = x.epoch then g.add x (memRead s.mem (g.page * 0x1000 + 48 + g.used / 8)) else none

/-- The power domain of a page's bank. -/
def bankOf (page : Nat) : Nat := 0x1600 + page / 32

/-- The oldest staged record of a ring written, R189 to R198. With no room the record waits for a tile ring, and is
refused and counted for an event ring. -/
def State.append (s : State) (r : Nat) : State :=
  match (s.ring r).staged with
  | [] => s
  | x :: _ =>
    if s.rcfg r LOG_RCFG.EN = 0 then (s.bump (LOG_RSTAT.addr r) LOG_RSTAT.DROP 1).unstage r
    else match s.intoOpen r x with
      | some (o, bytes, g) =>
        s.withDomain (bankOf g.page) (fun s =>
          let s := (s.store (g.page * 0x1000 + 48 + o) bytes).store (g.page * 0x1000) (g.header r 0)
          (s.setRing r ((s.ring r).setLast g)).unstage r)
      | none =>
        let s := s.closeSeg r false false
        match s.freePage r with
        | some b => s.withDomain (bankOf (s.rbase r + b.nextPage)) (fun s => (s.openSeg r x b).unstage r)
        | none => if r < 32 then s else (s.bump (LOG_RSTAT.addr r) LOG_RSTAT.DROP 1).unstage r

/-- Whether the writer can append to a ring now, R196. -/
def State.canAppend (s : State) (r : Nat) : Bool := (s.ring r).open_.isSome || (s.freePage r).isSome

/-! ## Batches, R197 and R198 -/

/-- SSEQ of the segment that receives the ring's next record, once the open segment is closed. -/
def State.seqNext (s : State) (r : Nat) : Nat := (s.ring r).nextSseq
/-- SSEQ of the oldest valid segment, or the SSEQ the next one will take, R214. -/
def State.seqOldest (s : State) (r : Nat) : Nat := ((s.ring r).segs.head?.map (·.sseq)).getD (s.ring r).nextSseq
/-- LOG_RSEQr, R214. -/
def State.seqShown (s : State) (r : Nat) : Nat := ((s.ring r).open_.map (·.sseq)).getD (s.ring r).nextSseq

/-- SEGS of a batch, R198: from FIRST up to the newest segment that holds records. -/
def State.segsOf (s : State) (h : Nat) : Nat :=
  let x := s.handle h
  match x.st with
  | .opened => (s.ring x.ring).nextSseq - x.first
  | .closed => x.segs
  | _ => 0

/-- A batch command on a FREE handle, R184 and R536: a BATCH_UNARMED report. -/
def State.unarmed (s : State) (h : Nat) (rule : Option Nat) : State :=
  match rule with
  | some e => s.raiseFault 2 0x0032 (e / 32 * 65536 + 0x0200 + e) h
  | none => s.raiseFault 4 0x0032 0x1300 h

/-- ARM, R197. -/
def State.batchArm (s : State) (r h : Nat) : State :=
  if (s.handle h).st = .free ∧ r ≤ 39 then s.setHandle h { st := .armed, ring := r, first := 0, segs := 0 }
  else s.setFld LOG_STATUS.addr LOG_STATUS.BERR 1

/-- OPEN, R197 and R198, by LOG_BCMD or by a rule. -/
def State.batchOpen (s : State) (h : Nat) (rule : Option Nat) : State :=
  let x := s.handle h
  match x.st with
  | .free => s.unarmed h rule
  | .armed =>
    let s := s.cutSeg x.ring
    let first := max (s.seqNext x.ring - s.rcfg x.ring LOG_RCFG.PRE) (s.seqOldest x.ring)
    s.setHandle h { x with st := .opened, first }
  | _ => s

/-- CLOSE, R197 and R198, by LOG_BCMD or by a rule. -/
def State.batchClose (s : State) (h : Nat) (rule : Option Nat) : State :=
  let x := s.handle h
  match x.st with
  | .free => s.unarmed h rule
  | .opened =>
    let s := s.cutSeg x.ring
    s.setHandle h { x with st := .closed, segs := s.segsOf h }
  | _ => s

/-- RELEASE, R197. -/
def State.batchRelease (s : State) (h : Nat) : State :=
  if (s.handle h).st = .free then s.setFld LOG_STATUS.addr LOG_STATUS.BERR 1 else s.setHandle h Handle.reset

/-! ## Power-down, R205 and R206 -/

/-- Whether a bank keeps its contents once mode m has been entered, R205 and R425. -/
def State.bankKept (s : State) (m page : Nat) : Bool := s.stateIn m (bankOf page) ≠ .off

/-- The open segments in banks that mode m would not keep closed with CUT, R205. -/
def State.cutUnkept (s : State) (m : Nat) : State :=
  (List.range 40).foldl (fun s r =>
    match (s.ring r).open_ with
    | some g => if s.bankKept m g.page then s else s.cutSeg r
    | none => s) s

/-- Whether LOG answers REFUSE with LOG_UNFLUSHED, R205. -/
def State.unflushed (s : State) (m : Nat) : Bool :=
  s.fld LOG_CTL.addr LOG_CTL.FLUSHDN = 1 &&
    (List.range 40).any (fun r => decide (s.rcfg r LOG_RCFG.LOGEN = 1) &&
      (s.ring r).segs.any (fun g => g.closed && !g.flushed && !s.bankKept m g.page))

/-- The segments of lost banks are invalid, R206: the ring's next segment carries LOST, and LOSTSEG counts. -/
def State.loseSegs (s : State) (lost : Nat → Bool) : State :=
  (List.range 40).foldl (fun s r =>
    let x := s.ring r
    let gone := x.segs.countP (fun g => lost (g.page / 32))
    if gone = 0 then s
    else (s.setRing r { x with segs := x.segs.filter (fun g => !lost (g.page / 32)), markLost := true }).bump
      (LOG_RSTAT.addr r) LOG_RSTAT.LOSTSEG gone) s

/-! ## The flusher, R200 to R203 -/

/-- The size of an erase sector that a LOG_FCFG word gives, R215. -/
def sectorSize (w : Word) : Nat :=
  match fget w LOG_FCFG.ERASE with
  | 1 => 0x20000
  | 2 => 0x40000
  | _ => 0x10000

/-- The CSP that a LOG_FCFG word names: 6 and 7 act as 0, R215. -/
def flashCsp (w : Word) : Nat := let n := fget w LOG_FCFG.CSP; if 6 ≤ n then 0 else n

/-- The state with the flusher replaced. -/
def State.setFlusher (s : State) (x : Flusher) : State := { s with flusher := x }

/-- The data blocks of a sector, R200. -/
def State.dataBlocks (s : State) : Nat := sectorSize (s.cword LOG_FCFG.addr) / 0x1000 - 1
/-- The next block of the log within its sector. -/
def State.fblock (s : State) : Nat := s.fld LOG_FHEAD.addr LOG_FHEAD.BLOCK
/-- The next sector of the log. -/
def State.fsector (s : State) : Nat := s.fld LOG_FHEAD.addr LOG_FHEAD.SECTOR
/-- The flash address of the next block. -/
def State.flashAt (s : State) : Nat :=
  (s.cword LOG_FBASE.addr).toNat + s.fsector * sectorSize (s.cword LOG_FCFG.addr) + s.fblock * 0x1000

/-- Whether the flusher may act: FLEN is 1, it has not stopped, LOG holds the CSP, and the region holds a sector. -/
def State.flushing (s : State) : Bool :=
  s.works 0x1300 && s.fld LOG_CTL.addr LOG_CTL.FLEN = 1 && !s.flusher.stopped &&
    decide (s.cfld LOG_FSIZE.addr LOG_FSIZE.SECTORS ≠ 0) && s.ownerOf 3 (20 + flashCsp (s.cword LOG_FCFG.addr)) == 0x1300

/-- The frames that write n bytes at a flash address from a buffer, R203 and R397: for each page a Write Enable, a Page Program and
a Read Status poll. -/
def State.programFrames (s : State) (addr buf n : Nat) : List LogFrame :=
  let z := if s.cfld LOG_FCFG.addr LOG_FCFG.PAGE = 1 then 512 else 256
  (List.range (ceilDiv n z)).flatMap (fun k =>
    [⟨10, 0, 0, 0⟩, ⟨11, addr + k * z, min z (n - k * z), buf + k * z⟩, ⟨13, 0, 0, 0⟩])

/-- The frames that erase the sector at a flash address, R203 and R397. -/
def eraseFrames (addr : Nat) : List LogFrame := [⟨10, 0, 0, 0⟩, ⟨12, addr, 0, 0⟩, ⟨13, 0, 0, 0⟩]

/-- The flusher begins a task with its frames and the flash's answer to it. -/
def State.flashTask (s : State) (t : FlashTask) (l : List LogFrame) (ans : Answer) : State :=
  s.setFlusher { s.flusher with task := some t, frames := l, fails := ans = .fail, part := [], got := none }

/-- The flusher's task ends. -/
def Flusher.idle (x : Flusher) : Flusher := { x with task := none, frames := [], fails := false, part := [], got := none }

/-- A flash operation failed, R202: a first failure is retried, a second one stops flushing with FERR and LOG_FLASH. -/
def State.flashFail (s : State) : State :=
  if s.flusher.retry then
    ((s.setFlusher { s.flusher.idle with retry := false, stopped := true }).setFld LOG_FSTAT.addr LOG_FSTAT.FERR 1).raiseFault
      4 0x0021 0x1300 s.flashAt
  else s.setFlusher { s.flusher.idle with retry := true }

/-- The header and entries of a sector's index block, R201. -/
def State.indexImage (s : State) : List Byte :=
  let e := s.flusher.entries.flatten
  let h (crc : Nat) : List Byte :=
    [0x47, 0x53, 0x45, 0x47] ++ [0xFF, 0x0F] ++ leBytes 1 s.epoch ++ [1] ++ leBytes 4 0 ++
      (e.take 24).drop 12 ++ leBytes 2 s.flusher.entries.length ++ leBytes 2 e.length ++ leBytes 4 crc ++
      leBytes 8 identityWord.toNat ++ leBytes 4 (s.reg LOG_FLSN.addr).toNat ++ [0, 0, 0, 0]
  h (blockCrc (h 0) e) ++ e

/-- The log goes on with the next sector once the index block is written; a full region wraps, or with FULL 1 stops flushing with
FERR, R201 and R202. -/
def State.nextSector (s : State) : State :=
  let last := s.fsector + 1 = s.cfld LOG_FSIZE.addr LOG_FSIZE.SECTORS
  let s := s.setFlusher { s.flusher.idle with entries := [], erased := none, retry := false }
  let s := s.setReg LOG_FLSN.addr (s.reg LOG_FLSN.addr + 1)
  let s := s.setReg LOG_FHEAD.addr (pack [(LOG_FHEAD.SECTOR, if last then 0 else s.fsector + 1)])
  if last ∧ s.cfld LOG_FCFG.addr LOG_FCFG.FULL = 1 then
    (s.setFlusher { s.flusher with stopped := true }).setFld LOG_FSTAT.addr LOG_FSTAT.FERR 1
  else s

/-- A frame of LOG has ended with an error or with the bytes read, R202 and R395. With its task's last frame the task fails
where the flash reports so; else the sector is erased, the block is programmed and is read back, the block has been read, or
the index is written. -/
def State.logFrameDone (s : State) (desc err : Nat) (data : List Byte) : State :=
  if err ≠ 0 then s.flashFail
  else
    let x := s.flusher
    let x := if desc = 14 then { x with got := some (x.part ++ data), part := [] } else x
    if !x.frames.isEmpty then s.setFlusher x
    else if x.fails then s.flashFail
    else match x.task with
      | some .erase => s.setFlusher { x.idle with erased := some s.fsector, retry := false, entries := [] }
      | some (.program r q) => s.setFlusher { x with task := some (.readBack r q), frames := [⟨14, s.flashAt, 4096, 0⟩] }
      | some .index => s.nextSector
      | _ => s.setFlusher x

/-- The frame that LOG has waiting for clocked serial port n, R398, with the state once it has begun. -/
def State.logFrame (s : State) (n : Nat) : Option (LogFrame × State) :=
  if s.flushing ∧ flashCsp (s.cword LOG_FCFG.addr) = n then
    match s.flusher.frames with
    | f :: r => some (f, s.setFlusher { s.flusher with frames := r })
    | [] => none
  else none

end Sys2Proof.Machine
end

