-- ==== Sys2Proof/Machine/Twb.lean ====
section
/-! DEFINITION. The two-wire bus controllers, R362 to R387. -/

namespace Sys2Proof.Machine

/-- The power domain of bus n, R435. -/
def twbBlock (n : Nat) : Nat := 0x2000 + n
/-- A field of the bus's committed configuration. -/
def State.twbCfg (s : State) (n : Nat) (f : Fld) : Nat := s.cfld (TWB_CFG.addr n) f
/-- Units of BFREE in ns, R373. -/
def State.bfree (s : State) (n : Nat) : Nat := s.cfld (TWB_TIMING2.addr n) TWB_TIMING2.BFREE * 10
/-- The bus clock period in ns, R372. -/
def State.twbPeriod (s : State) (n : Nat) : Nat :=
  (s.cfld (TWB_TIMING.addr n) TWB_TIMING.SCLH + s.cfld (TWB_TIMING.addr n) TWB_TIMING.SCLL) * 10
/-! ## Descriptors, R364 and R365 -/

/-- A field of a word TWBn_DESCAd. -/
def da (w : Word) (f : Fld) : Nat := fget w f

/-- The bytes of the address phase with R/W rw; the second byte only at a first START. -/
def addressBytes (w : Word) (rw : Nat) (again : Bool) : List Byte :=
  let a := da w TWB_DESCA.ADDR
  if da w TWB_DESCA.TEN = 1 then
    BitVec.ofNat 8 (0xF0 + a / 256 % 4 * 2 + rw) :: (if again then [] else [BitVec.ofNat 8 a])
  else [BitVec.ofNat 8 (a % 128 * 2 + rw)]

/-- The kind of a descriptor: 101b to 111b act as 001b with WLEN 0. -/
def descKind (w : Word) : Nat := let k := da w TWB_DESCA.KIND; if 5 ≤ k then 1 else k
/-- The write bytes of a descriptor. -/
def writeBytes (w : Word) (b : Word) : List Byte :=
  if 5 ≤ da w TWB_DESCA.KIND then [] else (leBytes 4 b.toNat).take (da w TWB_DESCA.WLEN)

/-- The bytes on the bus of a transaction that reads the given bytes, in bus order, the PEC byte left out. -/
def busBytes (w b : Word) (data : List Byte) : List Byte :=
  match descKind w with
  | 0 => addressBytes w 0 false ++ writeBytes w b ++ addressBytes w 1 (da w TWB_DESCA.STOPMID = 0) ++ data
  | 1 => addressBytes w 0 false ++ writeBytes w b
  | _ => (if da w TWB_DESCA.TEN = 1 then addressBytes w 0 false else []) ++
      addressBytes w 1 (da w TWB_DESCA.TEN = 1) ++ data

/-- How many bytes the device sends in a transaction, the PEC byte included. -/
def readCount (w : Word) : Nat := if descKind w = 1 then 0 else da w TWB_DESCA.RLEN + da w TWB_DESCA.PEC

/-! ## What a transaction delivers -/

/-- TWBn_STATUS as it reads, R383. -/
def State.twbStatus (s : State) (n : Nat) : Word :=
  let x := s.bus n
  let w := s.reg (TWB_STATUS.addr n)
  let set (w : Word) (f : Fld) (b : Bool) : Word := fset w f (b2n b)
  let manual := !x.manual.isEmpty || x.job.any (fun j => j.user = .manual)
  set (set (set (set (set w TWB_STATUS.BUSBUSY (x.job.isSome || decide (s.el < x.freeAt))) TWB_STATUS.ACTIVE x.job.isSome)
    TWB_STATUS.STUCK x.stuck) TWB_STATUS.PENDING x.setPending) TWB_STATUS.MBUSY manual

/-- The reply of a LANE_CONFIG that waited for its manual transactions, once the last of them has ended, R386. -/
def State.manReplyDone (s : State) (n : Nat) : State :=
  let x := s.bus n
  match x.manReply with
  | some w =>
    if x.manual.isEmpty ∧ !x.job.any (fun j => j.user = .manual) then
      (s.setBus n { x with manReply := none }).reply w.port { seq := w.seq, op := w.mode, lens := [], payload := [] } 0
        ([0, 0] ++ leBytes 4 (s.twbStatus n).toNat)
    else s
  | none => s

/-- The end of a transaction for its user, R366, R384 and R385: its error, or the bytes acquired. -/
def State.twbDone (s : State) (n : Nat) (j : TwbJob) (err : Nat) (b : List Byte) : State :=
  let s := if err = 0 then s else s.bump (TWB_STAT.addr n) TWB_STAT.ERRS 1
  match j.user with
  | .tile t lanes =>
    let s := s.setFld (TWB_STATUS.addr n) TWB_STATUS.LERR err
    s.deliver t { lanes, gts := s.stampAt j.at_ (busPath (s.twbPeriod n)), epoch := j.epoch
                  val := if err = 0 then .bytes b else .failed, ow := false, late := j.late }
  | .log => s
  | .manual =>
    let s := s.setFld (TWB_STATUS.addr n) TWB_STATUS.MERR err
    let s := (List.range b.length).foldl (fun s i =>
      let a := TWB_MDATA.addr n (i / 4)
      s.setReg a (fset (s.reg a) ⟨8 * (i % 4) + 7, 8 * (i % 4), .ro, 0⟩ (b.getD i 0).toNat)) s
    s.manReplyDone n

/-- The bus is free BFREE after a STOP, R373. -/
def State.twbFree (s : State) (n : Nat) : State := s.setBus n { s.bus n with job := none, freeAt := s.el + s.bfree n }

/-- The head of the alert queue removed, R377: its address, and the entries left. -/
def State.alertPop (s : State) (n : Nat) : State × List Byte :=
  match (s.bus n).alerts with
  | [] => (s, [0, 0])
  | a :: r => (s.setBus n { s.bus n with alerts := r }, [BitVec.ofNat 8 (128 + a), BitVec.ofNat 8 r.length])

/-- The 64 bytes of the target buffer. -/
def State.tdata (s : State) (n : Nat) : List Byte :=
  (List.range 16).flatMap (fun k => leBytes 4 (s.reg (TWB_TDATA.addr n k)).toNat)

/-! ## The set, R379 -/

/-- The checks of R379 on the shadow set; 0 where it passes. -/
def State.twbCheck (s : State) (n : Nat) : Nat :=
  let mode := let m := s.fld (TWB_CFG.addr n) TWB_CFG.MODE; if m = 3 then 0 else m
  let pick (a b c : Nat) : Nat := if mode = 0 then a else if mode = 1 then b else c
  let h := s.fld (TWB_TIMING.addr n) TWB_TIMING.SCLH
  let l := s.fld (TWB_TIMING.addr n) TWB_TIMING.SCLL
  let hold := s.fld (TWB_TIMING2.addr n) TWB_TIMING2.SDAHOLD
  let some_ (p : Word → Bool) : Bool :=
    (List.range 32).any (fun d => let w := s.reg (TWB_DESCA.addr n d); decide (da w TWB_DESCA.EN = 1) && p w)
  if h < pick 400 60 26 then 1
  else if l < pick 470 130 50 ∨ h + l < pick 1000 250 100 then 2
  else if l < hold + pick 25 10 5 then 3
  else if some_ (fun w => decide (4 < da w TWB_DESCA.WLEN) || decide (64 < da w TWB_DESCA.RLEN)) then 4
  else if some_ (fun w => (decide (da w TWB_DESCA.KIND = 0) || decide (da w TWB_DESCA.KIND = 2)) &&
      decide (da w TWB_DESCA.RLEN = 0)) then 5
  else 0

/-- The committed set takes effect while the controller is idle and runs no clear, R379; where EN becomes 1 the bus is busy until both
lines have been high for BFREE (R373). -/
def State.twbSwitch (s : State) (n : Nat) : State :=
  if (s.bus n).setPending ∧ (s.bus n).job.isNone ∧ !(s.bus n).clearing then
    let was := s.twbCfg n TWB_CFG.EN
    let s := s.takeEffect (TWB_CFG.addr n) (TWB_CFG.addr n + 0x1000)
    let x := { s.bus n with setPending := false }
    s.setBus n (if was = 0 ∧ s.twbCfg n TWB_CFG.EN = 1 then { x with freeAt := s.el + s.bfree n } else x)
  else s

/-- A write of TWBn_COMMIT, R379. -/
def State.twbCommitGo (s : State) (n : Nat) : State :=
  let c := s.twbCheck n
  if c = 0 then
    let s := s.toPending (TWB_CFG.addr n) (TWB_CFG.addr n + 0x1000)
    (s.setBus n { s.bus n with setPending := true }).setFld (TWB_STATUS.addr n) TWB_STATUS.CERR 0
  else (s.setFld (TWB_STATUS.addr n) TWB_STATUS.REFUSED 1).setFld (TWB_STATUS.addr n) TWB_STATUS.CERR c

/-- TWB_COMMIT. -/
def twbCommit (n : Fin 8) (v : Word) (s : State) : State :=
  s.access (TWB_COMMIT.addr n) (fun s => if fget v TWB_COMMIT.GO = 1 then s.twbCommitGo n else s)
/-- TWB_COMMIT. -/
def execTwbCommit (p : Side) (n : Fin 8) (v : Word) (s : State) : Out :=
  .next (s.permitted p (TWB_COMMIT.addr n) true (twbCommit n v))

/-- TWB_SET_SWITCH. -/
def twbSetSwitch (n : Fin 8) (s : State) : State := s.twbSwitch n
/-- TWB_SET_SWITCH. -/
def execTwbSetSwitch (n : Fin 8) (s : State) : Out := .next (twbSetSwitch n s)

/-! ## Transactions -/

/-- The tile transactions waiting at a port with those abandoned taken out, R90: one that has not begun by the scheduled
instant of the next. Transactions of one instant follow each other (R95). -/
def State.abandonLate (s : State) (port : Nat) : State :=
  (s.portWait port).foldl (fun s _ =>
    match s.portWait port with
    | (t, x) :: r =>
      if r.any (fun y => decide (x.at_ < y.2.at_ ∧ y.2.at_ ≤ s.now)) then (s.setPortWait port r).missed t x.lanes else s
    | [] => s) s

/-- The tile transaction at the head that may begin now, R89: no earlier than one bus clock period before its instant. -/
def State.readyAt (s : State) (port period : Nat) : Option (Nat × Sent) :=
  match (s.portWait port).head? with
  | some (t, x) => if x.at_ ≤ addNs s.now period then some (t, x) else none
  | none => none

/-- Work that waits at a bus or port that is not powered asks for its wake in SAMPLE and above, R425 and R445. -/
def State.portWake (s : State) (d : Nat) (waits : Bool) : State :=
  if waits && !s.lowMode && !s.isOn d then s.requestWake d else s

/-- The next transaction in the order of R367 with its descriptor; alert responses have a step of their own. -/
def State.twbNext (s : State) (n : Nat) : Option (TwbJob × State) :=
  match s.readyAt (12 + n) (s.twbPeriod n) with
  | some (t, x) =>
    let late : Bool := addNs x.at_ (s.twbPeriod n) < s.now
    some ({ user := .tile t x.lanes, desc := x.cmd, at_ := if late then s.now else x.at_, late, epoch := s.epoch },
      s.setPortWait (12 + n) ((s.portWait (12 + n)).drop 1))
  | none =>
    match (s.bus n).manual with
    | d :: r => some ({ user := .manual, desc := d, at_ := s.now, late := false, epoch := s.epoch },
        s.setBus n { s.bus n with manual := r })
    | [] => none

/-- TWB_TRANSACTION_START: the controller starts the next ready transaction on a free bus, R367. A target snapshot, an
alert pop, a descriptor that is not enabled and a transaction on a stuck bus end at their turn (R364, R365, R375); one
that loses arbitration waits to start again (R368). -/
def twbTransactionStart (n : Fin 8) (lost : Bool) (s : State) : State :=
  let s := (s.twbSwitch n).abandonLate (12 + n)
  if s.portUp (twbBlock n) (12 + n) ∧ s.twbCfg n TWB_CFG.EN = 1 ∧ (s.bus n).job.isNone ∧ (s.bus n).freeAt ≤ s.el ∧
      !(s.bus n).clearing then
    match s.twbNext n with
    | none => s
    | some (j, s') =>
      let w := s.cword (TWB_DESCA.addr n j.desc)
      if 32 ≤ j.desc ∨ da w TWB_DESCA.EN = 0 then s'.twbDone n j 7 []
      else if (s.bus n).stuck then s'.twbDone n j 5 []
      else if descKind w = 3 then s'.twbDone n j 0 (s.tdata n)
      else if descKind w = 4 then let r := s'.alertPop n; r.1.twbDone n j 0 r.2
      else if lost then s.bump (TWB_STAT.addr n) TWB_STAT.ARBLOST 1
      else s'.setBus n { s'.bus n with job := some j }
  else s.portWake (twbBlock n) (!(s.portWait (12 + n)).isEmpty || !(s.bus n).manual.isEmpty)
/-- TWB_TRANSACTION_START. -/
def execTwbTransactionStart (n : Fin 8) (lost : Bool) (s : State) : Out := .next (twbTransactionStart n lost s)

/-- TWB_TRANSACTION_END: the transaction in progress ends with its bytes, checked by its PEC, or with an error, R365 and
R366. On a bank that is not good it ends as not acknowledged (R470, log entry 23). -/
def twbTransactionEnd (n : Fin 8) (r : BusEnd) (s : State) : State :=
  match (s.bus n).job with
  | none => s
  | some j =>
    let w := s.cword (TWB_DESCA.addr n j.desc)
    let b := s.cword (TWB_DESCB.addr n j.desc)
    let r := if s.vioOk 1 then r else .anack
    match r with
    | .anack => (s.twbFree n).twbDone n j 1 []
    | .dnack => (s.twbFree n).twbDone n j 2 []
    | .busErr => (s.twbFree n).twbDone n j 6 []
    | .bytes l =>
      if l.length ≠ readCount w then s
      else
        let data := l.take (readCount w - da w TWB_DESCA.PEC)
        if descKind w ≠ 1 ∧ da w TWB_DESCA.PEC = 1 ∧ crc8 (busBytes w b data) ≠ (l.getLast?.getD 0).toNat then
          (s.twbFree n).twbDone n j 3 []
        else (s.twbFree n).twbDone n j 0 (if descKind w = 1 then [] else data)
/-- TWB_TRANSACTION_END. -/
def execTwbTransactionEnd (n : Fin 8) (r : BusEnd) (s : State) : Out := .next (twbTransactionEnd n r s)

/-- TWB_TIMEOUT: SCL held low beyond the limit ends the transaction with TIMEOUT, R372; a clear follows once SCL is high, and
nothing starts before it has ended (R367, R374). -/
def twbTimeout (n : Fin 8) (s : State) : State :=
  match (s.bus n).job with
  | none => s
  | some j => (s.setBus n { s.bus n with job := none, clearing := true }).twbDone n j 4 []
/-- TWB_TIMEOUT. -/
def execTwbTimeout (n : Fin 8) (s : State) : Out := .next (twbTimeout n s)

/-! ## The target, R369 -/

/-- Whether the bus answers as a target, R369. -/
def State.isTarget (s : State) (n : Nat) : Bool :=
  let a := s.twbCfg n TWB_CFG.TADDR
  s.isOn (twbBlock n) && decide (s.twbCfg n TWB_CFG.TEN = 1) && decide (8 ≤ a) && decide (a < 0x78) &&
    !(decide (a = 0x0C) && decide (s.twbCfg n TWB_CFG.ALERTEN = 1)) && s.vioOk 1

/-- Bytes entered into a 64-byte buffer of registers, from an index up modulo 64. -/
def State.enterBytes (s : State) (addr : Nat → Nat) : Nat → List Byte → State
  | _, [] => s
  | i, b :: r =>
    let a := addr (i % 64 / 4)
    (s.setReg a (fset (s.reg a) ⟨8 * (i % 4) + 7, 8 * (i % 4), .rw, 0⟩ b.toNat)).enterBytes addr ((i + 1) % 64) r

/-- TWB_TARGET_WRITE: a remote write sets the index by its first byte; the bytes staged after it enter TDATA together at
its end, and nothing enters where it ends in an error, R369. -/
def twbTargetWrite (n : Fin 8) (bytes : List (BitVec 8)) (ok : Bool) (s : State) : State :=
  if s.isTarget n then
    s.withDomain (twbBlock n) (fun s =>
      match bytes with
      | [] => s
      | i :: r =>
        let at_ := i.toNat % 64
        let s := if ok then s.enterBytes (TWB_TDATA.addr n) at_ r else s
        s.setBus n { s.bus n with index := (at_ + r.length) % 64 })
  else s
/-- TWB_TARGET_WRITE. -/
def execTwbTargetWrite (n : Fin 8) (bytes : List (BitVec 8)) (ok : Bool) (s : State) : Out :=
  .next (twbTargetWrite n bytes ok s)

/-- The key under which the bytes that a remote controller's latest read received are kept (log entry 8). -/
def targetKey (port : Nat) : Nat := 6 * 2 ^ 32 + port

/-- n bytes of a 64-byte buffer from an index up modulo 64. -/
def wrapBytes (l : List Byte) (i n : Nat) : List Byte := (List.range n).map (fun k => l.getD ((i + k) % 64) 0)

/-- TWB_TARGET_READ: a remote read is sent bytes of a copy of TDATA from the index, R369. -/
def twbTargetRead (n : Fin 8) (count : Nat) (s : State) : State :=
  if s.isTarget n then
    s.withDomain (twbBlock n) (fun s =>
      let i := (s.bus n).index
      let b := wrapBytes (s.tdata n) i count
      { s with snaps := Tab.put s.snaps (targetKey (12 + n)) (b.map (fun (x : Byte) => Word.ofNat x.toNat)) }.setBus n
        { s.bus n with index := (i + count) % 64 })
  else s
/-- TWB_TARGET_READ. -/
def execTwbTargetRead (n : Fin 8) (count : Nat) (s : State) : Out := .next (twbTargetRead n count s)

/-! ## Clears and alerts, R374 to R377 -/

/-- The end of a bus clear. -/
def State.clearEnd (s : State) (n : Nat) (r : ClearEnd) : State :=
  let x := { s.bus n with clearing := false }
  match r with
  | .stop => (s.bump (TWB_STAT.addr n) TWB_STAT.CLEARS 1).setBus n { x with stuck := false, freeAt := s.el + s.bfree n }
  | .high => s.setBus n { x with stuck := false, freeAt := s.el }
  | .start => s.setBus n x
  | .low =>
    let retry := max 1 (s.cfld (TWB_RECOV.addr n) TWB_RECOV.RETRY) * 1000000
    let s := if x.stuck then s else s.raiseFault 4 0x0024 (twbBlock n) 0
    s.setBus n { x with stuck := true, clearAt := s.el + retry }

/-- BUS_CLEAR: a clear ends with a STOP, or the bus is stuck and BUS_STUCK is raised, R374 and R375. -/
def busClear (n : Fin 8) (r : ClearEnd) (s : State) : State :=
  if s.isOn (twbBlock n) ∧ s.twbCfg n TWB_CFG.EN = 1 ∧ (s.bus n).job.isNone ∧ !(s.bus n).stuck then s.clearEnd n r else s
/-- BUS_CLEAR. -/
def execBusClear (n : Fin 8) (r : ClearEnd) (s : State) : Out := .next (busClear n r s)

/-- BUS_CLEAR_RETRY: a stuck bus tries a clear again every RETRY ms, R375; both lines found high free it at any time. -/
def busClearRetry (n : Fin 8) (r : ClearEnd) (s : State) : State :=
  let x := s.bus n
  if s.isOn (twbBlock n) ∧ x.stuck ∧ (x.clearAt ≤ s.el ∨ r = .high) then s.clearEnd n r else s
/-- BUS_CLEAR_RETRY. -/
def execBusClearRetry (n : Fin 8) (r : ClearEnd) (s : State) : Out := .next (busClearRetry n r s)

/-- ALERT_RESPONSE: on its turn, on a bank that is good (R470), the controller reads the alert response address and queues the address it finds, R376
and R377. -/
def alertResponse (n : Fin 8) (r : AlertEnd) (s : State) : State :=
  let x := s.bus n
  if s.works (twbBlock n) ∧ s.twbCfg n TWB_CFG.EN = 1 ∧ s.twbCfg n TWB_CFG.ALERTEN = 1 ∧ x.job.isNone ∧ x.freeAt ≤ s.el ∧
      !x.stuck ∧ !x.clearing ∧ s.vioOk 1 ∧ x.alertAt ≤ s.el ∧ (s.readyAt (12 + n) (s.twbPeriod n)).isNone then
    let done := s.setBus n { x with freeAt := s.el + s.bfree n
                                    alertAt := s.el + max 1 (s.cfld (TWB_RECOV.addr n) TWB_RECOV.AGAP) * 100000 }
    match r with
    | .lost => s.bump (TWB_STAT.addr n) TWB_STAT.ARBLOST 1
    | .nack => done.bump (TWB_STAT.addr n) TWB_STAT.ANACK 1
    | .byte b =>
      if x.alerts.length < 4 then
        done.setBus n { done.bus n with alerts := x.alerts ++ [b.toNat / 2] }
      else done.bump (TWB_ALERT.addr n) TWB_ALERT.OVF 1
  else s
/-- ALERT_RESPONSE. -/
def execAlertResponse (n : Fin 8) (r : AlertEnd) (s : State) : Out := .next (alertResponse n r s)

/-- A write of TWBn_ALERT, R377. -/
def alertPop (n : Fin 8) (v : Word) (s : State) : State :=
  s.access (TWB_ALERT.addr n) (fun s => if fget v TWB_ALERT.POP = 1 then (s.alertPop n).1 else s)
/-- ALERT_POP. -/
def execAlertPop (p : Side) (n : Fin 8) (v : Word) (s : State) : Out :=
  .next (s.permitted p (TWB_ALERT.addr n) true (alertPop n v))

/-- TWBn_ALERT as it reads, R384. -/
def State.alertWord (s : State) (n : Nat) : Word :=
  let l := (s.bus n).alerts
  fset (fset (fset (s.reg (TWB_ALERT.addr n)) TWB_ALERT.LEVEL l.length) TWB_ALERT.VALID (b2n !l.isEmpty)) TWB_ALERT.HEAD
    (l.headD 0)

/-- A write of TWBn_MAN, R384 and R385. -/
def State.twbManual (s : State) (n : Nat) (v : Word) : State :=
  if fget v TWB_MAN.GO = 1 then
    let x := s.bus n
    if !x.manual.isEmpty || x.job.any (fun j => j.user = .manual) then
      s.setFld (TWB_STATUS.addr n) TWB_STATUS.MREFUSED 1
    else s.setBus n { x with manual := [fget v TWB_MAN.DESC] }
  else s

/-- TWB_MAN_GO. -/
def twbManGo (n : Fin 8) (v : Word) (s : State) : State := s.access (TWB_MAN.addr n) (fun s => s.twbManual n v)
/-- TWB_MAN_GO. -/
def execTwbManGo (p : Side) (n : Fin 8) (v : Word) (s : State) : Out :=
  .next (s.permitted p (TWB_MAN.addr n) true (twbManGo n v))

/-! ## Power, R373, R378 and R438 -/

/-- A bus that becomes powered is busy until both lines have been high for BFREE, R373. -/
def State.busPowered (s : State) (d : Nat) : State :=
  if d / 256 = 0x20 ∧ s.twbCfg (d % 256) TWB_CFG.EN = 1 then
    s.setBus (d % 256) { s.bus (d % 256) with freeAt := s.el + s.bfree (d % 256) }
  else s

/-- The longest DELAY of a bus, R438: its longest enabled descriptor with the clock-low limit of R372. -/
def State.twbDrain (s : State) (n : Nat) : Nat :=
  let low := if s.twbCfg n TWB_CFG.TOUT = 1 then 25000000 else max 1 (s.cfld (TWB_RECOV.addr n) TWB_RECOV.WAIT) * 100000
  (List.range 32).foldl (fun m d =>
    let w := s.cword (TWB_DESCA.addr n d)
    if da w TWB_DESCA.EN = 0 ∨ descKind w = 3 ∨ descKind w = 4 then m
    else
      let bytes := (busBytes w 0 []).length + readCount w + (if descKind w = 1 then da w TWB_DESCA.PEC else 0)
      max m (9 * bytes * s.twbPeriod n)) 0 + low

end Sys2Proof.Machine
end

