-- ==== Sys2Proof/Machine/Csp.lean ====
section
/-! DEFINITION. The clocked serial ports, R388 to R406. -/

namespace Sys2Proof.Machine

/-- The power domain of port n, R435. -/
def cspBlock (n : Nat) : Nat := 0x2100 + n
/-- A field of the port's committed configuration. -/
def State.cspCfg (s : State) (n : Nat) (f : Fld) : Nat := s.cfld (CSP_CFG.addr n) f
/-- The bus clock period in ns, R389: a DIV of 0 acts as 1. -/
def State.cspPeriod (s : State) (n : Nat) : Nat := (max 1 (s.cspCfg n CSP_CFG.DIV) + 1) * 5

/-! ## Descriptors, R392 to R394 -/

/-- The words of a descriptor: DCMD, DFMT, DPOLL, DADR. -/
structure CspDesc where
  cmd : Word
  fmt : Word
  poll : Word
  adr : Word
  deriving DecidableEq, Repr

/-- Descriptor d of port n as a word map holds it. -/
def cspDesc (word : Nat → Word) (n d : Nat) : CspDesc :=
  { cmd := word (CSP_DCMD.addr n d), fmt := word (CSP_DFMT.addr n d), poll := word (CSP_DPOLL.addr n d)
    adr := word (CSP_DADR.addr n d) }

/-- Whether a descriptor is enabled. -/
def CspDesc.en (x : CspDesc) : Bool := fget x.cmd CSP_DCMD.EN = 1
/-- DIR: 11b acts as 00b. -/
def CspDesc.dir (x : CspDesc) : Nat := let d := fget x.cmd CSP_DCMD.DIR; if d = 3 then 0 else d
/-- Whether a frame of the descriptor is a poll. -/
def CspDesc.isPoll (x : CspDesc) : Bool := fget x.poll CSP_DPOLL.POLL = 1
/-- The data bytes of a descriptor: none where DIR names no data. -/
def CspDesc.dlen (x : CspDesc) : Nat := if x.dir = 0 then 0 else fget x.fmt CSP_DFMT.DLEN
/-- Whether a frame of the descriptor can be split, R400. -/
def CspDesc.splittable (x : CspDesc) : Bool := x.dir = 1 && decide (8 ≤ fget x.fmt CSP_DFMT.ABITS) && !x.isPoll
/-- Lanes of a lane code. -/
def lanesOf (c : Nat) : Nat := 2 ^ c
/-- The bits that a phase moves in one SCK cycle. -/
def perCycle (lanes ddr : Nat) : Nat := lanesOf lanes * (1 + ddr)
/-- Bits per SCK cycle of the command, address and data phases. -/
def CspDesc.rates (x : CspDesc) : Nat × Nat × Nat :=
  (perCycle (fget x.cmd CSP_DCMD.CLANES) (fget x.cmd CSP_DCMD.CDDR),
   perCycle (fget x.fmt CSP_DFMT.ALANES) (fget x.fmt CSP_DFMT.ADDR_DDR),
   perCycle (fget x.fmt CSP_DFMT.DLANES) (fget x.fmt CSP_DFMT.DDDR))

/-- The SCK cycles of a frame, R392 and R393, with CSS and CSH. -/
def CspDesc.cycles (x : CspDesc) (css csh : Nat) : Nat :=
  let (c, a, d) := x.rates
  css + ceilDiv (fget x.cmd CSP_DCMD.CBITS) c + ceilDiv (fget x.fmt CSP_DFMT.ABITS) a + fget x.fmt CSP_DFMT.DUMMY +
    ceilDiv (8 * x.dlen) d + csh

/-- CSPn_DRAIN for a committed set, R401, in ns. -/
def State.cspDrain (s : State) (n : Nat) : Nat :=
  let css := max 1 (s.cfld (CSP_TIMING.addr n) CSP_TIMING.CSS)
  let csh := max 1 (s.cfld (CSP_TIMING.addr n) CSP_TIMING.CSH)
  let p := s.cspPeriod n
  min 0xFFFF ((List.range 16).foldl (fun m d =>
    let x := cspDesc s.cword n d
    if !x.en then m
    else if x.splittable then max m (ceilDiv (8 * p) x.rates.2.2)
    else max m (x.cycles css csh * p)) 0)

/-! ## The set, R403 -/

/-- The checks of R403 on the shadow set; 0 where it passes. -/
def State.cspCheck (s : State) (n : Nat) : Nat :=
  let some_ (p : CspDesc → Bool) : Bool :=
    (List.range 16).any (fun d => let x := cspDesc s.reg n d; x.en && p x)
  if some_ (fun x => decide (fget x.cmd CSP_DCMD.CBITS % x.rates.1 ≠ 0) ||
      decide (fget x.fmt CSP_DFMT.ABITS % x.rates.2.1 ≠ 0)) then 1
  else if decide (max 1 (s.fld (CSP_CFG.addr n) CSP_CFG.DIV) < 3) &&
      some_ (fun x => decide (x.dir = 1) && decide (0 < x.dlen) && decide (fget x.fmt CSP_DFMT.DDDR = 0)) then 2
  else if some_ (fun x => decide (16 < fget x.cmd CSP_DCMD.CBITS) || decide (32 < fget x.fmt CSP_DFMT.ABITS) ||
      decide (4096 < fget x.fmt CSP_DFMT.DLEN)) then 3
  else 0

/-- The committed set takes effect while no frame is in progress or suspended, R403, and DRAIN shows its longest time. -/
def State.cspSwitch (s : State) (n : Nat) : State :=
  let x := s.csport n
  if x.setPending ∧ x.job.isNone ∧ x.susp.isNone then
    let s := (s.takeEffect (CSP_CFG.addr n) (CSP_CFG.addr n + 0x1000)).setCsport n { x with setPending := false }
    s.setReg (CSP_DRAIN.addr n) (Word.ofNat (s.cspDrain n))
  else s

/-- A write of CSPn_COMMIT, R403. -/
def State.cspCommitGo (s : State) (n : Nat) : State :=
  let c := s.cspCheck n
  if c = 0 then
    let s := s.toPending (CSP_CFG.addr n) (CSP_CFG.addr n + 0x1000)
    (s.setCsport n { s.csport n with setPending := true }).setFld (CSP_STATUS.addr n) CSP_STATUS.CERR 0
  else (s.setFld (CSP_STATUS.addr n) CSP_STATUS.REFUSED 1).setFld (CSP_STATUS.addr n) CSP_STATUS.CERR c

/-- CSP_COMMIT. -/
def cspCommit (n : Fin 6) (v : Word) (s : State) : State :=
  s.access (CSP_COMMIT.addr n) (fun s => if fget v CSP_COMMIT.GO = 1 then s.cspCommitGo n else s)
/-- CSP_COMMIT. -/
def execCspCommit (p : Side) (n : Fin 6) (v : Word) (s : State) : Out :=
  .next (s.permitted p (CSP_COMMIT.addr n) true (cspCommit n v))

/-- CSP_SET_SWITCH. -/
def cspSetSwitch (n : Fin 6) (s : State) : State := s.cspSwitch n
/-- CSP_SET_SWITCH. -/
def execCspSetSwitch (n : Fin 6) (s : State) : Out := .next (cspSetSwitch n s)

/-! ## Frames -/

/-- Whether a manual frame waits, runs or is suspended. -/
def State.manualBusy (s : State) (n : Nat) : Bool :=
  let x := s.csport n
  let man (j : CspJob) : Bool := j.user = .manual
  x.manual.isSome || x.job.any man || x.susp.any man

/-- CSPn_STATUS as it reads, R405. -/
def State.cspStatus (s : State) (n : Nat) : Word :=
  let x := s.csport n
  let set (w : Word) (f : Fld) (b : Bool) : Word := fset w f (b2n b)
  set (set (set (set (s.reg (CSP_STATUS.addr n)) CSP_STATUS.ACTIVE x.job.isSome) CSP_STATUS.PENDING x.setPending)
    CSP_STATUS.MBUSY (s.manualBusy n)) CSP_STATUS.MSUSP (x.susp.any (fun j => j.user = .manual))

/-- The end of a frame for its user, R395 to R399: its error, or the bytes read. -/
def State.cspDone (s : State) (n : Nat) (j : CspJob) (err : Nat) (b : List Byte) : State :=
  let s := if err = 0 then s else s.bump (CSP_STAT.addr n) CSP_STAT.ERRS 1
  match j.user with
  | .tile t lanes =>
    (s.setFld (CSP_STATUS.addr n) CSP_STATUS.LERR err).deliver t
      { lanes, gts := s.stampAt j.at_ (busPath (s.cspPeriod n)), epoch := j.epoch
        val := if err = 0 then .bytes (b.take 64) else .failed, ow := false, late := j.late }
  | .log => (s.setFld (CSP_STATUS.addr n) CSP_STATUS.LERR err).logFrameDone j.desc err b
  | .manual => (s.store j.buf b).setFld (CSP_STATUS.addr n) CSP_STATUS.MERR err

/-- The chip select rises, and the next falls no sooner than CSIDLE after it, R392. -/
def State.cspFree (s : State) (n : Nat) : State :=
  let idle := max 1 (s.cfld (CSP_TIMING.addr n) CSP_TIMING.CSIDLE)
  s.setCsport n { s.csport n with job := none, freeAt := s.el + idle * s.cspPeriod n }

/-- The 64 bytes of the target buffer. -/
def State.cspTdata (s : State) (n : Nat) : List Byte :=
  (List.range 16).flatMap (fun k => leBytes 4 (s.reg (CSP_TDATA.addr n k)).toNat)

/-- A frame of LOG as the port runs it, R397: LOG supplies the address of a Program, an Erase and a Read and the length of a
Program and a Read. -/
def State.logJob (s : State) (n : Nat) (f : LogFrame) : CspJob :=
  let e := cspDesc s.cword n f.desc
  { user := .log, desc := f.desc, addr := if f.desc = 11 ∨ f.desc = 12 ∨ f.desc = 14 then f.addr else e.adr.toNat
    len := if e.dir = 0 then 0 else if f.desc = 11 ∨ f.desc = 14 then f.len else e.dlen, buf := f.buf
    at_ := s.now, late := false, epoch := s.epoch, since := s.el, again := none }

/-- A manual frame as the port runs it, R399: its descriptor as committed when it starts, with the overrides of its GO. -/
def State.manualJob (s : State) (n : Nat) (m : CspMan) : CspJob :=
  let e := cspDesc s.cword n m.desc
  { user := .manual, desc := m.desc, addr := m.addr.getD e.adr.toNat
    len := match m.len with
      | some l => if e.dir = 0 then 0 else min 4096 l
      | none => e.dlen
    buf := m.buf, at_ := s.now, late := false, epoch := s.epoch, since := s.el, again := none }

/-- The next waiting frame in the order of R398. -/
def State.cspNext (s : State) (n : Nat) : Option (CspJob × State) :=
  match s.readyAt (20 + n) (s.cspPeriod n) with
  | some (t, x) =>
    let late : Bool := addNs x.at_ (s.cspPeriod n) < s.now
    let e := cspDesc s.cword n x.cmd
    some ({ user := .tile t x.lanes, desc := x.cmd, addr := e.adr.toNat, len := e.dlen, buf := 0
            at_ := if late then s.now else x.at_, late, epoch := s.epoch, since := s.el, again := none },
      s.setPortWait (20 + n) ((s.portWait (20 + n)).drop 1))
  | none =>
    match s.logFrame n, (s.csport n).manual with
    | some (f, s'), _ => some (s.logJob n f, s')
    | none, some m => some (s.manualJob n m, s.setCsport n { s.csport n with manual := none })
    | none, none => none

/-- CSP_FRAME_START: the port starts the next waiting frame, R398; a suspended one comes first (CSP_RESUME). A frame that
cannot begin ends at its turn with NODESC, BUFFAULT or TGTMODE (R395), and a tile acquisition on a target port yields
TDATA (R402); a manual write waits for the banks that hold its bytes (R445). -/
def cspFrameStart (n : Fin 6) (s : State) : State :=
  let s := (s.cspSwitch n).abandonLate (20 + n)
  let x := s.csport n
  if s.portUp (cspBlock n) (20 + n) ∧ s.cspCfg n CSP_CFG.EN = 1 ∧ x.job.isNone ∧ x.susp.isNone ∧ x.freeAt ≤ s.el then
    match s.cspNext n with
    | none => s
    | some (j, s') =>
      let e := cspDesc s.cword n j.desc
      if s.cspCfg n CSP_CFG.TGT = 1 then
        (match j.user with
         | .tile _ _ => s'.cspDone n j 0 (s.cspTdata n)
         | _ => s'.cspDone n j 5 [])
      else if 16 ≤ j.desc ∨ !e.en then s'.cspDone n j 3 []
      else if j.user = .manual ∧ e.dir ≠ 0 ∧ 0 < j.len ∧ 0x800000 < j.buf + j.len then s'.cspDone n j 4 []
      else if j.user = .manual ∧ e.dir = 2 ∧ 0 < j.len ∧ !s.isOn (0x1600 + j.buf / 0x20000) then
        s.requestWake (0x1600 + j.buf / 0x20000)
      else if j.user = .manual ∧ e.dir = 2 ∧ 0 < j.len ∧ !s.isOn (0x1600 + (j.buf + j.len - 1) / 0x20000) then
        s.requestWake (0x1600 + (j.buf + j.len - 1) / 0x20000)
      else s'.setCsport n { s'.csport n with job := some j }
  else s.portWake (cspBlock n) (!(s.portWait (20 + n)).isEmpty || x.manual.isSome || (s.logFrame n).isSome)
/-- CSP_FRAME_START. -/
def execCspFrameStart (n : Fin 6) (s : State) : Out := .next (cspFrameStart n s)

/-- The frame in progress where one runs: a poll between two of its frames does not. -/
def State.cspRunning (s : State) (n : Nat) : Option CspJob :=
  match (s.csport n).job with
  | some j => if j.again.isNone then some j else none
  | none => none

/-- The chip select rises; the bytes read are delivered, or a poll whose byte does not match waits for its next frame, R392 to
R399. On a bank that is not good the frame ends in NOSTROBE (R470, log entry 23). -/
def State.cspEnd (s : State) (n : Nat) (data : List Byte) : State :=
  match s.cspRunning n with
  | none => s
  | some j =>
    let e := cspDesc s.cword n j.desc
    let read := if e.dir = 1 then j.len else 0
    if data.length ≠ read then s
    else if !s.vioOk 2 then (s.cspFree n).cspDone n j 1 []
    else
      let hit := (data.headD 0).toNat &&& fget e.poll CSP_DPOLL.MASK
      if e.isPoll ∧ hit ≠ fget e.poll CSP_DPOLL.VAL then
        let s := s.cspFree n
        let gap := max 1 (fget e.poll CSP_DPOLL.INTERVAL) * 10000
        s.setCsport n { s.csport n with job := some { j with again := some (s.el + gap) } }
      else if j.user = .manual ∧ 0 < read then
        s.withDomain (0x1600 + j.buf / 0x20000) (fun s =>
          s.withDomain (0x1600 + (j.buf + read - 1) / 0x20000) (fun s => (s.cspFree n).cspDone n j 0 data))
      else (s.cspFree n).cspDone n j 0 data
/-- CSP_FRAME_END: the frame in progress ends. -/
def cspFrameEnd (n : Fin 6) (data : List (BitVec 8)) (s : State) : State := s.cspEnd n data
/-- CSP_FRAME_END. -/
def execCspFrameEnd (n : Fin 6) (data : List (BitVec 8)) (s : State) : Out := .next (cspFrameEnd n data s)

/-- NOSTROBE: no DQS edge within STO periods ends a strobed read, R391 and R395. -/
def nostrobe (n : Fin 6) (s : State) : State :=
  match s.cspRunning n with
  | none => s
  | some j =>
    let e := cspDesc s.cword n j.desc
    if e.dir = 1 ∧ fget e.fmt CSP_DFMT.DDDR = 1 then (s.cspFree n).cspDone n j 1 [] else s
/-- NOSTROBE. -/
def execNostrobe (n : Fin 6) (s : State) : Out := .next (nostrobe n s)

/-- POLL_RETRY: INTERVAL after the chip select rose a poll's frame runs again, R394. -/
def pollRetry (n : Fin 6) (s : State) : State :=
  match (s.csport n).job with
  | some j =>
    (match j.again with
     | some t => if t ≤ s.el then s.setCsport n { s.csport n with job := some { j with again := none } } else s
     | none => s)
  | none => s
/-- POLL_RETRY. -/
def execPollRetry (n : Fin 6) (s : State) : Out := .next (pollRetry n s)

/-- PTIMEOUT: a poll without a match within PTOUT ms of its first frame ends, R394. -/
def ptimeout (n : Fin 6) (s : State) : State :=
  match (s.csport n).job with
  | some j =>
    if (cspDesc s.cword n j.desc).isPoll ∧ j.again.isSome ∧
        j.since + max 1 (s.cspCfg n CSP_CFG.PTOUT) * 1000000 ≤ s.el then
      (s.cspFree n).cspDone n j 2 []
    else s
  | none => s
/-- PTIMEOUT. -/
def execPtimeout (n : Fin 6) (s : State) : Out := .next (ptimeout n s)

/-- A write of CSPn_MAN, R399: the overrides and the buffer are those of the write. -/
def State.cspManual (s : State) (n : Nat) (v : Word) : State :=
  if fget v CSP_MAN.GO = 1 then
    if s.manualBusy n then s.setFld (CSP_STATUS.addr n) CSP_STATUS.MREFUSED 1
    else
      let m : CspMan :=
        { desc := fget v CSP_MAN.DESC
          addr := if fget v CSP_MAN.AOVR = 1 then some (s.reg (CSP_MADR.addr n)).toNat else none
          len := if fget v CSP_MAN.LOVR = 1 then some (s.fld (CSP_MLEN.addr n) CSP_MLEN.LEN) else none
          buf := (s.reg (CSP_MBUF.addr n)).toNat }
      s.setCsport n { s.csport n with manual := some m }
  else s

/-- CSP_MAN_GO. -/
def cspManGo (n : Fin 6) (v : Word) (s : State) : State := s.access (CSP_MAN.addr n) (fun s => s.cspManual n v)
/-- CSP_MAN_GO. -/
def execCspManGo (p : Side) (n : Fin 6) (v : Word) (s : State) : Out :=
  .next (s.permitted p (CSP_MAN.addr n) true (cspManGo n v))

/-- CSP_RESUME: after wake the rest of a split frame, or a kept poll from its first frame, runs before any other, R400. -/
def cspResume (n : Fin 6) (s : State) : State :=
  let x := s.csport n
  match x.susp with
  | some j =>
    if s.works (cspBlock n) ∧ x.job.isNone ∧ x.freeAt ≤ s.el then
      s.setCsport n { x with susp := none, job := some { j with since := s.el, again := none } }
    else s
  | none => s
/-- CSP_RESUME. -/
def execCspResume (n : Fin 6) (s : State) : Out := .next (cspResume n s)

/-! ## The target, R402 -/

/-- Whether the port answers as a target. -/
def State.cspTarget (s : State) (n : Nat) : Bool :=
  s.isOn (cspBlock n) && decide (s.cspCfg n CSP_CFG.EN = 1) && decide (s.cspCfg n CSP_CFG.TGT = 1) && s.vioOk 2

/-- CSP_TARGET_WRITE: the index byte and the bytes after it enter TDATA together, R402. -/
def cspTargetWrite (n : Fin 6) (index : BitVec 8) (bytes : List (BitVec 8)) (s : State) : State :=
  if s.cspTarget n then
    s.withDomain (cspBlock n) (fun s =>
      (s.enterBytes (CSP_TDATA.addr n) (index.toNat % 64) bytes).bump (CSP_STAT.addr n) CSP_STAT.TWRITE 1)
  else s
/-- CSP_TARGET_WRITE. -/
def execCspTargetWrite (n : Fin 6) (index : BitVec 8) (bytes : List (BitVec 8)) (s : State) : Out :=
  .next (cspTargetWrite n index bytes s)

/-- CSP_TARGET_READ: bytes of a copy of TDATA from the index, R402. -/
def cspTargetRead (n : Fin 6) (index : BitVec 8) (count : Nat) (s : State) : State :=
  if s.cspTarget n then
    s.withDomain (cspBlock n) (fun s =>
      let b := wrapBytes (s.cspTdata n) (index.toNat % 64) count
      { s with snaps := Tab.put s.snaps (targetKey (20 + n)) (b.map (fun (x : Byte) => Word.ofNat x.toNat)) })
  else s
/-- CSP_TARGET_READ. -/
def execCspTargetRead (n : Fin 6) (index : BitVec 8) (count : Nat) (s : State) : Out :=
  .next (cspTargetRead n index count s)

/-! ## Power-down, R400 -/

/-- A port answers a power-down request, R400: none while a frame that must run to its end runs, else the state in which
it accepts; moved is what a split frame had read. -/
def State.cspYield (s : State) (n : Nat) (moved : List Byte) : Option State :=
  match (s.csport n).job with
  | none => some s
  | some j =>
    let e := cspDesc s.cword n j.desc
    let idle := (s.cspFree n)
    if e.splittable then
      let k := min moved.length (j.len - 1)
      let s := idle.bump (CSP_STAT.addr n) CSP_STAT.SUSP 1
      let rest : CspJob := { j with addr := j.addr + k, len := j.len - k, buf := j.buf + k }
      match j.user with
      | .manual => let s := s.store j.buf (moved.take k); some (s.setCsport n { s.csport n with susp := some rest })
      | .log =>
        let s := s.setFlusher { s.flusher with part := s.flusher.part ++ moved.take k }
        some (s.setCsport n { s.csport n with susp := some rest })
      | .tile t lanes => some (s.missed t lanes)
    else if e.isPoll ∧ j.again.isSome then
      match j.user with
      | .tile t lanes => some (idle.missed t lanes)
      | _ => some (idle.setCsport n { idle.csport n with susp := some j })
    else none

end Sys2Proof.Machine
end

