-- ==== Sys2Proof/Machine/Rules.lean ====
section
/-! DEFINITION. The commands of the recognizer slices, R137 to R164 and R173 to R179. -/

namespace Sys2Proof.Machine

/-- R141 to R150: the first input in dispatch order, of source A, is judged and drives one transition. -/
def engineInput (e : Fin 256) (parity : Option (Fin 128)) (s : State) : State :=
  if s.armed e ∧ s.sliceTakes (e / 32) ∧ s.islandUp 2 (e / 32 * 65536 + 0x0300) then
    match pickInput (s.engine e).inq with
    | none => s
    | some ((_, .bLane _), _) => s
    | some ((cycle, i), rest) =>
      let run := s.timerRuns e cycle
      let s := s.setEngine e { s.engine e with inq := rest }
      match parity with
      | some w => s.parityFail e w
      | none =>
        let j := s.judge e i
        let x := s.engine e
        let x := if j.1 = .d then x
          else { x with window := (j.2.2 :: x.window).take 64, hyst := j.1 = .t }
        let s := s.setEngine e { x with lastQ := j.2.1 }
        let s := s.transition e j.1 j.2.1 i.at_ run
        match i with
        | .record r => if s.names e (.bLane r) then s.setEngine e { s.engine e with heldB := some r } else s
        | _ => s
  else s
/-- ENGINE_INPUT. -/
def execEngineInput (e : Fin 256) (parity : Option (Fin 128)) (s : State) : Out := .next (engineInput e parity s)

/-- R138, R150: a record of the B lane that is first in dispatch order replaces held B. -/
def bLaneRecord (e : Fin 256) (s : State) : State :=
  if s.armed e ∧ s.sliceTakes (e / 32) ∧ s.islandUp 2 (e / 32 * 65536 + 0x0300) then
    match pickInput (s.engine e).inq with
    | some ((_, .bLane r), rest) => s.setEngine e { s.engine e with inq := rest, heldB := some r }
    | _ => s
  else s
/-- B_LANE_RECORD. -/
def execBLaneRecord (e : Fin 256) (s : State) : Out := .next (bLaneRecord e s)

/-- R147: a timer that has run its span stops and delivers one X input stamped with the expiry instant, in the cycle after the
expiry; the inputs of that cycle and before go first (R150). -/
def engineTimerExpiry (e : Fin 256) (parity : Option (Fin 128)) (s : State) : State :=
  match (s.engine e).deadline.bind s.expired with
  | some (at_, t) =>
    if s.armed e ∧ s.sliceTakes (e / 32) ∧ s.islandUp 2 (e / 32 * 65536 + 0x0300) ∧
        (s.engine e).inq.all (fun i => decide (s.sliceCycle at_ + s.cycleLen < i.1)) then
      let s := s.setDom (0x0300 + e / 32) .on
      let s := s.setSlice (e / 32) { s.slice (e / 32) with lastInput := s.el }
      let g := s.carrying (s.stampAt t pathCoarse)
      let s := s.setEngine e { s.engine e with deadline := none }
      match parity with
      | some w => s.parityFail e w
      | none => s.transition e .x (s.engine e).lastQ g false
    else s
  | none => s
/-- ENGINE_TIMER_EXPIRY. -/
def execEngineTimerExpiry (e : Fin 256) (parity : Option (Fin 128)) (s : State) : Out :=
  .next (engineTimerExpiry e parity s)

/-- The first element that a test accepts, and the list without it. -/
def takeFirst {α : Type} (p : α → Bool) : List α → Option (α × List α)
  | [] => none
  | a :: r => if p a then some (a, r) else (takeFirst p r).map (fun x => (x.1, a :: x.2))

/-- R149, R326: an attention packet that has reached the host-port block sets RULE of each port it names. -/
def attentionPacket (s : State) : State :=
  match takeFirst (fun p => match p with | .attention .. => true | _ => false) s.arrived with
  | some (.attention b _, rest) =>
    (List.range 4).foldl (fun s n => if b.getLsbD n then s.setFld (HP_ATTN.addr n) HP_ATTN.RULE 1 else s)
      { s with arrived := rest }
  | _ => s
/-- ATTENTION_PACKET. -/
def execAttentionPacket (s : State) : Out := .next (attentionPacket s)

/-- R157: a window that has reached its close ends. -/
def coalesceWindowClose (n : Fin 8) (s : State) : State :=
  match (s.slice n).coal.find? (fun c => decide (c.close ≤ s.now)) with
  | some c => s.closeCoal n c
  | none => s
/-- COALESCE_WINDOW_CLOSE. -/
def execCoalesceWindowClose (n : Fin 8) (s : State) : Out := .next (coalesceWindowClose n s)

/-- R159: when space returns the buffered records are emitted, then one record for those lost. -/
def lostSummary (n : Fin 8) (s : State) : State := s.drainSlice n
/-- LOST_SUMMARY. -/
def execLostSummary (n : Fin 8) (s : State) : Out := .next (lostSummary n s)

/-! ## Commit, R151 and R152 -/

/-- The lowest check of R152 that a shadow engine fails; 0 where it passes. COMB 11b, which acts as 00b, is not 00b to check 4
(DESIGN CHOICE, log entry 88). -/
def State.engineCheck (s : State) (e : Nat) : Nat :=
  let ka := let k := s.fld (RS_ESRCA.addr e) RS_ESRCA.KIND; if 5 ≤ k then 0 else k
  let kb := s.fld (RS_ESRCB.addr e) RS_ESRCB.KIND
  let qty := s.fld (RS_EPRED.addr e) RS_EPRED.QTY
  let comb := s.fld (RS_EPRED.addr e) RS_EPRED.COMB
  if ka = 0 then 1
  else if qty ≤ 6 ∧ ka ≠ 1 then 2
  else if (qty = 7 ∧ ka ≠ 2) ∨ (qty = 8 ∧ ka ≠ 3) ∨ (qty = 9 ∧ ka ≠ 4) then 3
  else if comb ≠ 0 ∧ kb ≠ 1 then 4
  else if ka = 2 ∧ 47 < s.fld (RS_ESRCA.addr e) RS_ESRCA.ID % 64 then 5
  else if 10 ≤ qty then 6
  else if (List.range 32).any (fun k => decide (0xF0 ≤ (s.reg (RS_TRANS.addr e k)).toNat % 256)) then 7
  else 0

/-- The registers of an engine, as a range of addresses. -/
def engineRange (e : Nat) : Nat × Nat := (engBase e, engBase e + 0x200)

/-- A commit of the engines that a mask names: checked, then pending; or refused as a whole, R152. -/
def State.ruleCommit (s : State) (n : Nat) (mask : BitVec 32) : State :=
  let named := (List.range 32).filter (fun k => mask.getLsbD k)
  match named.find? (fun k => s.fld (RS_ECFG.addr (32 * n + k)) RS_ECFG.EN = 1 && s.engineCheck (32 * n + k) ≠ 0) with
  | some k =>
    ((s.setFld (RS_STATUS.addr n) RS_STATUS.REFUSED 1).setFld (RS_STATUS.addr n) RS_STATUS.CERR
      (s.engineCheck (32 * n + k))).setFld (RS_STATUS.addr n) RS_STATUS.CENG k
  | none =>
    let s := named.foldl (fun s k => s.toPending (engineRange (32 * n + k)).1 (engineRange (32 * n + k)).2) s
    s.setSlice n { s.slice n with pending := some mask }

/-- R151: a write of RS_COMMIT checks and commits the engines it names; it is held while a set is pending. -/
def rsCommit (n : Fin 8) (v : Word) (s : State) : State :=
  s.access (RS_COMMIT.addr n) (fun s =>
    if (s.slice n).pending.isSome then s.setSlice n { s.slice n with commits := (s.slice n).commits ++ [v] }
    else s.ruleCommit n v)
/-- RS_COMMIT. -/
def execRsCommit (p : Side) (n : Fin 8) (v : Word) (s : State) : Out :=
  .next (s.permitted p (RS_COMMIT.addr n) true (rsCommit n v))

/-- An engine as its new set finds it, R151: the inputs that wait and that the new set does not name are not delivered. -/
def State.engineSwitch (s : State) (old : State) (e : Nat) : State :=
  let x := s.engine e
  let en := s.cfld (RS_ECFG.addr e) RS_ECFG.EN = 1
  let same := (List.range 32).all (fun k => s.cword (RS_TRANS.addr e k) = old.cword (RS_TRANS.addr e k))
  let keep := s.cfld (RS_ECFG.addr e) RS_ECFG.KEEPST = 1 ∧ old.armed e ∧ same
  let x := if keep then { x with faulted := false }
    else { x with st := s.cfld (RS_ECFG.addr e) RS_ECFG.INIT, c0 := 0, c1 := 0, deadline := none, remaining := none
                  hyst := false, window := [], heldB := none, faulted := false }
  let x := if en then { x with inq := x.inq.filter (fun i => s.names e i.2) }
    else { x with deadline := none, remaining := none, inq := [] }
  s.setEngine e x

/-- The commits that were held are checked, in order, until one is pending, R151. -/
def State.heldCommits (s : State) (n : Nat) : List (BitVec 32) → State
  | [] => s.setSlice n { s.slice n with commits := [] }
  | v :: rest =>
    let t := s.ruleCommit n v
    if (t.slice n).pending.isSome then t.setSlice n { t.slice n with commits := rest } else t.heldCommits n rest

/-- R151: the pending set takes effect; then the commits that were held are checked. -/
def ruleSetSwitch (n : Fin 8) (s : State) : State :=
  match (s.slice n).pending with
  | none => s
  | some mask =>
    let old := s
    let named := (List.range 32).filter (fun k => mask.getLsbD k)
    let s := named.foldl (fun s k => s.takeEffect (engineRange (32 * n + k)).1 (engineRange (32 * n + k)).2) s
    let s := named.foldl (fun s k => s.engineSwitch old (32 * n + k)) s
    (s.setSlice n { s.slice n with pending := none }).heldCommits n (s.slice n).commits
/-- RULE_SET_SWITCH. -/
def execRuleSetSwitch (n : Fin 8) (s : State) : Out := .next (ruleSetSwitch n s)

/-- The words of RS_ESTATE and RS_ECNT as they stand, R178. -/
def State.engineWords (s : State) (e : Nat) : List Word :=
  let x := s.engine e
  let w := s.cfld (RS_EPRED.addr e) RS_EPRED.WIN + 1
  [ pack [(RS_ESTATE.ARMED, s.cfld (RS_ECFG.addr e) RS_ECFG.EN), (RS_ESTATE.FAULTED, b2n x.faulted),
          (RS_ESTATE.TRUN, b2n (x.deadline.isSome || x.remaining.isSome)), (RS_ESTATE.HYST, b2n x.hyst),
          (RS_ESTATE.FILLED, b2n (decide (w ≤ x.window.length))), (RS_ESTATE.LASTIN, x.lastIn),
          (RS_ESTATE.STATE, x.st)],
    pack [(RS_ECNT.C1, x.c1), (RS_ECNT.C0, x.c0)] ]

/-- R178: a read of RS_ESTATEe snapshots the engine's two registers for the reader. -/
def rsEstateSnapshot (p : Side) (e : Fin 256) (s : State) : State :=
  s.access (engBase e) (fun s =>
    let w := s.engineWords e
    (s.snapshot p (RS_ESTATE.addr e) w).returns (sideKey p) (w.headD 0))
/-- RS_ESTATE_SNAPSHOT. -/
def execRsEstateSnapshot (p : Side) (e : Fin 256) (s : State) : Out := .next (rsEstateSnapshot p e s)

/-- R163: in WATCH (and SKIM) the kept slice returns to retention after 2^WIDLE µs without an input. -/
def sliceRetentionIdle (n : Fin 8) (s : State) : State :=
  if s.keptSlice n ∧ s.isOn (0x0300 + n) ∧
      (s.slice n).lastInput + 2 ^ s.fld (RS_CTL.addr n) RS_CTL.WIDLE * 1000 ≤ s.el then s.setDom (0x0300 + n) .ret
  else s
/-- SLICE_RETENTION_IDLE. -/
def execSliceRetentionIdle (n : Fin 8) (s : State) : Out := .next (sliceRetentionIdle n s)

end Sys2Proof.Machine
end

