-- ==== Sys2Proof/Machine/Log.lean ====
section
/-! DEFINITION. The commands of batch rings, batches and the voyage log, R185 to R206 and R212. -/

namespace Sys2Proof.Machine

/-- The LOG block, R425. -/
def logBlock : Nat := 0x1300

/-- RING_APPEND: the writer writes a staged record into its open segment and counts it in NREC, R190. -/
def ringAppend (r : Fin 40) (s : State) : State := s.withDomain logBlock (fun s => s.append r)
/-- RING_APPEND. -/
def execRingAppend (r : Fin 40) (s : State) : Out := .next (ringAppend r s)

/-- R189: 2^MAXAGE s after BASE, with MAXAGE below 31, the open segment closes with AGED. -/
def segmentAgeClose (r : Fin 40) (s : State) : State :=
  match (s.ring r).open_ with
  | some g =>
    let m := s.rcfg r LOG_RCFG.MAXAGE
    if m < 31 ∧ 0 < g.nrec ∧ g.base.t.toNat + 2 ^ (m + 40) ≤ s.now.toNat then s.closeSeg r true false else s
  | none => s
/-- SEGMENT_AGE_CLOSE. -/
def execSegmentAgeClose (r : Fin 40) (s : State) : Out := .next (segmentAgeClose r s)

/-- ARM written to LOG_BCMD, R197. -/
def armBatch (ring : Nat) (h : Fin 256) (s : State) : State := s.access LOG_BCMD.addr (fun s => s.batchArm ring h)
/-- ARM. -/
def execArmBatch (ring : Nat) (h : Fin 256) (s : State) : Out := .next (armBatch ring h s)

/-- OPEN written to LOG_BCMD, R197. -/
def openBatch (h : Fin 256) (s : State) : State := s.access LOG_BCMD.addr (fun s => s.batchOpen h none)
/-- OPEN. -/
def execOpenBatch (h : Fin 256) (s : State) : Out := .next (openBatch h s)

/-- CLOSE written to LOG_BCMD, R197. -/
def closeBatch (h : Fin 256) (s : State) : State := s.access LOG_BCMD.addr (fun s => s.batchClose h none)
/-- CLOSE. -/
def execCloseBatch (h : Fin 256) (s : State) : Out := .next (closeBatch h s)

/-- RELEASE written to LOG_BCMD, R197. -/
def releaseBatch (h : Fin 256) (s : State) : State := s.access LOG_BCMD.addr (fun s => s.batchRelease h)
/-- RELEASE. -/
def execReleaseBatch (h : Fin 256) (s : State) : Out := .next (releaseBatch h s)

/-- The batch packet that reached the writer first, R22 and R197, with what else has arrived. -/
def State.firstBatch (s : State) : Option (Packet × List Packet) :=
  takeFirst (fun p => match p with | .bopen .. => true | .bclose .. => true | _ => false) s.arrived

/-- BOPEN: where the earliest batch packet that has reached the writer is a BOPEN it acts as OPEN, R197. -/
def bopen (s : State) : State :=
  match s.firstBatch with
  | some (.bopen h e _, rest) => s.withDomain logBlock (fun s => { s with arrived := rest }.batchOpen h (some e))
  | _ => s
/-- BOPEN. -/
def execBopen (s : State) : Out := .next (bopen s)

/-- BCLOSE: where the earliest batch packet that has reached the writer is a BCLOSE it acts as CLOSE, R197. -/
def bclose (s : State) : State :=
  match s.firstBatch with
  | some (.bclose h e _, rest) => s.withDomain logBlock (fun s => { s with arrived := rest }.batchClose h (some e))
  | _ => s
/-- BCLOSE. -/
def execBclose (s : State) : Out := .next (bclose s)

/-! ## Commits, R212 -/

/-- A ring's set as a check sees it: its shadow words where the commit names it, else the words pending or in effect. -/
def State.ringWord (s : State) (named : Nat → Bool) (r : Nat) (a : Nat) : Word :=
  if named r then s.reg a else if (s.ring r).pending then s.pword a else s.cword a

/-- The first check of R212 that ring r's shadow set fails; 0 where it passes. -/
def State.ringCheck (s : State) (named : Nat → Bool) (r : Nat) : Nat :=
  let w (q : Nat) (f : Fld) (a : Nat → Nat) : Nat := fget (s.ringWord named q (a q)) f
  let en (q : Nat) : Bool := w q LOG_RCFG.EN LOG_RCFG.addr = 1
  let base (q : Nat) : Nat := w q LOG_RBASE.PAGE LOG_RBASE.addr
  let size (q : Nat) : Nat := w q LOG_RSIZE.SEGS LOG_RSIZE.addr
  let changed := s.reg (LOG_RBASE.addr r) ≠ s.cword (LOG_RBASE.addr r) ∨ s.reg (LOG_RSIZE.addr r) ≠ s.cword (LOG_RSIZE.addr r) ∨
    s.fld (LOG_RCFG.addr r) LOG_RCFG.FMT ≠ s.rcfg r LOG_RCFG.FMT
  if en r && decide (size r < w r LOG_RCFG.PRE LOG_RCFG.addr + 2) then 1
  else if en r && decide (1920 < base r + size r) then 2
  else if en r && (List.range 40).any (fun q => decide (q ≠ r) && en q &&
      decide (base q < base r + size r ∧ base r < base q + size q)) then 3
  else if changed ∧ s.handles.any (fun h => decide (h.2.ring = r) && decide (h.2.st ≠ .free)) then 4
  else 0

/-- The first check of R212 that the flash set fails; 0 where it passes. -/
def State.flashCheck (s : State) : Nat :=
  let z := sectorSize (s.reg LOG_FCFG.addr)
  let base := (s.reg LOG_FBASE.addr).toNat
  let n := s.fld LOG_FSIZE.addr LOG_FSIZE.SECTORS
  if base % z ≠ 0 ∨ n < 2 ∨ 0x80000000 < base + n * z then 5
  else if s.ownerOf 3 (20 + flashCsp (s.reg LOG_FCFG.addr)) ≠ 0x1300 then 6
  else 0

/-- A commit of rings, by mask, and of the flash set: each set named is checked, and all are refused on the first
failure, R212. -/
def State.logCommit (s : State) (mask : Nat → Bool) (flash : Bool) : State :=
  let named := (List.range 40).filter mask
  let refuse (code ring : Nat) : State :=
    ((s.setFld LOG_STATUS.addr LOG_STATUS.REFUSED 1).setFld LOG_STATUS.addr LOG_STATUS.CERR code).setFld
      LOG_STATUS.addr LOG_STATUS.CRING ring
  match named.find? (fun r => s.ringCheck mask r ≠ 0) with
  | some r => refuse (s.ringCheck mask r) r
  | none =>
    if flash && s.flashCheck ≠ 0 then refuse s.flashCheck 40
    else
      let s := named.foldl (fun s r =>
        (s.toPending (LOG_RCFG.addr r) (LOG_RCFG.addr r + 0x20)).setRing r { s.ring r with pending := true }) s
      if flash then
        let s := s.toPending LOG_FCFG.addr LOG_FHEAD.addr
        { s with flusher := { s.flusher with setPending := true } }
      else s

/-- A write of LOG_RCOMMIT0, or of LOG_RCOMMIT1 where hi, R212 and R213. -/
def logRcommit (hi : Bool) (v : Word) (s : State) : State :=
  s.access LOG_RCOMMIT0.addr (fun s =>
    if hi then s.logCommit (fun r => decide (32 ≤ r) && v.getLsbD (r - 32)) (v.getLsbD 31)
    else s.logCommit (fun r => decide (r < 32) && v.getLsbD r) false)
/-- LOG_RCOMMIT. -/
def execLogRcommit (p : Side) (hi : Bool) (v : Word) (s : State) : Out :=
  .next (s.permitted p LOG_RCOMMIT0.addr true (logRcommit hi v))

/-- A ring's pending set takes effect, R212: a commit that changes the ring closes the open segment with CUT (R189);
where BASE, SIZE or FMT changed its segments become invalid, and the next one carries CUT where the ring held one. The
banks of an enabled ring are powered (R205). -/
def State.ringSwitch (s : State) (r : Nat) : State :=
  let old := s
  let changed := [LOG_RCFG.addr r, LOG_RBASE.addr r, LOG_RSIZE.addr r].any (fun a => decide (s.pword a ≠ s.cword a))
  let s := if changed then s.closeSeg r false true else s
  let s := s.takeEffect (LOG_RCFG.addr r) (LOG_RCFG.addr r + 0x20)
  let x := { s.ring r with pending := false }
  let moved := s.rbase r ≠ old.rbase r ∨ s.rsize r ≠ old.rsize r ∨ s.rcfg r LOG_RCFG.FMT ≠ old.rcfg r LOG_RCFG.FMT
  let s := s.setRing r (if moved then { x with segs := [], nextPage := 0, markCut := x.markCut || !x.segs.isEmpty } else x)
  let s := if moved then { s with flusher := { s.flusher with order := s.flusher.order.filter (fun e => e.1 ≠ r) } } else s
  (s.ringBanks r).foldl (fun s d => s.requestWake d) s

/-- RING_SET_SWITCH: at the writer's next record boundary a ring's committed set takes effect, R212. -/
def ringSetSwitch (r : Fin 40) (s : State) : State := if (s.ring r).pending then s.ringSwitch r else s
/-- RING_SET_SWITCH. -/
def execRingSetSwitch (r : Fin 40) (s : State) : Out := .next (ringSetSwitch r s)

/-- FLASH_SET_SWITCH: after the block in progress the flash set takes effect, from sector 0 with the LSN unchanged,
R212. -/
def flashSetSwitch (s : State) : State :=
  if s.flusher.setPending ∧ s.flusher.task = none then
    let s := s.takeEffect LOG_FCFG.addr LOG_FHEAD.addr
    (s.setReg LOG_FHEAD.addr 0).setFlusher
      { s.flusher with setPending := false, entries := [], erased := none, retry := false, stopped := false }
  else s
/-- FLASH_SET_SWITCH. -/
def execFlashSetSwitch (s : State) : Out := .next (flashSetSwitch s)

/-- A write of LOG_ROLDr: the release point, ignored outside the ring's valid span, R196 and R214. -/
def logRoldWrite (r : Fin 40) (v : Word) (s : State) : State :=
  s.access (LOG_ROLD.addr r) (fun s =>
    if s.seqOldest r ≤ v.toNat ∧ v.toNat ≤ s.seqNext r then s.setRing r { s.ring r with release := v.toNat } else s)
/-- LOG_ROLD_WRITE. -/
def execLogRoldWrite (p : Side) (r : Fin 40) (v : Word) (s : State) : Out :=
  .next (s.permitted p (LOG_ROLD.addr r) true (logRoldWrite r v))

/-! ## The voyage log, R200 to R204 -/

/-- The 4 KiB of a segment as a log block: the copy of its page with LSN set, R200. -/
def State.logImage (s : State) (g : Seg) : List Byte :=
  let b := s.load (g.page * 0x1000) 0x1000
  b.take 40 ++ leBytes 4 (s.reg LOG_FLSN.addr).toNat ++ b.drop 44

/-- Whether the sector of the log head takes blocks: its first ones need an erase, R202. -/
def State.sectorReady (s : State) : Bool := s.fblock ≠ 0 || s.flusher.erased == some s.fsector

/-- LOG_BLOCK_WRITE: the flusher starts programming the oldest closed segment into the next block of an erased sector, R200 to
R203. -/
def logBlockWrite (ans : Answer) (s : State) : State :=
  match s.backlog with
  | (r, q) :: _ =>
    if s.flushing ∧ s.flusher.task = none ∧ s.sectorReady ∧ s.fblock < s.dataBlocks then
      match s.segBySeq r q with
      | none => s
      | some g =>
        s.withDomain (bankOf g.page) (fun s =>
          s.flashTask (.program r q) (s.programFrames s.flashAt (g.page * 0x1000) 4096) ans)
    else s
  | [] => s
/-- LOG_BLOCK_WRITE. -/
def execLogBlockWrite (ans : Answer) (s : State) : Out := .next (logBlockWrite ans s)

/-- The 32-byte index entry of a block, R201. -/
def indexEntry (b : List Byte) : List Byte :=
  slice b 40 4 ++ slice b 4 4 ++ slice b 8 4 ++ slice b 12 12 ++ slice b 24 2 ++ [0, 0] ++ slice b 28 4

/-- The payload bytes in use that a block's header states, R187. -/
def usedOf (b : List Byte) : Nat := let u := leAt b 26 2; if leAt b 5 1 = 2 then ceilDiv u 8 else u

/-- The Read of the read-back ends with its bytes, where it is still in progress on its port. -/
def State.readEnds (s : State) (data : List Byte) : State :=
  let n := flashCsp (s.cword LOG_FCFG.addr)
  match s.cspRunning n with
  | some j => if j.user = .log ∧ j.desc = 14 then s.cspEnd n data else s
  | none => s

/-- LOG_BLOCK_READBACK: with the CRC that the block's header states, and the segment's own, the segment is unpinned from
the log, R201; else the failure of R202. -/
def logBlockReadback (data : List (BitVec 8)) (s : State) : State :=
  let s := s.readEnds data
  match s.flusher.task, s.flusher.got with
  | some (.readBack r q), some data =>
    let crc := ((s.segBySeq r q).map (fun g => slice (s.logImage g) 28 4)).getD []
    if slice data 28 4 = crc ∧ blockCrc (slice data 0 48) (slice data 48 (usedOf data)) = leAt data 28 4 then
      let x := s.ring r
      let s := s.setRing r { x with segs := x.segs.map (fun g => if g.sseq = q then { g with flushed := true } else g) }
      let s := s.setFlusher { s.flusher.idle with retry := false, order := s.flusher.order.filter (fun e => e ≠ (r, q))
                                                  entries := s.flusher.entries ++ [indexEntry data] }
      (s.setReg LOG_FLSN.addr (s.reg LOG_FLSN.addr + 1)).setFld LOG_FHEAD.addr LOG_FHEAD.BLOCK (s.fblock + 1)
    else s.flashFail
  | _, _ => s
/-- LOG_BLOCK_READBACK. -/
def execLogBlockReadback (data : List (BitVec 8)) (s : State) : Out := .next (logBlockReadback data s)

/-- INDEX_BLOCK_WRITE: with the sector's data blocks full the flusher starts programming its index block, R201. -/
def indexBlockWrite (ans : Answer) (s : State) : State :=
  if s.flushing ∧ s.flusher.task = none ∧ s.fblock = s.dataBlocks then
    s.flashTask .index (s.programFrames s.flashAt 0 s.indexImage.length) ans
  else s
/-- INDEX_BLOCK_WRITE. -/
def execIndexBlockWrite (ans : Answer) (s : State) : Out := .next (indexBlockWrite ans s)

/-- SECTOR_ERASE: the flusher starts erasing a sector before it writes into it, R202. -/
def sectorErase (ans : Answer) (s : State) : State :=
  if s.flushing ∧ s.flusher.task = none ∧ !s.sectorReady ∧ s.backlog ≠ [] then s.flashTask .erase (eraseFrames s.flashAt) ans
  else s
/-- SECTOR_ERASE. -/
def execSectorErase (ans : Answer) (s : State) : Out := .next (sectorErase ans s)

/-- Of two LSNs modulo 2^32, the later. -/
def lsnLater (a b : Nat) : Bool := (b + 2 ^ 32 - a) % 2 ^ 32 < 2 ^ 31

/-- The LSN in a block's header, R187. -/
def lsnOf (h : List Byte) : Nat := leAt h 40 4

/-- The newest of the blocks whose CRC matches. -/
def newestBlock (found : List (Nat × Nat × List Byte × Bool)) : Option (Nat × Nat × List Byte × Bool) :=
  (found.filter (fun b => b.2.2.2)).foldl (fun best b =>
    match best with
    | none => some b
    | some c => if lsnLater (lsnOf c.2.2.1) (lsnOf b.2.2.1) then some b else best) none

/-- LOG_HEAD_RECOVERY: before FLEN is set, Topcoat writes LOG_FHEAD with the block that follows the newest one, past
blocks whose CRC fails, and LOG_FLSN with the LSN after its own; the index entries of the sector are rebuilt from the block
headers, a block not read counting as erased, R203 and R204. -/
def logHeadRecovery (found : List (Nat × Nat × List (BitVec 8) × Bool)) (s : State) : State :=
  if s.fld LOG_CTL.addr LOG_CTL.FLEN = 1 then s
  else
    let x := { s.flusher.idle with retry := false, stopped := false, entries := [], erased := none }
    match newestBlock found with
    | none => ((s.setReg LOG_FHEAD.addr 0).setReg LOG_FLSN.addr 0).setFlusher x
    | some (sec, blk, h, _) =>
      let next := found.foldl (fun n b => if b.1 = sec then max n (b.2.1 + 1) else n) (blk + 1)
      let s := s.setReg LOG_FLSN.addr (Word.ofNat (lsnOf h + 1))
      if s.dataBlocks < next then
        let sec := if sec + 1 = s.cfld LOG_FSIZE.addr LOG_FSIZE.SECTORS then 0 else sec + 1
        (s.setReg LOG_FHEAD.addr (pack [(LOG_FHEAD.SECTOR, sec)])).setFlusher x
      else
        let header (k : Nat) : List Byte :=
          ((found.find? (fun b => b.1 = sec ∧ b.2.1 = k)).map (fun b => b.2.2.1)).getD (List.replicate 48 0xFF)
        (s.setReg LOG_FHEAD.addr (pack [(LOG_FHEAD.BLOCK, next), (LOG_FHEAD.SECTOR, sec)])).setFlusher
          { x with entries := (List.range next).map (fun k => indexEntry (header k)), erased := some sec }
/-- LOG_HEAD_RECOVERY. -/
def execLogHeadRecovery (found : List (Nat × Nat × List (BitVec 8) × Bool)) (s : State) : Out :=
  .next (logHeadRecovery found s)

end Sys2Proof.Machine
end

