-- ==== Sys2Proof/Machine/Stipple.lean ====
section
/-! DEFINITION. The Stipple engine, R165 to R172 and R180 to R183. -/

namespace Sys2Proof.Machine

/-- The Stipple block, R435. -/
def stpBlock : Nat := 0x1400
/-- Base of weight SRAM, R30. -/
def weightBase : Nat := 0x08000000

/-! ## Model packages, R166 -/

/-- A layer descriptor, R166. -/
structure StpLayer where
  type : Nat
  act : Nat
  cin : Nat
  cout : Nat
  kernel : Nat
  stride : Nat
  inLen : Nat
  wOff : Nat
  bOff : Nat
  m : Int
  sh : Nat
  z : Int
  deriving DecidableEq, Repr

/-- The layer that 32 bytes describe, R166. -/
def layerOf (b : List Byte) : StpLayer :=
  { type := leAt b 0 1, act := leAt b 1 1, cin := leAt b 2 2, cout := leAt b 4 2, kernel := leAt b 6 1
    stride := leAt b 7 1, inLen := leAt b 8 2, wOff := leAt b 12 4, bOff := leAt b 16 4
    m := signed 32 (leAt b 20 4), sh := leAt b 24 1 % 32, z := signed 8 (leAt b 25 1) }

/-- The output steps of a layer: an FC layer has one, the others one per kernel position without padding
(log entry 19). -/
def StpLayer.outLen (l : StpLayer) : Nat := if l.type = 0 then 1 else (l.inLen - l.kernel) / max 1 l.stride + 1
/-- The input elements of a layer. -/
def StpLayer.inElems (l : StpLayer) : Nat := l.cin * max 1 l.inLen
/-- The output elements of a layer. -/
def StpLayer.outElems (l : StpLayer) : Nat := l.cout * l.outLen
/-- The weights of a layer. -/
def StpLayer.weights (l : StpLayer) : Nat :=
  match l.type with
  | 0 => l.inElems * l.cout
  | 1 => l.cin * l.cout * l.kernel
  | _ => 0

/-- The inputs of a package's input table: lane, OFF and SC, R166. -/
def inputsOf (b : List Byte) (nin : Nat) : List (Nat × Int × Int) :=
  (List.range nin).map (fun i =>
    let o := 64 + 12 * i
    (leAt b o 2 % 512, signed 32 (leAt b (o + 4) 4), signed 32 (leAt b (o + 8) 4)))

/-- The layers of a package. -/
def layersOf (b : List Byte) : List StpLayer :=
  (List.range (leAt b 6 1)).map (fun i => layerOf (slice b (64 + 12 * leAt b 8 2 + 32 * i) 32))

/-- NCLASS of a package: 0 means 256. -/
def nclassOf (b : List Byte) : Nat := let n := leAt b 24 1; if n = 0 then 256 else n

/-- Whether each layer takes what the one before it gives, and the last gives NCLASS outputs, R181 check 3. -/
def layersFit (nclass : Nat) : Nat → List StpLayer → Bool
  | n, [] => n = nclass
  | n, l :: r =>
    l.type ≤ 3 && l.inElems == n && decide (1 ≤ l.cin) && decide (1 ≤ l.cout) &&
      (l.type = 0 || (decide (1 ≤ l.kernel ∧ 1 ≤ l.stride) && decide (l.kernel ≤ l.inLen))) &&
      (l.type ≤ 1 || l.cin == l.cout) && layersFit nclass l.outElems r

/-- The first of checks 1 to 3 of R181 that a package fails; 0 where it passes. -/
def packageCheck (b : List Byte) : Nat :=
  let total := leAt b 16 4
  if slice b 0 4 ≠ [0x47, 0x53, 0x50, 0x4B] ∨ leAt b 4 2 ≠ 1 then 1
  else if crc32 (slice b 24 (total - 24)) ≠ leAt b 20 4 then 2
  else
    let nin := leAt b 8 2
    let steps := leAt b 10 2
    let mode := leAt b 7 1
    let ls := layersOf b
    let shape := decide (1 ≤ leAt b 6 1 ∧ leAt b 6 1 ≤ 32 ∧ mode ≤ 1 ∧ 1 ≤ nin ∧ nin ≤ 128 ∧ 1 ≤ steps ∧ steps ≤ 256 ∧
      (mode = 0 → steps = 1) ∧ 64 + 12 * nin + 32 * ls.length ≤ total)
    let inside := ls.all (fun l => decide (l.wOff + l.weights ≤ total) &&
      (decide (2 ≤ l.type) || decide (l.bOff + 4 * l.cout ≤ total)))
    if shape && inside && layersFit (nclassOf b) (nin * steps) ls then 0 else 3

/-! ## The computation, R165 and R169 -/

/-- An integer limited to int8. -/
def sat8 (i : Int) : Int := max (-128) (min 127 i)

/-- An accumulator of 32 bits, wrapping, R165. -/
def wrap32 (i : Int) : Int := signed 32 (wrap 32 i)

/-- An accumulator requantised, R165. -/
def requant (l : StpLayer) (acc : Int) : Int :=
  let o := sat8 (l.z + roundDiv (acc * l.m) (2 ^ (31 + l.sh)))
  if l.act = 1 then max o l.z else o

/-- Element c of step t of a tensor with n channels. -/
def elemAt (x : List Int) (n t c : Nat) : Int := x.getD (t * n + c) 0

/-- The accumulators of a layer over its input x with zero point zin; b holds the package. -/
def accumulators (b : List Byte) (l : StpLayer) (zin : Int) (x : List Int) : List Int :=
  let weight (o i k : Nat) : Int :=
    signed 8 (leAt b (l.wOff + Config.stpWeightAt l.type l.inElems l.cout l.kernel o i k % max 1 l.weights) 1)
  let bias (o : Nat) : Int := signed 32 (leAt b (l.bOff + 4 * o) 4)
  (List.range l.outElems).map (fun e =>
    let t := e / max 1 l.cout
    let o := e % max 1 l.cout
    let window (c : Nat) : List Int := (List.range l.kernel).map (fun k => elemAt x l.cin (t * l.stride + k) c - zin)
    match l.type with
    | 0 => wrap32 ((List.range l.inElems).foldl (fun a i => a + weight o i 0 * (x.getD i 0 - zin)) (bias o))
    | 1 => wrap32 ((List.range l.cin).foldl (fun a c =>
        (List.range l.kernel).foldl (fun a k => a + weight o c k * ((window c).getD k 0)) a) (bias o))
    | 2 => match window o with
        | [] => 0
        | y :: r => maxI y r
    | _ => wrap32 ((window o).foldl (· + ·) 0))

/-- A layer's inputs as a sparse run propagates them, R169: an element changes when it moved by more than DTH. -/
def sparseInputs (dth : Nat) (p x : List Int) : List Int :=
  List.zipWith (fun new old => if (dth : Int) < ((new - old).natAbs : Int) then new else old) x p

/-- What was propagated, shifted by d steps of n elements; the newest steps take the new elements, R169 step 3. -/
def shiftSteps (n d : Nat) (p x : List Int) : List Int := p.drop (n * d) ++ x.drop (p.length - n * d)

/-- The layers run over x: the outputs, and per layer the inputs propagated. A sparse run is given those of the run
before, and in WINDOW mode by how many steps its input has moved on since then; a dense run none. What has moved on by whole
steps is shifted through CONV1D and pooling layers as long as it stays whole under their strides (R169 step 3); an FC layer,
and all that follows what does not shift, compares each element with the one in its place. -/
def runLayers (b : List Byte) (dth : Nat) : List StpLayer → Int → List Int → Option (List (List Int)) → Option Nat →
    List Int × List (List Int)
  | [], _, x, _, _ => (x, [])
  | l :: r, zin, x, old, shift =>
    let shift := if l.type = 0 then none else shift
    let x := match old, shift with
      | some (p :: _), some d => sparseInputs dth (shiftSteps l.cin d p x) x
      | some (p :: _), none => sparseInputs dth p x
      | _, _ => x
    let y := (accumulators b l zin x).map (requant l)
    let next := shift.bind (fun d => if d % max 1 l.stride = 0 then some (d / max 1 l.stride) else none)
    let rest := runLayers b dth r l.z y (old.map (fun o => o.drop 1)) next
    (rest.1, x :: rest.2)

/-- By how many steps the inputs of a WINDOW package have moved on since a run: by as many as each of them has newer records.
Where they differ no step of all inputs has a place of its own before, and none is taken as shifted (DESIGN CHOICE, log
entry 20). -/
def windowShift (newest : List (Option (BitVec 80))) (times : List (List (BitVec 80))) : Option Nat :=
  let moved := List.zipWith (fun (n : Option (BitVec 80)) l => l.countP (fun t => n.all (fun x => decide (x < t)))) newest times
  match moved with
  | d :: r => if r.all (fun x => x = d) then some d else none
  | [] => none

/-! ## Gathering, R167 and R194 -/

/-- The lane record in a decodable segment at an index. -/
def State.decodeAt (s : State) (r : Nat) (g : Seg) (i : Nat) : LaneRec :=
  let a := g.page * 0x1000 + 48
  if g.fmt = 1 then
    let b := s.load (a + 16 * i) 16
    let lf := leAt b 12 2
    { gts := ⟨g.base.t + BitVec.ofNat 80 (leAt b 0 6), BitVec.ofNat 16 (leAt b 6 2)⟩, value := BitVec.ofNat 32 (leAt b 8 4)
      lane := 16 * r + lf / 4096, flags := lf % 2048, seq := leAt b 14 2, epoch := g.epoch }
  else
    let b := s.load (a + 24 * i) 24
    { gts := gtsOfBytes b, value := BitVec.ofNat 32 (leAt b 12 4), lane := leAt b 16 2 % 512, flags := leAt b 18 2 % 2048
      seq := leAt b 20 2, epoch := leAt b 22 1 }

/-- The newest n records of a lane in its ring, newest first; none in a compressed ring or one that is not enabled. -/
def State.newestRecords (s : State) (lane n : Nat) : List LaneRec :=
  let r := lane / 16
  if s.rcfg r LOG_RCFG.EN = 0 then []
  else
    (((s.ring r).segs.reverse.filter (fun g => g.fmt ≠ 2)).flatMap (fun g =>
      ((List.range g.nrec).reverse.map (fun i => s.decodeAt r g i)).filter (fun x => x.lane = lane))).take n

/-- The inputs of a package gathered, R167: a doubtful input enters as 0 and is counted. With no record at all the
result's GTS is a free value (log entry 5). -/
def State.gather (s : State) (b : List Byte) : Gathered :=
  let steps := leAt b 10 2
  let ins := (inputsOf b (leAt b 8 2)).map (fun e =>
    let lane : Nat := e.1
    let off : Int := e.2.1
    let sc : Int := e.2.2
    let recs : List LaneRec := s.newestRecords lane steps
    let doubt := recs.length < steps ∨ recs.any (fun r => (r.flags &&& (fOW + fST + fRG + fSAT)) ≠ 0)
    let vals := if doubt then List.replicate steps (0 : Int)
      else recs.reverse.map (fun r => sat8 (roundDiv ((r.value.toInt - off) * sc) (2 ^ 24)))
    (recs, decide doubt, vals))
  let all : List LaneRec := ins.flatMap (fun x => x.1)
  let newest := all.foldl (fun (m : Option LaneRec) r =>
    match m with
    | none => some r
    | some q => if q.gts.t < r.gts.t then some r else m) none
  let x := (List.range steps).flatMap (fun t => ins.map (fun i => i.2.2.getD t 0))
  let times := ins.map (fun i => i.1.map (fun r => r.gts.t))
  match newest with
  | some r => { ins := x, doubt := ins.countP (fun i => i.2.1), gts := r.gts, epoch := r.epoch, times }
  | none => { ins := x, doubt := ins.countP (fun i => i.2.1)
              gts := ⟨BitVec.ofNat 80 (Config.freeNat s.free), BitVec.ofNat 16 (Config.freeNat s.free / 2 ^ 80)⟩
              epoch := s.epoch, times }

/-! ## Slots, triggers and runs -/

/-- The state with STP replaced. -/
def State.setStp (s : State) (x : Stp) : State := { s with stp := x }
/-- Slot n. -/
def State.stpSlot (s : State) (n : Nat) : StpSlot := Tab.get StpSlot.reset s.stp.slots n
/-- The state with slot n replaced. -/
def State.setStpSlot (s : State) (n : Nat) (x : StpSlot) : State := s.setStp { s.stp with slots := Tab.put s.stp.slots n x }
/-- A field of a slot's committed STP_SCFGn. -/
def State.scfg (s : State) (n : Nat) (f : Fld) : Nat := s.cfld (STP_SCFG.addr n) f

/-- The package of a slot, from its committed base: bits 3:0 of BASE are ignored, R183. -/
def State.package (s : State) (n : Nat) : List Byte :=
  s.load (weightBase + s.cfld (STP_SBASE.addr n) STP_SBASE.BASE / 16 * 16) (s.cfld (STP_SLEN.addr n) STP_SLEN.LEN)

/-- A slot's pending set takes effect at its run boundary, R180: its next run is dense. -/
def State.slotSwitch (s : State) (n : Nat) : State :=
  let s := s.takeEffect (STP_SCFG.addr n) (STP_SRES.addr n)
  let s := s.setStp { s.stp with pendingSlots := s.stp.pendingSlots.filter (· ≠ n)
                                 waiting := if s.scfg n STP_SCFG.EN = 1 then s.stp.waiting
                                            else s.stp.waiting.filter (fun r => r.slot ≠ n) }
  s.setStpSlot n { sparse := none, newest := [], sinceDense := 0, periodAt := s.el }

/-- A trigger of a slot, R170 and R171: it queues a run, or merges with the one that waits. In a mode that keeps STP
unpowered it waits with CODE 01b; in RECOGNIZE STP is woken for it (R433). A slot that is not enabled takes none. -/
def State.trigger (s : State) (n : Nat) (rule : Option Nat) : State :=
  if s.scfg n STP_SCFG.EN = 0 then s
  else
    let s := if s.stp.waiting.any (fun r => r.slot = n) then s.bump STP_STAT.addr STP_STAT.MERGED 1
      else s.setStp { s.stp with waiting := s.stp.waiting ++ [{ slot := n, rule, got := none }] }
    if s.mode < 5 then s.setFld (STP_SSTAT.addr n) STP_SSTAT.CODE 1 else s.requestWake stpBlock

/-- STP_TRIGGER: the earliest STP packet of a rule that has reached STP. -/
def stpTrigger (s : State) : State :=
  match takeFirst (fun p => match p with | .stpTrigger .. => true | _ => false) s.arrived with
  | some (.stpTrigger n e _, rest) => { s with arrived := rest }.trigger n (some e)
  | _ => s
/-- STP_TRIGGER. -/
def execStpTrigger (s : State) : Out := .next (stpTrigger s)

/-- A write of STP_TRIG, R182. -/
def stpTrig (v : Word) (s : State) : State :=
  s.access STP_TRIG.addr (fun s => if fget v STP_TRIG.GO = 1 then s.trigger (fget v STP_TRIG.SLOT) none else s)
/-- STP_TRIG. -/
def execStpTrig (p : Side) (v : Word) (s : State) : Out := .next (s.permitted p STP_TRIG.addr true (stpTrig v))

/-- STP_PERIOD: every PER ms, R170. -/
def stpPeriod (n : Fin 8) (s : State) : State :=
  let per := s.cfld (STP_SPER.addr n) STP_SPER.PER
  let x := s.stpSlot n
  if per ≠ 0 ∧ x.periodAt + per * 1000000 ≤ s.el then
    (s.setStpSlot n { x with periodAt := x.periodAt + per * 1000000 }).trigger n none
  else s
/-- STP_PERIOD. -/
def execStpPeriod (n : Fin 8) (s : State) : Out := .next (stpPeriod n s)

/-- The waiting run that starts first, R170: highest PRIO, then lowest slot number. -/
def State.bestRun (s : State) : Option StpRun :=
  s.stp.waiting.foldl (fun (m : Option StpRun) r =>
    match m with
    | none => some r
    | some q =>
      let p := s.scfg r.slot STP_SCFG.PRIO
      let pq := s.scfg q.slot STP_SCFG.PRIO
      if pq < p ∨ (p = pq ∧ r.slot < q.slot) then some r else m) none

/-- A waiting run starts: it gathers its inputs, R167. -/
def State.startRun (s : State) (r : StpRun) : State :=
  let g := s.gather (s.package r.slot)
  (s.setStp { s.stp with waiting := s.stp.waiting.filter (fun q => q.slot ≠ r.slot)
                         running := some { r with got := some g } }).drawn

/-- STP_RUN_START, R170: with STP enabled and powered, the waiting run of highest PRIO starts; it preempts a running run
of lower PRIO, and a preempted run resumes before waiting runs that are not higher. -/
def stpRunStart (s : State) : State :=
  if s.fld STP_CTL.addr STP_CTL.EN = 0 ∨ s.mode < 5 then s
  else s.withDomain stpBlock (fun s =>
    let prio (r : StpRun) : Nat := s.scfg r.slot STP_SCFG.PRIO
    match s.stp.running, s.bestRun, s.stp.preempted.getLast? with
    | some q, some r, _ =>
      if prio q < prio r then (s.setStp { s.stp with preempted := s.stp.preempted ++ [q] }).startRun r else s
    | some _, none, _ => s
    | none, some r, some q =>
      if prio q < prio r then s.startRun r
      else s.setStp { s.stp with running := some q, preempted := s.stp.preempted.dropLast }
    | none, some r, none => s.startRun r
    | none, none, some q => s.setStp { s.stp with running := some q, preempted := s.stp.preempted.dropLast }
    | none, none, none => s)
/-- STP_RUN_START. -/
def execStpRunStart (s : State) : Out := .next (stpRunStart s)

/-- The outputs of a slot's run over gathered inputs, and the slot after it, R165 and R169. -/
def State.runSlot (s : State) (n : Nat) (g : Gathered) : List Int × StpSlot :=
  let b := s.package n
  let x := s.stpSlot n
  if s.scfg n STP_SCFG.SPARSE = 0 then
    ((runLayers b 0 (layersOf b) 0 g.ins none none).1, { x with sparse := none, newest := [], sinceDense := 0 })
  else
    let refresh := s.scfg n STP_SCFG.REFRESH
    let dense := x.sparse.isNone ∨ (refresh ≠ 0 ∧ refresh ≤ x.sinceDense + 1)
    let dth := s.cfld (STP_SDTH.addr n) STP_SDTH.DTH
    let shift := if leAt b 7 1 = 1 then windowShift x.newest g.times else none
    let r := runLayers b dth (layersOf b) 0 g.ins (if dense then none else x.sparse) shift
    (r.1, { x with sparse := some r.2, newest := g.times.map (fun l => l.head?)
                   sinceDense := if dense then 0 else x.sinceDense + 1 })

/-- The lowest index of the largest element, and that element. -/
def bestClass : List Int → Nat × Int
  | [] => (0, 0)
  | y :: r => (r.foldl (fun (m : Nat × Nat × Int) v => if m.2.2 < v then (m.1 + 1, m.1 + 1, v) else (m.1 + 1, m.2.1, m.2.2))
      (0, 0, y)).2

/-- The running run ends: its slot's pending set takes effect. -/
def State.endRun (s : State) (n : Nat) : State :=
  let s := s.setStp { s.stp with running := none, idleSince := s.el }
  if s.stp.pendingSlots.contains n then s.slotSwitch n else s

/-- STP_RUN_COMPLETE, R168 and R172: the result goes to the slices and, as a record, to the package event queue; a
double-bit weight error abandons the run. TRANS of the record is a free value (log entry 5). -/
def stpRunComplete (corrected : Nat) (double : Bool) (s : State) : State :=
  match s.stp.running with
  | some { slot := n, rule, got := some g } =>
    if !s.isOn stpBlock then s
    else
      let s := s.bump STP_STAT.addr STP_STAT.ECC corrected
      if double then
        ((s.setFld (STP_SSTAT.addr n) STP_SSTAT.CODE 2).raiseFault 4 0x0020 stpBlock n).endRun n
      else if s.events.length < eventQueueSize then
        let (y, x) := s.runSlot n g
        let (cls, score) := bestClass y
        let others := y.eraseIdx cls
        let margin : Int := match others with
          | [] => 0
          | v :: r => score - maxI v r
        let value := cls % 256 + wrap 8 score * 256 + min 255 margin.toNat * 65536 + min 255 g.doubt * 2 ^ 24
        let r : EvRec := { gts := g.gts, value := BitVec.ofNat 32 value, kind := 4, subj := n, rule := rule.getD 0
                           cause := s.scfg n STP_SCFG.CAUSE, count := 1, trans := Config.freeNat s.free % 256
                           eflags := 8 + (if rule.isNone then 16 else 0) + (if s.carriedIn g.gts.t g.epoch then 4 else 0)
                           epoch := g.epoch }
        let s := ({ s with events := s.events ++ [r] }.setStpSlot n x).drawn
        let s := s.resultToSlices n cls score g.doubt ⟨g.gts, g.epoch, none⟩
        let s := (s.setReg (STP_SRES.addr n) (BitVec.ofNat 32 value)).bump (STP_SSTAT.addr n) STP_SSTAT.RUNS 1
        (s.setFld (STP_SSTAT.addr n) STP_SSTAT.CODE 0).endRun n
      else s
  | _ => s
/-- STP_RUN_COMPLETE. -/
def execStpRunComplete (corrected : Nat) (double : Bool) (s : State) : Out := .next (stpRunComplete corrected double s)

/-! ## Commit, R181 -/

/-- The region of a slot's shadow set. -/
def State.slotRegion (s : State) (n : Nat) : Nat × Nat :=
  (s.fld (STP_SBASE.addr n) STP_SBASE.BASE / 16 * 16, s.fld (STP_SLEN.addr n) STP_SLEN.LEN)

/-- The first check of R181 that a slot's shadow set fails; 0 where it passes or is not enabled. -/
def State.slotCheck (s : State) (n : Nat) : Nat :=
  let en (k : Nat) : Bool := s.fld (STP_SCFG.addr k) STP_SCFG.EN = 1
  if en n then
    let (base, len) := s.slotRegion n
    let h := s.load (weightBase + base) 64
    let total := leAt h 16 4
    let c := packageCheck (s.load (weightBase + base) (max 64 (min total (0x100000 - base))))
    if c ≠ 0 then c
    else if 0x100000 < base + len ∨ len < total + leAt h 12 4 ∨ (List.range 8).any (fun k =>
        decide (k ≠ n) && en k && decide ((s.slotRegion k).1 < base + len ∧ base < (s.slotRegion k).1 + (s.slotRegion k).2))
      then 4
    else 0
  else 0

/-- STP_COMMIT.GO, R180 and R181: every enabled slot is checked; the set takes effect at each slot's next run boundary,
at once where the slot has no run in progress. -/
def State.stpCommitGo (s : State) : State :=
  match (List.range 8).find? (fun n => s.slotCheck n ≠ 0) with
  | some n =>
    ((s.setFld STP_STATUS.addr STP_STATUS.REFUSED 1).setFld STP_STATUS.addr STP_STATUS.CERR (s.slotCheck n)).setFld
      STP_STATUS.addr STP_STATUS.CSLOT n
  | none =>
    (List.range 8).foldl (fun s n =>
      let busy := (s.stp.running.any (fun r => r.slot = n)) || s.stp.preempted.any (fun r => r.slot = n)
      let s := s.toPending (STP_SCFG.addr n) (STP_SRES.addr n)
      let s := s.setStp { s.stp with pendingSlots := s.stp.pendingSlots.filter (· ≠ n) ++ [n] }
      if busy then s else s.slotSwitch n) s

/-- A write of STP_COMMIT. -/
def stpCommit (v : Word) (s : State) : State :=
  s.access STP_COMMIT.addr (fun s => if fget v STP_COMMIT.GO = 1 then s.stpCommitGo else s)
/-- STP_COMMIT. -/
def execStpCommit (p : Side) (v : Word) (s : State) : Out := .next (s.permitted p STP_COMMIT.addr true (stpCommit v))

/-- STP_IDLE: in RECOGNIZE STP returns to retention after STPIDLE µs without a run, R433. -/
def stpIdle (s : State) : State :=
  let wait := max 1 (s.fld PWR_CFG.addr PWR_CFG.STPIDLE) * 1000
  if s.mode = 5 ∧ s.isOn stpBlock ∧ s.stp.running.isNone ∧ s.stp.waiting = [] ∧ s.stp.preempted = [] ∧
      s.stp.idleSince + wait ≤ s.el then s.setDom stpBlock .ret else s
/-- STP_IDLE. -/
def execStpIdle (s : State) : Out := .next (stpIdle s)

end Sys2Proof.Machine
end

