-- ==== Sys2Proof/Machine/Timers.lean ====
section
/-! DEFINITION. The timer commands, R412 to R420. -/

namespace Sys2Proof.Machine

/-- The number of the processor of an accessor. -/
def userCore : TimerUser → Nat
  | .keeper => 16
  | .link => 17
  | .core c => c

/-- A write to a timer by an accessor, R264 and R408: the Link processor's to a timer it does not hold is discarded; a
watch core's to one it does not hold raises BUS_ERROR. -/
def State.timerBy (s : State) (u : TimerUser) (n o : Nat) (f : State → State) : State :=
  match u with
  | .keeper => s.access (TMR_CTL.addr n) f
  | .link => if s.sideHolds .link 5 n then s.access (TMR_CTL.addr n) f else s
  | .core c =>
    if s.ownerOf 5 n == 0x0200 + s.ident c then s.access (TMR_CTL.addr n) f
    else s.exception c 3 0 0 (0x1000 + 0x40 * n + o)

/-- TMR_ARM: a write of TMRn_CTL with ARM 1. -/
def tmrArm (u : TimerUser) (n : Fin 32) (v : Word) (s : State) : State :=
  s.timerBy u n 0 (fun s => s.timerCtl n (fset v TMR_CTL.ARM 1))
/-- TMR_ARM. -/
def execTmrArm (u : TimerUser) (n : Fin 32) (v : Word) (s : State) : Out := .next (tmrArm u n v s)

/-- TMR_STOP: a write of TMRn_CTL with STOP 1. -/
def tmrStop (u : TimerUser) (n : Fin 32) (v : Word) (s : State) : State :=
  s.timerBy u n 0 (fun s => s.timerCtl n (fset v TMR_CTL.STOP 1))
/-- TMR_STOP. -/
def execTmrStop (u : TimerUser) (n : Fin 32) (v : Word) (s : State) : Out := .next (tmrStop u n v s)

/-- TMR_EXPIRY: COUNT has reached LIMIT; DONE is set and the timer stops, R413. An expiry with IE 1 is a wake
event of source 13 + n (R443). -/
def tmrExpiry (n : Fin 32) (s : State) : State :=
  if (s.timer n).running ∧ s.tlimit n ≤ (s.timer n).count then
    let s := s.expire n
    if s.fld (TMR_CTL.addr n) TMR_CTL.IE = 1 then s.wakeEvent (13 + n) else s
  else s
/-- TMR_EXPIRY. -/
def execTmrExpiry (n : Fin 32) (s : State) : Out := .next (tmrExpiry n s)

/-- TMR_CAPTURE: an edge on the capture pin that CEDGE selects pushes COUNT, while the pin is held by the
timer's holder's side (R416, R533) and its bank is good (R470). -/
def tmrCapture (n : Fin 32) (rise : Bool) (s : State) : State :=
  if s.timerPin n (s.cfld (TMR_PIN.addr n) TMR_PIN.CPIN) ∧ edgeSelected (s.tcfg n TMR_CFG.CEDGE) rise ∧ s.isOn (0x2200 + n) ∧ s.vioOk 3 then
    s.capture n
  else s
/-- TMR_CAPTURE. -/
def execTmrCapture (n : Fin 32) (rise : Bool) (s : State) : Out := .next (tmrCapture n rise s)

/-- The key of a processor's read result. -/
def userKey : TimerUser → Nat
  | .keeper => 0
  | .link => 1
  | .core c => 16 + c

/-- TMR_CAP_READ: the head of the queue, removed for the processor that receives the interrupt, R419. -/
def tmrCapRead (u : TimerUser) (n : Fin 32) (s : State) : State :=
  let go (s : State) : State :=
    s.access (TMR_CTL.addr n) (fun s => let (w, s) := s.capRead n (userCore u); s.returns (userKey u) w)
  match u with
  | .core c => if s.ownerOf 5 n == 0x0200 + s.ident c then go s else s.exception c 3 0 0 (0x1018 + 0x40 * n)
  | _ => go s
/-- TMR_CAP_READ. -/
def execTmrCapRead (u : TimerUser) (n : Fin 32) (s : State) : Out := .next (tmrCapRead u n s)

end Sys2Proof.Machine
end

