-- ==== Sys2Proof/Machine/Resources.lean ====
section
/-! DEFINITION. The resource ownership table and the fault collector, R528 to R541. -/

namespace Sys2Proof.Machine

/-! ## Claims and releases, R530 to R533 -/

/-- The class and the instance of a RESID, R528. -/
def residUnit (r : Word) : Nat × Nat := (r.toNat / 2 ^ 24, r.toNat % 65536)
/-- The units of a range, or none where it names no unit or runs past its class, R531. -/
def unitRange (r : Word) (count : Nat) : Option (List (Nat × Nat)) :=
  let (cls, inst) := residUnit r
  if inst + count ≤ classSize cls then some ((List.range count).map (fun k => (cls, inst + k))) else none

/-- The first unit of a list that is neither free nor held by an owner, with its index and owner. -/
def State.conflict (s : State) (l : List (Nat × Nat)) (owner : Nat) : Option (Nat × Nat) :=
  ((List.range l.length).find? (fun i =>
    let u := l.getD i (0, 0)
    s.ownerOf u.1 u.2 ≠ 0 && s.ownerOf u.1 u.2 ≠ owner)).map (fun i => (i, let u := l.getD i (0, 0); s.ownerOf u.1 u.2))

/-- The first unit of a list that another owner holds. -/
def State.conflictUnit (s : State) (l : List (Nat × Nat)) (owner : Nat) : Option (Nat × Nat) :=
  (s.conflict l owner).map (fun c => l.getD c.1 (0, 0))

/-- Whether an owner holds every unit of a list. -/
def State.holdsAll (s : State) (l : List (Nat × Nat)) (owner : Nat) : Bool := l.all (fun u => s.ownerOf u.1 u.2 == owner)

/-- A Stipple slot whose holding ends: its EN is cleared at its next run boundary, R533. -/
def State.revokeSlot (s : State) (n : Nat) : State :=
  let a := STP_SCFG.addr n
  let waits := s.stp.pendingSlots.contains n
  let s := if waits then s else { s with pset := Tab.copyRange s.cset s.pset a (STP_SRES.addr n) }
  let s := { s with pset := Tab.put s.pset a (fset (s.pword a) STP_SCFG.EN 0) }
  let s := s.setFld a STP_SCFG.EN 0
  let s := s.setStp { s.stp with pendingSlots := s.stp.pendingSlots.filter (· ≠ n) ++ [n] }
  let busy := s.stp.running.any (fun r => r.slot = n) || s.stp.preempted.any (fun r => r.slot = n)
  if busy then s else s.slotSwitch n

/-- A ring whose holding ends: LOG commits it with EN 0, R533. -/
def State.revokeRing (s : State) (r : Nat) : State :=
  let a := LOG_RCFG.addr r
  let s := if (s.ring r).pending then s else { s with pset := Tab.copyRange s.cset s.pset a (a + 0x20) }
  let s := { s with pset := Tab.put s.pset a (fset (s.pword a) LOG_RCFG.EN 0) }
  (s.setFld a LOG_RCFG.EN 0).setRing r { s.ring r with pending := true }

/-- What the blocks acting for the former holder of a unit do when it becomes free, R533. A frame or transaction in
progress runs to its end, and no further one starts: LOG's starts check the holding, and the manual ones of the Link
processor that wait are dropped. -/
def State.revoke (s : State) (cls inst owner : Nat) : State :=
  match cls with
  | 3 =>
    if 0x1200 ≤ owner ∧ owner < 0x1220 ∧ s.boundPort (owner - 0x1200) = inst then
      s.setTile (owner - 0x1200) { s.tile (owner - 0x1200) with running := false }
    else if owner = 0x0300 ∧ 12 ≤ inst ∧ inst < 20 then s.setBus (inst - 12) { s.bus (inst - 12) with manual := [] }
    else if owner = 0x0300 ∧ 20 ≤ inst ∧ inst < 26 then
      s.setCsport (inst - 20) { s.csport (inst - 20) with manual := none }
    else s
  | 5 => if 0x0200 ≤ owner ∧ owner < 0x0210 then s.timerStop inst else s
  | 6 => s.setFld (TB_FICTL.addr inst) TB_FICTL.EN 0
  | 7 => s.revokeRing inst
  | 8 => if (s.handle inst).st = .free then s else s.batchRelease inst
  | 9 => s.revokeSlot inst
  | _ => s

/-- A unit becomes free and is revoked, R533. -/
def State.freeUnit (s : State) (u : Nat × Nat) : State :=
  let o := s.ownerOf u.1 u.2
  let s := (s.setOwner u.1 u.2 0).revoke u.1 u.2 o
  { s with ohp := { s.ohp with claimedFor := Tab.del s.ohp.claimedFor (unitKey u.1 u.2) } }

/-- Units recorded for an owner. -/
def State.claimUnits (s : State) (l : List (Nat × Nat)) (owner : Nat) : State :=
  l.foldl (fun s u => s.setOwner u.1 u.2 owner) s
/-- Units freed. -/
def State.freeUnits (s : State) (l : List (Nat × Nat)) : State := l.foldl (fun s u => s.freeUnit u) s

/-! ## The RES registers, R531 and R540 -/

/-- The key of a RES register of a processor: each has its own. -/
def resKey (p : Side) (a : Nat) : Nat := sideKey p * 2 ^ 32 + a
/-- A RES register of a processor. -/
def State.resReg (s : State) (p : Side) (a : Nat) : Word := Tab.get (regDefault a) s.regs (resKey p a)
/-- The state with a RES register of a processor set. -/
def State.setResReg (s : State) (p : Side) (a : Nat) (w : Word) : State := { s with regs := Tab.put s.regs (resKey p a) w }

/-- The units that an operation covers: 0 acts as 1, above 256 as 256. -/
def resCount (v : Word) : Nat := let n := fget v RES_CMD.COUNT; if n = 0 then 1 else min 256 n
/-- The owner of a processor's operation, R531. -/
def State.resOwner (s : State) (p : Side) : Nat :=
  match p with
  | .keeper => fget (s.resReg p RES_OWNER.addr) RES_OWNER.OWNER
  | .link => 0x0300
/-- The result of an operation: its status, index and owner. -/
def State.resResult (s : State) (p : Side) (status index owner : Nat) : State :=
  s.setResReg p RES_RESULT.addr (pack [(RES_RESULT.DONE, 1), (RES_RESULT.STATUS, status), (RES_RESULT.INDEX, index),
    (RES_RESULT.OWNER, owner)])

/-- A CLAIM, R531. -/
def State.resClaim (s : State) (p : Side) (v : Word) : State :=
  match unitRange (s.resReg p RES_RESID.addr) (resCount v) with
  | none => s.resResult p 2 0 0
  | some l =>
    match s.conflict l (s.resOwner p) with
    | some (i, o) => s.resResult p 1 i o
    | none => (s.claimUnits l (s.resOwner p)).resResult p 0 0 0

/-- A RELEASE, R531. -/
def State.resRelease (s : State) (p : Side) (v : Word) : State :=
  match unitRange (s.resReg p RES_RESID.addr) (resCount v) with
  | none => s.resResult p 2 0 0
  | some l => if s.holdsAll l (s.resOwner p) then (s.freeUnits l).resResult p 0 0 0 else s.resResult p 2 0 0

/-- A QUERY, R531. -/
def State.resQuery (s : State) (p : Side) (v : Word) : State :=
  match unitRange (s.resReg p RES_RESID.addr) (resCount v) with
  | none => s.resResult p 2 0 0
  | some l => let u := l.headD (0, 0); s.resResult p 0 0 (s.ownerOf u.1 u.2)

/-- A write of RES_CMD, R531 and R540: OP 11b has no effect. -/
def State.resCommand (s : State) (p : Side) (v : Word) : State :=
  if fget v RES_CMD.GO = 1 then
    match fget v RES_CMD.OP with
    | 0 => s.resClaim p v
    | 1 => s.resRelease p v
    | 2 => s.resQuery p v
    | _ => s
  else s

/-- CLAIM: a write of RES_CMD with GO 1 and OP CLAIM. -/
def claim (p : Side) (v : Word) (s : State) : State := s.access RES_CMD.addr (fun s => s.resClaim p v)
/-- CLAIM. -/
def execClaim (p : Side) (v : Word) (s : State) : Out := .next (claim p v s)
/-- RES_RELEASE: a write of RES_CMD with GO 1 and OP RELEASE. -/
def resRelease (p : Side) (v : Word) (s : State) : State := s.access RES_CMD.addr (fun s => s.resRelease p v)
/-- RES_RELEASE. -/
def execResRelease (p : Side) (v : Word) (s : State) : Out := .next (resRelease p v s)
/-- QUERY: a write of RES_CMD with GO 1 and OP QUERY. -/
def query (p : Side) (v : Word) (s : State) : State := s.access RES_CMD.addr (fun s => s.resQuery p v)
/-- QUERY. -/
def execQuery (p : Side) (v : Word) (s : State) : Out := .next (query p v s)

/-! ## FAULT, R535 and R537 -/

/-- The report that enters FAULT next: of those that arrived in one instant, the lowest level; with the rest. -/
def nextFault : List (Nat × FaultRec) → Option ((Nat × FaultRec) × List (Nat × FaultRec))
  | [] => none
  | a :: r =>
    match nextFault r with
    | none => some (a, r)
    | some (b, rest) => if b.1 = a.1 ∧ b.2.level < a.2.level then some (b, a :: rest) else some (a, r)

/-- FAULT_ARRIVE: a report enters the queue, R537. -/
def faultArrive (s : State) : State :=
  match nextFault s.faultWait with
  | some ((_, r), rest) => { s with faultWait := rest }.takeFault r
  | none => s
/-- FAULT_ARRIVE. -/
def execFaultArrive (s : State) : Out := .next (faultArrive s)

/-- The 24 bytes of a fault record, R535. -/
def FaultRec.bytes (r : FaultRec) : List Byte :=
  leBytes 1 r.level ++ [0] ++ leBytes 2 r.cause ++ leBytes 4 r.unit ++ gtsBytes r.gts ++ leBytes 4 r.detail

/-- The six words of the head record, or zeros where the queue is empty, R537. -/
def State.headWords (s : State) : List Word :=
  match s.faults with
  | r :: _ => (List.range 6).map (fun k => Word.ofNat (leAt r.bytes (4 * k) 4))
  | [] => List.replicate 6 0

/-- FAULT_REC_SNAPSHOT: a read of FAULT_REC0. -/
def faultRecSnapshot (p : Side) (s : State) : State :=
  s.access (FAULT_REC.addr 0) (fun s =>
    (s.snapshot p (FAULT_REC.addr 0) s.headWords).returns (sideKey p) (s.headWords.headD 0))
/-- FAULT_REC_SNAPSHOT. -/
def execFaultRecSnapshot (p : Side) (s : State) : Out := .next (faultRecSnapshot p s)

/-- The head of the queue removed; when space returns a FAULT_LOST record enters first, R537. -/
def State.popFault (s : State) : State :=
  match s.faults with
  | [] => s
  | _ :: r =>
    if s.faultLost = 0 then { s with faults := r }
    else { s with faults := r ++ [{ level := 4, cause := 0x00FF, unit := 0, gts := s.faultLostGts, detail := s.faultLost }]
                  faultLost := 0 }

/-- FAULT_POP: a write of FAULT_POP. -/
def faultPop (v : Word) (s : State) : State :=
  s.access FAULT_POP.addr (fun s => if fget v FAULT_POP.GO = 1 then s.popFault else s)
/-- FAULT_POP. -/
def execFaultPop (_p : Side) (v : Word) (s : State) : Out := .next (faultPop v s)

/-- FAULT_STATUS as it reads, R540. -/
def State.faultStatus (s : State) : Word := pack [(FAULT_STATUS.LOST, s.faultLost), (FAULT_STATUS.LEVEL, s.faults.length)]

/-! ## Islands and engines, R538 and R539 -/

/-- The level and the unit of an island, R535. -/
def islandUnit : Island → Nat × Nat
  | .tile t => (1, t)
  | .cluster n => (2, n * 65536)
  | .slice n => (2, n * 65536 + 0x0300)
  | .memory n => (2, n * 65536 + 0x0400)
  | .edge n => (2, n * 65536 + 0x0500)
  | .region r => (3, b2n r)
  | .block d => (4, d)

/-- ISLAND_CLOCK: an island silent for 1 µs has failed, and FAULT raises the report, R539. -/
def islandClock (i : Island) (s : State) : State :=
  let (l, u) := islandUnit i
  if s.islandUp l u then
    { s with islands := s.islands ++ [islandKey l u] }.atFault
      { level := l, cause := 0x0005, unit := u, gts := s.stamp pathCoarse, detail := 0 }
  else s
/-- ISLAND_CLOCK. -/
def execIslandClock (i : Island) (s : State) : Out := .next (islandClock i s)

/-- ISLAND_RESTART: the island's clock generator is restarted from its retention state, R539. -/
def islandRestart (i : Island) (s : State) : State :=
  let (l, u) := islandUnit i
  { s with islands := s.islands.filter (· ≠ islandKey l u) }
/-- ISLAND_RESTART. -/
def execIslandRestart (i : Island) (s : State) : Out := .next (islandRestart i s)

/-- ENGINE_RECOMMIT: Topcoat commits a parity-faulted engine again with KEEPST 0 from its MRAM copy, R538: the words last
committed (log entry 25). -/
def engineRecommit (e : Fin 256) (s : State) : State :=
  if (s.engine e).faulted then
    let r := engineRange e
    let s := { s with regs := Tab.copyRange s.cset s.regs r.1 r.2 }
    let s := s.setFld (RS_ECFG.addr e) RS_ECFG.KEEPST 0
    let n : Fin 8 := ⟨e / 32, by omega⟩
    rsCommit n (Word.ofNat (2 ^ (e.val % 32))) s
  else s
/-- ENGINE_RECOMMIT. -/
def execEngineRecommit (e : Fin 256) (s : State) : Out := .next (engineRecommit e s)

end Sys2Proof.Machine
end

