-- ==== Sys2Proof/Machine/Copies.lean ====
section
/-! DEFINITION. The copies that Topcoat keeps in MRAM of the configuration of the domains that go off, R426 and R449. -/

namespace Sys2Proof.Machine

/-- Whether a register is a work register and no configuration: pointers and data that a program moves, claims and
measurements, what the flusher advances, what a saved list restores (R448), and what the always-on set keeps. -/
def isWork (a : Nat) : Bool :=
  (decide (0x40001060 ≤ a) && decide (a < 0x40001080)) || [LOG_FHEAD.addr, LOG_FLSN.addr].contains a ||
    (decide (LOG_RCFG.addr 0 ≤ a) && decide (a < LOG_RCFG.addr 40) && decide (a % 0x20 = 0x10)) ||
    (decide (0x41000000 ≤ a) && decide (a < 0x41080000) && decide (a % 0x10000 < 0x1000) && decide (a % 0x10000 ≠ 0x48)) ||
    (decide (0x42000000 ≤ a) && decide (a < 0x42020000) && decide (0x10 ≤ a % 0x1000) && decide (a % 0x1000 < 0x100) &&
      !(decide (a < 0x42010000) && decide (a % 0x1000 = 0x1C))) ||
    decide (a < PWR_WATCH.addr) || (decide (PWR_COMMIT.addr ≤ a) && decide (a < 0x40001000)) ||
    (decide (0x40004000 ≤ a) && decide (a < 0x40005000))

/-- Whether Topcoat keeps copies of a domain's registers: not of the host ports, which hosts configure, nor of SEC. -/
def copied (d : Nat) : Bool := d / 256 ≠ 0x11 && d ≠ 0x1900

/-- The word of an SH register in the latest set that passed its checks: that of HWU and of a timer takes effect at once. -/
def State.passedWord (s : State) (a : Nat) : Word :=
  if (0x40003000 ≤ a ∧ a < 0x40004000) ∨ (0x42020000 ≤ a ∧ a < 0x42020800) then s.cword a else s.pword a

/-- The configuration that a register holds: its SH fields in the latest set that passed its checks, its RW fields as they
stand. -/
def State.configWord (s : State) (a : Nat) : Word :=
  ((fieldsAt a).getD []).foldl (fun w f =>
    match f.ty with
    | .sh => fset w f (fget (s.passedWord a) f)
    | .rw => fset w f (s.fld a f)
    | _ => w) 0

/-- The addresses of domain d that hold a word, in a table of registers. -/
def listedIn (t : Tab Word) (d : Nat) : List Nat := (t.map (·.1)).filter (fun a => domainOf a == some d && !isWork a)

/-- The register words of domain d that differ from those of a start. -/
def State.configOf (s : State) (d : Nat) : Tab Word :=
  (listedIn s.regs d ++ listedIn s.pset d ++ listedIn s.cset d).foldl (fun t a =>
    let w := s.configWord a
    if w = State.reset.configWord a then t else Tab.put t a w) []

/-- Whether an address lies in a window table of a host port, R568: a level-1 table, or a level-2 table that one names. -/
def State.inTables (s : State) (a : Nat) : Bool :=
  (decide (0x00780000 ≤ a) && decide (a < 0x00780100)) ||
    (decide (0x00781000 ≤ a) && decide (a < 0x007C1000) &&
      let k := (a - 0x00781000) / 0x1000
      (memReadWord s.mem (0x00780000 + 4 * k)).getLsbD 0)

/-- The bytes of domain d that Topcoat copies: the program memory of a watch core, and in banks 60 to 63 the window tables. -/
def State.copyCells (s : State) (d : Nat) : List Host.Cell :=
  let c := d % 256
  if d / 256 = 0x04 then s.mem.filter (fun x => decide (progMemBase c ≤ x.1) && decide (x.1 < progMemBase c + 0x10000))
  else if 0x163C ≤ d ∧ d < 0x1640 then s.mem.filter (fun x => domainOf x.1 == some d && s.inTables x.1)
  else []

/-- Topcoat's copy of domain d. -/
def State.copyOf (s : State) (d : Nat) : Copy :=
  let x := s.core (d % 256)
  { words := if copied d then s.configOf d else [], cells := s.copyCells d
    desc := if d / 256 = 0x04 then x.desc else [], micro := if d / 256 = 0x04 then x.micro else [] }

/-- A copy that holds nothing. -/
def Copy.empty : Copy := { words := [], cells := [], desc := [], micro := [] }

/-- The copies with that of domain d as it stands, where it holds anything; those of a domain still to be reloaded stay. -/
def State.copyDomain (s : State) (t : Tab Copy) (d : Nat) : Tab Copy :=
  if s.domState d = .off ∨ s.copyOf d = .empty then t else Tab.put t d (s.copyOf d)

/-- Domain d copied before it goes off. -/
def State.keepCopy (s : State) (d : Nat) : State := { s with copies := s.copyDomain s.copies d }

/-- A ring as it comes back from KEEP, R188 and R206: its segments are invalid, and the next continues its SSEQ and carries
LOST. -/
def BatchRing.kept (x : BatchRing) : BatchRing :=
  { BatchRing.reset with nextSseq := x.nextSseq, release := x.release, markLost := x.markLost || !x.segs.isEmpty }

end Sys2Proof.Machine
end

