-- ==== Sys2Proof/Machine/Journal.lean ====
section
/-! DEFINITION. The journal in MRAM and the due block of scrubbing, R508, R509 and R520. -/

namespace Sys2Proof.Machine

/-- A record of the journal, R508. -/
structure Journal where
  seq : Nat
  active : Nat
  trial : Bool
  trials : Nat
  version : Nat
  floor : Nat
  scrub : Nat
  passday : Nat
  deriving DecidableEq, Repr

/-- The bytes of a record that its CRC covers. -/
def Journal.body (j : Journal) : List Byte :=
  [0x47, 0x4A, 0x52, 0x4E] ++ leBytes 4 j.seq ++ leBytes 1 j.active ++ leBytes 1 (b2n j.trial) ++ leBytes 1 j.trials ++
    [0] ++ leBytes 4 j.version ++ leBytes 4 j.floor ++ leBytes 2 j.scrub ++ leBytes 2 j.passday ++ leBytes 4 0
/-- The 32 bytes of a record. -/
def Journal.bytes (j : Journal) : List Byte := j.body ++ leBytes 4 (crc32 j.body)

/-- The base of a copy of the journal. -/
def journalBase (copy : Nat) : Nat := 0x10800000 + 0x8000 * copy

/-- The record that a copy holds, where its MAGIC and CRC hold. -/
def State.journalAt (s : State) (copy : Nat) : Option Journal :=
  let b := s.load (journalBase copy) 32
  if Machine.slice b 0 4 = [0x47, 0x4A, 0x52, 0x4E] ∧ crc32 (Machine.slice b 0 28) = leAt b 28 4 then
    some { seq := leAt b 4 4, active := leAt b 8 1, trial := leAt b 9 1 = 1, trials := leAt b 10 1, version := leAt b 12 4
           floor := leAt b 16 4, scrub := leAt b 20 2, passday := leAt b 22 2 }
  else none

/-- The newest valid record, R509: the one with the higher SEQ. -/
def State.journal (s : State) : Option Journal :=
  match s.journalAt 0, s.journalAt 1 with
  | some a, some b => if a.seq < b.seq then some b else some a
  | some a, none => some a
  | none, b => b

/-- What Topcoat works with where no record is valid: a confirmed one for slot A (log entry 26). -/
def Journal.none_ : Journal :=
  { seq := 0, active := 0, trial := false, trials := 0, version := 0, floor := 0, scrub := 0, passday := 0 }
/-- The record in force. -/
def State.journalNow (s : State) : Journal := s.journal.getD Journal.none_

/-- A change of the journal, R509: a record one above the newest valid SEQ goes to copy SEQ mod 2 and then to the other. -/
def State.writeJournal (s : State) (j : Journal) : State :=
  let n := s.journalNow.seq + 1
  let b := { j with seq := n }.bytes
  (s.store (journalBase (n % 2)) b).store (journalBase (1 - n % 2)) b

/-- Undercoat repeats phase 2 where one copy is invalid or older than the other, R509. -/
def State.repairJournal (s : State) : State :=
  match s.journal with
  | some j =>
    (List.range 2).foldl (fun s c => if s.journalAt c = some j then s else s.store (journalBase c) j.bytes) s
  | none => s

/-- Days elapsed since PASSDAY by local time, R520. -/
def State.passDays (s : State) : Nat := s.today - s.journalNow.passday
/-- The due block, R520. -/
def State.dueBlock (s : State) : Nat := 4096 * s.passDays / 300
/-- The block that Topcoat scrubs next, R520: SCRUB as last recorded and the blocks since. -/
def State.scrubNext (s : State) : Nat := s.journalNow.scrub + s.sec.since
/-- Whether a scrub catch-up runs, R520: the next block lies behind the due block, or a pass runs at once. -/
def State.catchingUp (s : State) : Bool := s.sec.passNow || decide (s.scrubNext < s.dueBlock)

end Sys2Proof.Machine
end

