-- ==== Sys2Proof/Machine/Sense.lean ====
section
/-! DEFINITION. The sense die and the sense block, R218 to R247: the link, the windows, the open-wire detection and the
cell estimator. -/

namespace Sys2Proof.Machine

/-- The sense block, R435. -/
def snsBlock : Nat := 0x1500

/-- The state with the sense block replaced. -/
def State.setSense (s : State) (x : Sense) : State := { s with sense := x }

/-- The state with the lanes of a mask that read a channel marked as missing an acquisition, R98. -/
def State.channelMissed (s : State) (t chan : Nat) (lanes : BitVec 16) : State :=
  (List.range 16).foldl (fun s l =>
    if lanes.getLsbD l ∧ s.cfld (TILE_LSRC.addr t l) TILE_LSRC.EN = 1 ∧ s.cfld (TILE_LSRC.addr t l) TILE_LSRC.SEL = chan then
      s.setLane t l { s.lane t l with miss := true }
    else s) s

/-! ## Wires, R230 to R236 -/

/-- Wire k. -/
def State.wire (s : State) (k : Nat) : Wire := Tab.get Wire.reset s.sense.wires k

/-- The cells that R231 names for a wire. -/
def wireCells (k : Nat) : List Nat := if k = 1 then [1] else if k = 19 then [18] else [k - 1, k]

/-- The wires that are not INTACT to the sense die, ascending. -/
def State.badWires (s : State) : List Nat := (List.range 20).filter (fun k => 1 ≤ k && decide ((s.wire k).st ≠ 0))

/-- Whether the sense block knows wire k as SUSPECT or OPEN, by the VERDICT frames that have reached it. -/
def State.wireBad (s : State) (k : Nat) : Bool := (s.reg SNS_OWOPEN.addr).getLsbD k || (s.reg SNS_OWSUSP.addr).getLsbD k

/-- The run of cells that the lowest wire that is not INTACT affects, R235. -/
def State.badRun (s : State) : Option (Nat × Nat) :=
  match (List.range 20).filter s.wireBad with
  | [] => none
  | w :: _ =>
    let intact (k : Nat) : Bool := 1 ≤ k && decide (k ≤ 19) && !s.wireBad k
    let first := (((List.range w).filter intact).getLast?).getD 1
    let last := match (List.range 20).find? (fun k => decide (w < k) && intact k) with
      | some k => k - 1
      | none => 18
    some (first, last)

/-- The true voltage of a run of cells, from the latest conversion, R235. -/
def State.runVoltage (s : State) (first last : Nat) : Int :=
  let cell (k : Nat) : Int := s.sense.latest.getD (k - 1) 0
  let sum (p : Nat → Bool) : Int := ((List.range 19).filter (fun k => 1 ≤ k && p k)).foldl (fun a k => a + cell k) 0
  let inRun (k : Nat) : Bool := first ≤ k && k ≤ last
  if !s.wireBad first ∧ !s.wireBad (last + 1) then sum inRun
  else s.sense.latest.getD 18 0 - sum (fun k => !inRun k)

/-- The run registers after a change of the wires or a new conversion, R235. -/
def State.showRun (s : State) : State :=
  match s.badRun with
  | none => (s.setFld SNS_OWRUN.addr SNS_OWRUN.FIRST 0).setFld SNS_OWRUN.addr SNS_OWRUN.LAST 0
  | some (a, b) =>
    ((s.setFld SNS_OWRUN.addr SNS_OWRUN.FIRST a).setFld SNS_OWRUN.addr SNS_OWRUN.LAST b).setReg SNS_OWFIX.addr
      (BitVec.ofInt 32 (s.runVoltage a b))

/-- Bit k of a word. -/
def setBit (w : Word) (k : Nat) (b : Bool) : Word :=
  if b then w ||| BitVec.ofNat 32 (2 ^ k) else w &&& ~~~BitVec.ofNat 32 (2 ^ k)

/-- The registers that show a wire after a VERDICT frame has told its state, R233 and R235. -/
def State.showWire (s : State) (k : Nat) : State :=
  let w := s.wire k
  let put (s : State) (a : Nat) (b : Bool) : State := s.setReg a (setBit (s.reg a) k b)
  (put (put (put s SNS_OWOPEN.addr (w.st = 2)) SNS_OWSUSP.addr (w.st = 1)) SNS_OWTESTED.addr w.tested).showRun

/-- The conversions of the sense die abandoned, R438. -/
def State.abandonSense (s : State) : State :=
  let miss (s : State) (w : Option SnsWin) : State :=
    match w with
    | some w => w.cmds.foldl (fun s c => s.missed c.tile c.lanes) s
    | none => s
  let s := miss (miss s s.sense.cellWin) s.sense.thermWin
  s.setSense { s.sense with cellWin := none, thermWin := none, ow := none }

/-- The state with a wire replaced. -/
def State.setWire (s : State) (k : Nat) (w : Wire) : State :=
  s.setSense { s.sense with wires := Tab.put s.sense.wires k w }

/-! ## The link, R226 and R227 -/

/-- The link is up. -/
def State.linkUp (s : State) : Bool := s.sense.trained && !s.sense.down

/-- A CFG frame for each committed configuration word, R227. -/
def State.configFrames (s : State) : List SnsFrame :=
  ([SNS_OWCFG.addr, SNS_OWTH.addr, SNS_OWSUS.addr, SNS_THCFG.addr, SNS_ESTCFG.addr, SNS_ESTISC.addr, SNS_ZREF.addr] ++
    (List.range 17).map SNS_SOCT.addr).map (fun a => { data := .cfg a (s.pword a) })

/-! ## Windows, R222 to R225 -/

/-- The length of a window of 100 µs × 4^TC, in ns. -/
def windowNs (tc : Nat) : Nat := 100000 * 4 ^ tc

/-- The window length of an OWTEST and its injection, in ns, R229. -/
def State.tow (s : State) : Nat := windowNs (s.cfld SNS_OWCFG.addr SNS_OWCFG.TC)
/-- TINJ in ns, at least T_ow. -/
def State.tinj (s : State) : Nat := max s.tow (s.cfld SNS_OWCFG.addr SNS_OWCFG.TINJ * 100000)

/-- Whether the cell group is busy, R225 and R229. -/
def State.cellBusy (s : State) : Bool :=
  s.sense.cellWin.isSome || s.el < s.sense.cellFree ||
    (match s.sense.ow with
    | some o => (match o.phase with
      | .waiting => true
      | .windowA => true
      | .injecting => decide (o.since + s.tinj - s.tow ≤ s.el)
      | _ => false)
    | none => false)

/-- The cells whose channels are not delivered: those of the wire under test between A and B and in recovery, R229. -/
def State.undelivered (s : State) : List Nat :=
  match s.sense.ow with
  | some o => if o.phase = .injecting ∨ o.phase = .recovery then wireCells o.wire else []
  | none => []

/-- PENDING of SNS_STATUS, R245. -/
def State.showPending (s : State) : State :=
  s.setFld SNS_STATUS.addr SNS_STATUS.PENDING (b2n (s.sense.pendOw || s.sense.pendTh || s.sense.pendEst))

/-- The open-wire fields take effect at a window opening of the cell group, R244. -/
def State.owSwitch (s : State) : State :=
  if s.sense.pendOw then
    ((s.takeEffect SNS_OWCFG.addr SNS_OWOPEN.addr).setSense { s.sense with pendOw := false }).showPending
  else s

/-- The open-wire fields as window B of an OWTEST leaves them: a set committed before B opened took effect there, R244. -/
def State.owSwitchB (s : State) (o : OwTest) : State :=
  if s.sense.pendAt + s.tow ≤ o.since + s.tinj then s.owSwitch else s
/-- The thermistor fields take effect at a thermistor window, R244. -/
def State.thSwitch (s : State) : State :=
  if s.sense.pendTh then
    ((s.takeEffect SNS_THCFG.addr SNS_ESTCFG.addr).setSense { s.sense with pendTh := false }).showPending
  else s
/-- The estimator fields take effect at an EST conversion, R244. -/
def State.estSwitch (s : State) : State :=
  if s.sense.pendEst then
    ((s.takeEffect SNS_ESTCFG.addr (SNS_SOCT.addr 17)).setSense { s.sense with pendEst := false }).showPending
  else s

/-- L in ns, rounded up, from SNS_LAT. -/
def State.linkNs (s : State) : Nat := ceilDiv (s.fld SNS_LAT.addr SNS_LAT.LAT) 10

/-- The instant of the acquisition whose START departs now, R224: half the window after its receipt, in 0.1 ns. -/
def State.snsInstant (s : State) (len : Nat) : BitVec 80 :=
  s.now + BitVec.ofNat 80 (((s.fld SNS_LAT.addr SNS_LAT.LAT + 5 * len) * 2 ^ 40 + 5000000000) / 10000000000)

/-- Whether a START departs within d ns, so that the link is granted to no other frame, R224. -/
def State.startNear (s : State) (d : Nat) : Bool :=
  [29, 30, 31].any (fun p => (s.portWait p).any (fun x => decide (x.2.opens ≤ s.el + s.linkNs + d)))

/-- The commands of a port whose instant a START serves now, and the rest. -/
def State.dueSns (s : State) (p : Nat) : List (Nat × Sent) × List (Nat × Sent) :=
  (s.portWait p).partition (fun x => x.2.at_ ≤ addNs s.now (s.linkNs + 1))

/-- The operation of a sense command, R222: 10b and 11b act as 00b. -/
def isOwTest (cmd : Nat) : Bool := cmd / 64 = 1

/-- A command that is not made, R98 and R225: an OWTEST counts in OWSKIP, a MEAS in BUSY where its group was busy. -/
def State.snsMissed (s : State) (x : Nat × Sent) (count : Bool) : State :=
  if isOwTest x.2.cmd then s.bump SNS_STAT.addr SNS_STAT.OWSKIP 1
  else
    let s := s.missed x.1 x.2.lanes
    if count then s.bump SNS_STAT.addr SNS_STAT.BUSY 1 else s

/-- The wire that an OWTEST tests, R229: a WIRE of 1 to 19, or else the lowest SUSPECT wire, or else the one after the
last tested. -/
def State.testWire (s : State) (cmd : Nat) : Nat :=
  let w := cmd % 32
  if 1 ≤ w ∧ w ≤ 19 then w
  else match (List.range 20).find? (fun k => decide (1 ≤ k) && decide ((s.wire k).st = 1)) with
    | some k => k
    | none => s.sense.lastTested % 19 + 1

/-- The excitation advances for a window with EST, R238: the register x^15 + x^14 + 1. -/
def State.excite (s : State) : State :=
  if s.cfld SNS_ESTCFG.addr SNS_ESTCFG.EXEN = 1 then
    let r := s.sense.lfsr
    let bit := Bool.xor (r.getLsbD 14) (r.getLsbD 13)
    s.setSense { s.sense with lfsr := (r <<< 1) ||| (if bit then 1 else 0), chip := r.getLsbD 14 }
  else s.setSense { s.sense with chip := false }

/-- The cell window opened for MEAS commands of one TC, R223 to R225: it opens as the START is received. -/
def State.openCell (s : State) (cmds : List (Nat × Nat × Sent)) (tc : Nat) : State :=
  let s := s.owSwitch
  let est := cmds.any (fun c => c.2.2.cmd / 32 % 2 = 1)
  let s := if est then s.estSwitch.excite else s
  let len := windowNs tc
  let w : SnsWin :=
    { cmds := cmds.map (fun c => { port := c.1, tile := c.2.1, lanes := c.2.2.lanes }), since := s.el + s.linkNs, len
      est, gts := s.stampAt (s.snsInstant len) pathSense, epoch := s.epoch, bad := s.badWires, gone := s.undelivered }
  s.setSense { s.sense with cellWin := some w }

/-- TC of a MEAS. -/
def measTc (cmd : Nat) : Nat := cmd / 8 % 4

/-- Whether a MEAS on SNS1 and one on SNS0 form one conversion, R223. -/
def joins (m x : Nat × Nat × Sent) : Bool :=
  x.1 ≠ m.1 && !isOwTest x.2.2.cmd && x.2.2.at_ == m.2.2.at_ && measTc x.2.2.cmd == measTc m.2.2.cmd

/-- The commands that a START serves for the cell group, in the order of their instants, SNS0 before SNS1: the first that
finds the group free opens a window or an OWTEST, and the others find it busy, R223, R225 and R229. A MEAS on SNS1 whose TC
differs from that of SNS0 at its instant is not made and is not counted in BUSY (log entry 89). -/
def State.cellCommands (s : State) : List (Nat × Nat × Sent) → State
  | [] => s
  | m :: rest =>
    if isOwTest m.2.2.cmd then
      if s.cellBusy || s.sense.ow.isSome then (s.snsMissed m.2 true).cellCommands rest
      else
        let w := s.testWire m.2.2.cmd
        let o : OwTest := { wire := w, phase := .waiting, since := s.el, codesA := [] }
        (s.setSense { s.sense with ow := some o, lastTested := w }).cellCommands rest
    else if s.cellBusy then (s.snsMissed m.2 true).cellCommands rest
    else
      let same := (rest.find? (joins m)).toList
      let s := s.openCell (m :: same) (measTc m.2.2.cmd)
      (rest.filter (fun x => !same.contains x)).foldl (fun s x =>
        s.snsMissed x.2 (decide (x.1 = m.1) || x.2.2.at_ != m.2.2.at_)) s

/-- A command put among others in the order of their instants, after those of its own instant. -/
def inStartOrder (x : Nat × Nat × Sent) : List (Nat × Nat × Sent) → List (Nat × Nat × Sent)
  | [] => [x]
  | y :: r => if y.2.2.opens ≤ x.2.2.opens then y :: inStartOrder x r else x :: y :: r

/-- The commands of a START for the cell group. -/
def State.startCell (s : State) : State :=
  let a := s.dueSns 29
  let b := s.dueSns 30
  let s := (s.setPortWait 29 a.2).setPortWait 30 b.2
  let cmds := b.1.foldl (fun l x => inStartOrder (30, x) l) (a.1.map (fun x => (29, x)))
  if s.linkUp then s.cellCommands cmds else cmds.foldl (fun s x => s.snsMissed x.2 false) s

/-- The commands of a START for the thermistor group; an OWTEST acts as a MEAS with TC 00b, R222. -/
def State.startTherm (s : State) : State :=
  let a := s.dueSns 31
  let s := s.setPortWait 31 a.2
  if !s.linkUp then a.1.foldl (fun s x => s.snsMissed (x.1, { x.2 with cmd := 0 }) false) s
  else match a.1 with
    | [] => s
    | m :: rest =>
      let busy := s.sense.thermWin.isSome || s.el < s.sense.thermFree
      if busy then (m :: rest).foldl (fun s x => s.snsMissed (x.1, { x.2 with cmd := 0 }) true) s
      else
        let s := s.thSwitch
        let len := windowNs (if isOwTest m.2.cmd then 0 else measTc m.2.cmd)
        let w : SnsWin :=
          { cmds := [{ port := 31, tile := m.1, lanes := m.2.lanes }], since := s.el + s.linkNs, len, est := false
            gts := s.stampAt (s.snsInstant len) pathSense, epoch := s.epoch, bad := [] }
        rest.foldl (fun s x => s.snsMissed (x.1, { x.2 with cmd := 0 }) true)
          (s.setSense { s.sense with thermWin := some w })

/-- The passive check of R232 on a cell-group conversion: the wires that become SUSPECT, and, of a conversion whose cells
are delivered, what later checks compare with. The end checks skip one made in an injection or a recovery. -/
def State.passive (s : State) (codes : List Int) (gone : List Nat) (delivered : Bool) : State :=
  let cell (k : Nat) : Int := codes.getD (k - 1) 0
  let d := (codes.take 18).foldl (· + ·) 0 - codes.getD 18 0
  let sus : Int := s.cfld SNS_OWSUS.addr SNS_OWSUS.SUSTH
  let p : Int := s.cfld SNS_OWTH.addr SNS_OWTH.PSTOL
  let tol := if sus ≤ p then sus - 1 else p
  let on : Bool := s.cfld SNS_OWSUS.addr SNS_OWSUS.SUSEN = 1
  (List.range 20).foldl (fun s k =>
    if k = 0 then s
    else
      let ends : Bool := k = 1 ∨ k = 19
      let used := if ends then !gone.isEmpty else (wireCells k).any (fun c => gone.contains c)
      if used then s
      else
        let now : Int × Int := if ends then (cell (if k = 1 then 1 else 18), d) else (cell (k - 1), cell k)
        let hit : Bool := match Tab.find s.sense.prev k with
          | none => false
          | some old =>
            let a := now.1 - old.1
            let b := now.2 - old.2
            if ends then decide (sus ≤ (a.natAbs : Int) ∧ ((b - a).natAbs : Int) ≤ tol)
            else decide (((0 < a ∧ b < 0) ∨ (a < 0 ∧ 0 < b)) ∧ sus ≤ (a.natAbs : Int) ∧ sus ≤ (b.natAbs : Int) ∧
              ((a + b).natAbs : Int) ≤ tol)
        let s := if delivered then s.setSense { s.sense with prev := Tab.put s.sense.prev k now } else s
        if on ∧ hit ∧ (s.wire k).st = 0 then s.setWire k { s.wire k with st := 1, run := 0 } else s) s

/-- The port and channel of cell k, R220. -/
def cellChannel (k : Nat) : Nat × Nat := if k ≤ 9 then (29, k) else (30, k - 9)

/-- A cell that an EST conversion did not reach only forgets, R239. -/
def State.estForget (s : State) (k : Nat) : State :=
  if s.cfld SNS_ESTCFG.addr SNS_ESTCFG.EN = 1 then
    let z := max 8 (min 24 (s.cfld SNS_ESTCFG.addr SNS_ESTCFG.ZTAU))
    let c := Tab.get Cell.reset s.sense.cells k
    s.setSense { s.sense with cells := Tab.put s.sense.cells k { c with p := c.p * (1 - 1 / (2 ^ z : Nat)) } }
  else s

/-- The cell of a channel, or none for the others, R220. -/
def channelCell (port chan : Nat) : Option Nat :=
  if port = 29 ∧ 1 ≤ chan ∧ chan ≤ 9 then some chan
  else if port = 30 ∧ 1 ≤ chan ∧ chan ≤ 9 then some (chan + 9)
  else none

/-- A result that gives its channel no input, R226 and R229: its lanes miss it, and of an EST conversion the estimator only
forgets. -/
def State.resultLost (s : State) (r : SnsResult) : State :=
  let s := r.cmds.foldl (fun s c => s.channelMissed c.tile r.chan c.lanes) s
  match channelCell r.port r.chan with
  | some k => if r.est then s.estForget k else s
  | none => s

/-- What the frames of a list lose with the link: results give no input, and the sense die keeps its VERDICT frames for the
next training (log entry 89). -/
def State.framesLost (s : State) (l : List SnsFrame) : State :=
  l.foldl (fun s f => match f.data with
    | .result r => s.resultLost r
    | .verdict k v => s.setSense { s.sense with toCore := s.sense.toCore ++ [{ data := .verdict k v }] }
    | _ => s) s

/-- The link is declared down, R226: counted and reported; no result crosses it. -/
def State.declareDown (s : State) : State :=
  let l := s.sense.toCore
  let s := (s.setSense { s.sense with down := true, downAt := s.el, latAt := none, toDie := [], toCore := [] }).framesLost l
  ((s.bump SNS_LINKSTAT.addr SNS_LINKSTAT.DOWN 1).setFld SNS_STATUS.addr SNS_STATUS.LINKUP 0).raiseFault 4 0x0022 snsBlock 0

/-- RESULT frames sent to the core die, or lost while the link is down. -/
def State.sendResults (s : State) (l : List SnsResult) : State :=
  if s.linkUp then s.setSense { s.sense with toCore := s.sense.toCore ++ l.map (fun r => { data := .result r }) }
  else l.foldl (fun s r => s.resultLost r) s

/-- A VERDICT frame sent to the core die, R226. -/
def State.sendVerdict (s : State) (k v : Nat) : State :=
  s.setSense { s.sense with toCore := s.sense.toCore ++ [{ data := .verdict k v }] }

/-- The RESULT frames of a cell-group conversion: the stack, the junction temperature and the 18 cells. -/
def cellResults (w : SnsWin) (codes : List Int) (chip : Bool) (susp : List Nat) : List SnsResult :=
  let bad (k : Nat) : Bool := (w.bad ++ susp).any (fun x => (wireCells x).contains k)
  let res (port chan : Nat) (code : Int) (ow : Bool) : SnsResult :=
    { port, chan, code, ow, est := w.est, chip, gts := w.gts, epoch := w.epoch
      cmds := w.cmds.filter (fun c => c.port = port) }
  [res 29 0 (codes.getD 18 0) false, res 30 0 (codes.getD 19 0) false] ++ (List.range 18).map (fun i =>
    { res (cellChannel (i + 1)).1 (cellChannel (i + 1)).2 (codes.getD i 0) (bad (i + 1)) with
      skip := w.gone.contains (i + 1), final := i = 17 })

/-- A conversion of the cell group ends, R232 to R234: the passive check, the RESULT frames and a VERDICT frame for each
wire that became SUSPECT. -/
def State.cellConverted (s : State) (w : SnsWin) (codes : List Int) (delivered : Bool) : State :=
  let s := s.setSense { s.sense with cellFree := s.el + 20000 }
  let before := s.badWires
  let s := s.passive codes w.gone delivered
  let susp := s.badWires.filter (fun k => !before.contains k)
  susp.foldl (fun s k => s.sendVerdict k 0) (s.sendResults (cellResults w codes s.sense.chip susp))

/-- The 20 codes of a cell-group conversion, limited to 24 bits, R220. -/
def cellCodes (codes : List Int) : List Int := (List.range 20).map (fun i => satI 24 (codes.getD i 0))

/-- A cell-group window closes, R225. -/
def State.closeCell (s : State) (w : SnsWin) (codes : List Int) : State :=
  (s.setSense { s.sense with cellWin := none }).cellConverted w (cellCodes codes) true

/-- A window of an OWTEST closes, R229: the whole cell group is converted and supplies no lane. -/
def State.closeTest (s : State) (codes : List Int) (gone : List Nat) : State :=
  let w : SnsWin :=
    { cmds := [], since := s.el, len := s.tow, est := false, gts := s.stamp pathSense, epoch := s.epoch
      bad := s.badWires, gone }
  s.cellConverted w (cellCodes codes) false

/-- A thermistor window closes: its RESULT frames, R220 and R237. -/
def State.closeTherm (s : State) (w : SnsWin) (codes : List Int) : State :=
  let th := s.cfld SNS_THCFG.addr SNS_THCFG.OPENTH * 128
  let res (chan : Nat) (code : Int) (ow : Bool) : SnsResult :=
    { port := 31, chan, code, ow, est := false, chip := false, gts := w.gts, epoch := w.epoch, cmds := w.cmds }
  let frames := res 0 (satI 24 (codes.getD 8 0)) false :: (List.range 8).map (fun i =>
    let c := max 0 (min 8388607 (codes.getD i 0))
    res (i + 1) c (decide ((th : Int) ≤ c)))
  (s.setSense { s.sense with thermWin := none, thermFree := s.el + 20000 }).sendResults frames

/-- SENSE_WINDOW_CLOSE: the window of a group closes at the end of its length. -/
def senseWindowClose (cell : Bool) (codes : List Int) (s : State) : State :=
  match (if cell then s.sense.cellWin else s.sense.thermWin) with
  | some w =>
    if w.since + w.len ≤ s.el then (if cell then s.closeCell w codes else s.closeTherm w codes) else s
  | none => s
/-- SENSE_WINDOW_CLOSE. -/
def execSenseWindowClose (cell : Bool) (codes : List Int) (s : State) : Out := .next (senseWindowClose cell codes s)

/-! ## The cell estimator, R238 to R243 -/

/-- Z of a cell, in codes per mA. -/
def Cell.z (c : Cell) : Rat := if c.p = 0 then 0 else c.c / c.p

/-- σ_Z squared, in (codes per mA)^2; none where it is saturated. -/
def Cell.sz2 (c : Cell) : Option Rat := if c.p = 0 then none else some (c.s2 / c.p)

/-- The SD conversion nearest to an instant, R240: its current in mA, where it is within 100 µs and believed. Of two equally
near the later counts (log entry 89). -/
def State.pairedCurrent (s : State) (t : BitVec 80) : Option Rat :=
  let dist (x : BitVec 80 × Int × Bool) : Nat := ((x.1.toNat : Int) - t.toNat).natAbs
  match s.sense.current.foldl (fun (m : Option (BitVec 80 × Int × Bool)) x =>
      match m with
      | none => some x
      | some y => if dist x < dist y then some x else m) none with
  | some x =>
    if dist x ≤ nsToFrac 100000 ∧ !x.2.2 then
      some ((x.2.1 * signed 32 (s.cword SNS_ESTISC.addr).toNat : Int) / (65536000 : Nat))
    else none
  | none => none

/-- The update of a usable EST conversion v, R239 and R240. -/
def State.estimate (s : State) (c : Cell) (v : Rat) (chip : Bool) (t : BitVec 80) : Cell :=
  let f (x : Fld) : Nat := s.cfld SNS_ESTCFG.addr x
  let lam : Rat := 1 - 1 / (2 ^ max 8 (min 24 (f SNS_ESTCFG.ZTAU)) : Nat)
  let mu : Rat := 1 / (2 ^ max 8 (min 24 (f SNS_ESTCFG.OTAU)) : Nat)
  let e : Rat := if f SNS_ESTCFG.EXEN = 0 then 0 else if chip then 1 / 2 else -1 / 2
  let vbar := match c.vbar with
    | none => v
    | some b => lam * b + (1 - lam) * v
  let cc := lam * c.c + e * (v - vbar)
  let p := lam * c.p + e * e
  let z := if p = 0 then 0 else cc / p
  let r := v - vbar - z * e
  let s2 := lam * c.s2 + (1 - lam) * (r * r)
  let s2 := if s2 < 1 then 1 else s2
  let c := { c with vbar := some vbar, c := cc, p, s2 }
  if 8 ≤ f SNS_ESTCFG.ISRC then
    { c with ocv := some (match c.ocv with
        | none => v
        | some o => o + mu * (v - o)), osig2 := none }
  else match s.pairedCurrent t with
    | none => { c with ocv := some (c.ocv.getD v), osig2 := c.osig2.map (fun o => o / (1 - mu)) }
    | some i =>
      let o0 := c.ocv.getD v
      let o := o0 + mu * (v - z * i - o0)
      let d := v - z * i - o
      let so2 := (1 - mu) * c.so2 + mu * (d * d)
      { c with ocv := some o, so2, osig2 := c.sz2.map (fun sz => mu * so2 / 2 + i * i * sz) }

/-- A rational rounded to the nearest integer, ties upward. -/
def roundRat (r : Rat) : Int := (r + 1 / 2).floor

/-- The square root of a rational, rounded down, limited to m. -/
def sqrtRat (m : Nat) (r : Rat) : Nat := if ((m * m : Nat) : Rat) ≤ r then m else isqrt r.floor.toNat

/-- floor(255 × (1 − √r)), limited to 0 to 255, R242. -/
def confOf (r : Rat) : Nat := if 1 ≤ r then 0 else 255 - ceilSqrt (65025 * r).ceil.toNat

/-- SOC in 0.5 % units, R241. -/
def State.soc (s : State) (ocv : Rat) : Nat :=
  let pt (j : Nat) : Rat := ((signed 24 (s.cfld (SNS_SOCT.addr j) SNS_SOCT.OCV) : Int) : Rat)
  if ocv < pt 0 then 0
  else if pt 16 < ocv then 200
  else match (List.range 16).find? (fun j => decide (pt j ≤ ocv ∧ ocv ≤ pt (j + 1))) with
    | some j =>
      let span := pt (j + 1) - pt j
      (roundRat ((25 / 2 : Rat) * ((j : Nat) + (if span = 0 then 0 else (ocv - pt j) / span)))).toNat
    | none => 0

/-- SNS_EZk, SNS_EVk and SNS_ESk of a cell, R241, R242 and R247. -/
def State.cellWords (s : State) (k : Nat) : List Word :=
  let c := Tab.get Cell.reset s.sense.cells k
  let z := c.z * 10000
  let zr := max 0 (min 0xFFFF (roundRat z))
  let zsig := match c.sz2 with
    | none => 0xFFFF
    | some q => sqrtRat 0xFFFF (q * 100000000)
  let ocv := (c.ocv.map roundRat).getD 0
  let osig := match c.osig2 with
    | none => 0xFF
    | some q => sqrtRat 0xFF (q / 100)
  let health := if z ≤ 0 then 0
    else min 255 ((128 * (s.cfld SNS_ZREF.addr SNS_ZREF.ZREF : Nat) : Rat) / z).floor.toNat
  let vtol : Rat := (s.cfld SNS_ESTCFG.addr SNS_ESTCFG.VTOL * 10 : Nat)
  let socconf := match c.osig2 with
    | none => 0
    | some q => if vtol = 0 then 0 else confOf (q / (vtol * vtol))
  let zconf := match c.sz2 with
    | none => 0
    | some q => if c.z ≤ 0 then 0 else confOf (100 * q / (c.z * c.z))
  [pack [(SNS_EZ.Z, zr.toNat), (SNS_EZ.ZSIG, zsig)],
   pack [(SNS_EV.OCV, wrap 24 (satI 24 ocv)), (SNS_EV.OSIG, osig)],
   pack [(SNS_ES.SOC, (c.ocv.map s.soc).getD 0), (SNS_ES.HEALTH, health), (SNS_ES.SOCCONF, socconf), (SNS_ES.ZCONF, zconf)]]

/-- The estimator takes a cell's EST result, or only forgets, R239. -/
def State.estResult (s : State) (r : SnsResult) : State :=
  match channelCell r.port r.chan with
  | some k =>
    if r.est then
      if !r.ow ∧ r.code ≠ 8388607 ∧ r.code ≠ -8388608 then
        if s.cfld SNS_ESTCFG.addr SNS_ESTCFG.EN = 1 then
          let c := s.estimate (Tab.get Cell.reset s.sense.cells k) (r.code : Rat) r.chip r.gts.t
          s.setSense { s.sense with cells := Tab.put s.sense.cells k c }
        else s
      else s.estForget k
    else s
  | none => s

/-- The code of a cell, the stack or the temperature among the latest, R235. -/
def State.latestCode (s : State) (r : SnsResult) : State :=
  let i : Nat := match channelCell r.port r.chan with
    | some k => k - 1
    | none => if r.port = 29 then 18 else if r.port = 30 then 19 else 20
  let l := s.sense.latest ++ List.replicate (20 - s.sense.latest.length) 0
  s.setSense { s.sense with latest := l.set i r.code }

/-- A RESULT frame arrives, R226 and R234: its channel is delivered to the tile bound to its port. -/
def State.resultArrives (s : State) (r : SnsResult) : State :=
  let s := s.latestCode r
  let s := if r.final then s.showRun else s
  if r.skip then s.resultLost r
  else r.cmds.foldl (fun s c => s.deliver c.tile
    { lanes := c.lanes, gts := r.gts, epoch := r.epoch, val := .channels [(r.chan, r.code, r.ow)], ow := false
      late := false }) (s.estResult r)

/-- A wire after a verdict, R233. -/
def Wire.judged (w : Wire) (v clrn : Nat) : Wire :=
  if v = 2 then { st := 2, run := 0, tested := true }
  else if v = 1 then
    if w.st = 0 then { w with tested := true }
    else if clrn + 1 ≤ w.run + 1 then { st := 0, run := 0, tested := true }
    else { w with run := w.run + 1, tested := true }
  else { w with tested := true }

/-- A VERDICT frame arrives, R233 and R236. -/
def State.verdictArrives (s : State) (k v : Nat) : State :=
  if v = 0 then s.showWire k
  else
    let old := s.wire k
    let s := s.setWire k (old.judged v (s.cfld SNS_OWCFG.addr SNS_OWCFG.CLRN))
    let s := s.setReg SNS_OWLAST.addr (pack [(SNS_OWLAST.WIRE, k), (SNS_OWLAST.VERDICT, v)])
    let s := if v = 3 then s.bump SNS_OWRUN.addr SNS_OWRUN.INCON 1 else s
    let s := s.showWire k
    if v = 2 ∧ old.st ≠ 2 then s.raiseFault 4 0x0023 snsBlock k else s

/-- A STATUS frame of training, R227: a reset of the sense die makes every wire INTACT and untested and restarts the
excitation. -/
def State.statusArrives (s : State) (dieReset : Bool) : State :=
  if dieReset then
    let s := s.setSense { s.sense with wires := [], lastTested := 0, prev := [], lfsr := Sense.reset.lfsr, chip := false
                                       ow := none, toCore := [] }
    ((((s.setFld SNS_STATUS.addr SNS_STATUS.DIERST 1).setReg SNS_OWOPEN.addr 0).setReg SNS_OWSUSP.addr 0).setReg
      SNS_OWTESTED.addr 0).showRun
  else s

/-- What a frame does as its receiver takes it, R226. The sense die applies CFG words at the openings of R244. -/
def State.snsFrameTaken (s : State) : SnsData → State
  | .cmd _ _ => s
  | .start cell therm =>
    let s := if cell then s.startCell else s
    if therm then s.startTherm else s
  | .result r => s.resultArrives r
  | .verdict k v => s.verdictArrives k v
  | .cfg _ _ => s
  | .status dieReset => s.statusArrives dieReset

/-- The type code of a frame, R226. -/
def SnsData.code : SnsData → Nat
  | .cmd _ _ => 0
  | .start _ _ => 1
  | .result _ => 2
  | .verdict _ _ => 3
  | .cfg _ _ => 4
  | .status _ => 5

/-! ## The frames, R226 and R227 -/

/-- Training that succeeds, R227: every committed configuration word is sent again, and the sense die reports whether it
has reset since the link was last trained. -/
def State.trainedNow (s : State) (dieReset : Bool) : State :=
  let fresh := dieReset || !s.sense.everTrained
  let s := s.setSense { s.sense with trained := true, everTrained := true, down := false, toDie := s.configFrames }
  (s.setFld SNS_STATUS.addr SNS_STATUS.LINKUP 1).snsFrameTaken (.status fresh)

/-- A frame that the link carries next: those of the core die before those of the sense die (log entry 89). -/
def State.linkFrame (s : State) : Option SnsFrame := (s.sense.toDie ++ s.sense.toCore).head?

/-- The state with the frame that the link carries next replaced, or taken off. -/
def State.setLinkFrame (s : State) (f : Option SnsFrame) : State :=
  match s.sense.toDie with
  | _ :: r => s.setSense { s.sense with toDie := f.toList ++ r }
  | [] => s.setSense { s.sense with toCore := f.toList ++ s.sense.toCore.drop 1 }

/-- SENSE_FRAME_RECEIVE, R226: a frame whose check bits hold is taken and acknowledged; another is discarded, and waits for
its resend. -/
def senseFrameReceive (good : Bool) (s : State) : State :=
  match s.linkFrame with
  | some f =>
    if s.linkUp ∧ f.sent ∧ !s.startNear 759 then
      if good then (s.setLinkFrame none).snsFrameTaken f.data else s.setLinkFrame (some { f with sent := false })
    else s
  | none => s
/-- SENSE_FRAME_RECEIVE. -/
def execSenseFrameReceive (good : Bool) (s : State) : Out := .next (senseFrameReceive good s)

/-- SENSE_RESEND, R226: an unacknowledged frame is sent again; after three resends the link is declared down. -/
def senseResend (s : State) : State :=
  match s.linkFrame with
  | some f =>
    if s.linkUp ∧ !s.startNear 1000 then
      if 3 ≤ f.fails then s.declareDown
      else (s.setLinkFrame (some { f with fails := f.fails + 1, sent := true })).bump SNS_LINKSTAT.addr SNS_LINKSTAT.RETRY 1
    else s
  | none => s
/-- SENSE_RESEND. -/
def execSenseResend (s : State) : Out := .next (senseResend s)

/-- SENSE_RETRAIN, R226: every 1 ms while the link is down. -/
def senseRetrain (ok dieReset : Bool) (s : State) : State :=
  if s.sense.down ∧ s.sense.downAt + 1000000 ≤ s.el then
    if ok ∧ s.fld PWR_SUPPLY.addr PWR_SUPPLY.PACKOK = 1 then s.trainedNow dieReset
    else s.setSense { s.sense with downAt := s.sense.downAt + 1000000 }
  else s
/-- SENSE_RETRAIN. -/
def execSenseRetrain (ok dieReset : Bool) (s : State) : Out := .next (senseRetrain ok dieReset s)

/-- LINK_TRAINING, R227: the first access or command after reset trains the link. -/
def linkTraining (ok dieReset : Bool) (s : State) : State :=
  s.withDomain snsBlock (fun s =>
    if ok ∧ s.sense.wanted ∧ !s.sense.trained ∧ s.fld PWR_SUPPLY.addr PWR_SUPPLY.PACKOK = 1 then s.trainedNow dieReset
    else s)
/-- LINK_TRAINING. -/
def execLinkTraining (ok dieReset : Bool) (s : State) : Out := .next (linkTraining ok dieReset s)

/-- SENSE_START: one START frame starts every group due, R223 and R224; the frames of the core die that wait have crossed
before it (log entry 89). -/
def senseStart (cell therm : Bool) (s : State) : State :=
  s.withDomain snsBlock (fun s =>
    let l := s.sense.toDie
    l.foldl (fun s f => s.snsFrameTaken f.data) (s.setSense { s.sense with wanted := true, toDie := [] }) |>.snsFrameTaken
      (.start cell therm))
/-- SENSE_START. -/
def execSenseStart (cell therm : Bool) (s : State) : Out := .next (senseStart cell therm s)

/-- SENSE_RESULT, R226 and R234: the RESULT frame that comes next delivers its channel; one lost after three resends gives
it no input, and the link is down. -/
def senseResult (lost : Bool) (s : State) : State :=
  match s.sense.toCore with
  | { data := .result r, fails, .. } :: rest =>
    if s.linkUp ∧ !s.startNear 759 then
      let s := s.setSense { s.sense with toCore := rest }
      if lost then ((s.resultLost r).bump SNS_LINKSTAT.addr SNS_LINKSTAT.RETRY (3 - fails)).declareDown
      else s.resultArrives r
    else s
  | _ => s
/-- SENSE_RESULT. -/
def execSenseResult (lost : Bool) (s : State) : Out := .next (senseResult lost s)

/-! ## OWTEST, R228 to R233 -/

/-- The state with the OWTEST in progress replaced. -/
def State.setOw (s : State) (o : Option OwTest) : State := s.setSense { s.sense with ow := o }

/-- OWTEST_START: window A opens, R229. -/
def owtestStart (s : State) : State :=
  match s.sense.ow with
  | some o =>
    if o.phase = .waiting then s.owSwitch.setOw (some { o with phase := .windowA, since := s.el }) else s
  | none => s
/-- OWTEST_START. -/
def execOwtestStart (s : State) : Out := .next (owtestStart s)

/-- OWTEST_WINDOW_A_CLOSE: the injection begins as A closes, R229. -/
def owtestWindowAClose (codes : List Int) (s : State) : State :=
  match s.sense.ow with
  | some o =>
    if o.phase = .windowA ∧ o.since + s.tow ≤ s.el then
      (s.closeTest codes []).setOw (some { o with phase := .injecting, since := s.el, codesA := cellCodes codes })
    else s
  | none => s
/-- OWTEST_WINDOW_A_CLOSE. -/
def execOwtestWindowAClose (codes : List Int) (s : State) : Out := .next (owtestWindowAClose codes s)

/-- The verdict of R230 on wire k from the codes of A and B: 1 INTACT, 2 OPEN, 3 INCONCLUSIVE. -/
def owVerdict (k : Nat) (owth pstol : Int) (a b : List Int) : Nat :=
  let delta (c : Nat) : Int := b.getD (c - 1) 0 - a.getD (c - 1) 0
  let d (l : List Int) : Int := (l.take 18).foldl (· + ·) 0 - l.getD 18 0
  if 2 ≤ k ∧ k ≤ 18 then
    let x := delta (k - 1)
    let y := delta k
    if x ≤ -owth ∧ owth ≤ y ∧ ((x + y).natAbs : Int) ≤ pstol then 2
    else if (x.natAbs : Int) < owth ∧ (y.natAbs : Int) < owth then 1
    else 3
  else
    let x := delta (if k = 1 then 1 else 18)
    let dd := d b - d a
    if x ≤ -owth ∧ ((dd - x).natAbs : Int) ≤ pstol then 2
    else if (x.natAbs : Int) < owth then 1
    else 3

/-- OWTEST_VERDICT: B closes as the injection ends; the verdict is formed and sent, R229 and R230. -/
def owtestVerdict (codes : List Int) (s : State) : State :=
  match s.sense.ow with
  | some o =>
    if o.phase = .injecting ∧ o.since + s.tinj ≤ s.el then
      let s := s.owSwitchB o
      let v := owVerdict o.wire (s.cfld SNS_OWTH.addr SNS_OWTH.OWTH) (s.cfld SNS_OWTH.addr SNS_OWTH.PSTOL) o.codesA
        (cellCodes codes)
      ((s.closeTest codes (wireCells o.wire)).sendVerdict o.wire v).setOw (some { o with phase := .recovery, since := s.el })
    else s
  | none => s
/-- OWTEST_VERDICT. -/
def execOwtestVerdict (codes : List Int) (s : State) : Out := .next (owtestVerdict codes s)

/-- SENSE_VERDICT: the VERDICT frame that comes next arrives, R233 and R236. -/
def senseVerdict (s : State) : State :=
  match s.sense.toCore with
  | { data := .verdict k v, .. } :: rest =>
    if s.linkUp ∧ !s.startNear 759 then (s.setSense { s.sense with toCore := rest }).verdictArrives k v else s
  | _ => s
/-- SENSE_VERDICT. -/
def execSenseVerdict (s : State) : Out := .next (senseVerdict s)

/-- OWTEST_RECOVERY_END: TREC after the verdict the wire's cells are delivered again, R229. -/
def owtestRecoveryEnd (s : State) : State :=
  match s.sense.ow with
  | some o =>
    if o.phase = .recovery ∧ o.since + s.cfld SNS_OWCFG.addr SNS_OWCFG.TREC * 100000 ≤ s.el then s.setOw none else s
  | none => s
/-- OWTEST_RECOVERY_END. -/
def execOwtestRecoveryEnd (s : State) : Out := .next (owtestRecoveryEnd s)

/-- SENSE_LAT_CALIBRATE: every second L from round trips, shown in SNS_LAT, R224. -/
def senseLatCalibrate (lat : BitVec 16) (s : State) : State :=
  if s.linkUp ∧ !s.startNear 1000 ∧ !s.sense.latAt.any (fun a => decide (s.el < a + 1000000000)) then
    (s.setSense { s.sense with latAt := some s.el }).setFld SNS_LAT.addr SNS_LAT.LAT lat.toNat
  else s
/-- SENSE_LAT_CALIBRATE. -/
def execSenseLatCalibrate (lat : BitVec 16) (s : State) : Out := .next (senseLatCalibrate lat s)

/-! ## Registers, R244 -/

/-- Whether the shadow SNS_SOCTj rise strictly, R244. -/
def State.socRising (s : State) : Bool :=
  (List.range 16).all (fun j => decide (signed 24 (s.fld (SNS_SOCT.addr j) SNS_SOCT.OCV) <
    signed 24 (s.fld (SNS_SOCT.addr (j + 1)) SNS_SOCT.OCV)))

/-- An access to the sense block asks for training, R227. -/
def State.senseAsked (s : State) : State := s.setSense { s.sense with wanted := true }

/-- Whether the shadow set changes a field whose change resets the estimator, R243. -/
def State.estChanged (s : State) : Bool :=
  [SNS_ESTCFG.EN, SNS_ESTCFG.ZTAU, SNS_ESTCFG.OTAU, SNS_ESTCFG.ISRC, SNS_ESTCFG.ISEL].any (fun f =>
    decide (s.fld SNS_ESTCFG.addr f ≠ s.pfld SNS_ESTCFG.addr f))

/-- A write of SNS_COMMIT: the set is checked, sent to the sense die and takes effect at the openings that R244 names; the
commit of a change of R243 resets the estimator. -/
def snsCommit (v : Word) (s : State) : State :=
  s.access SNS_COMMIT.addr (fun s =>
    let s := s.senseAsked
    if fget v SNS_COMMIT.GO = 1 then
      if s.socRising then
        let x := s.sense
        let cells := if s.estChanged then [] else x.cells
        let s := s.toPending SNS_OWCFG.addr (SNS_SOCT.addr 17)
        let toDie := if s.linkUp then x.toDie ++ s.configFrames else x.toDie
        ((s.setSense { x with pendOw := true, pendTh := true, pendEst := true, pendAt := s.el, cells, toDie }).showPending).setFld
          SNS_STATUS.addr SNS_STATUS.CERR 0
      else (s.setFld SNS_STATUS.addr SNS_STATUS.REFUSED 1).setFld SNS_STATUS.addr SNS_STATUS.CERR 1
    else s)
/-- SNS_COMMIT. -/
def execSnsCommit (p : Side) (v : Word) (s : State) : Out := .next (s.permitted p SNS_COMMIT.addr true (snsCommit v))

/-- SNS_OWRUN_SNAPSHOT: a read of SNS_OWRUN snapshots SNS_OWFIX and clears INCON, R244 and R246. -/
def snsOwrunSnapshot (p : Side) (s : State) : State :=
  s.access SNS_OWRUN.addr (fun s =>
    let s := s.senseAsked
    let w := s.reg SNS_OWRUN.addr
    let s := s.snapshot p SNS_OWRUN.addr [w, s.reg SNS_OWFIX.addr]
    (s.setReg SNS_OWRUN.addr (afterRead SNS_OWRUN.fields w)).returns (sideKey p) w)
/-- SNS_OWRUN_SNAPSHOT. -/
def execSnsOwrunSnapshot (p : Side) (s : State) : Out := .next (snsOwrunSnapshot p s)

/-- SNS_EZ_SNAPSHOT: a read of SNS_EZk of cell k + 1 snapshots SNS_EVk and SNS_ESk, R244. -/
def snsEzSnapshot (p : Side) (k : Fin 18) (s : State) : State :=
  s.access (SNS_EZ.addr (k + 1)) (fun s =>
    let s := s.senseAsked
    let w := s.cellWords (k + 1)
    (s.snapshot p (SNS_EZ.addr (k + 1)) w).returns (sideKey p) (w.headD 0))
/-- SNS_EZ_SNAPSHOT. -/
def execSnsEzSnapshot (p : Side) (k : Fin 18) (s : State) : Out := .next (snsEzSnapshot p k s)

end Sys2Proof.Machine
end

