-- ==== Sys2Proof/Machine/Power.lean ====
section
/-! DEFINITION. The commands of PWR: the target, entries, wakes, the wake latch, admission and saved state, R431 to
R451. -/

namespace Sys2Proof.Machine

/-- PWR with its part of the state replaced. -/
def State.setPwr (s : State) (x : Pwr) : State := { s with pwr := x }

/-! ## The target, R431 and R432 -/

/-- PWR_BASE written: a code of 000b is discarded. -/
def State.writeBase (s : State) (m : Nat) : State :=
  if m = 0 then s else (s.setFld PWR_BASE.addr PWR_BASE.MODE m).retarget

/-- PWR_BASE_WRITE: a processor's write of a word, or where there is no processor the earliest MODE request that has
reached PWR (R148). -/
def pwrBaseWrite (v : Word) (rule : Bool) (s : State) : State :=
  if rule then
    match takeFirst (fun p => match p with | .modeRequest .. => true | _ => false) s.arrived with
    | some (.modeRequest m _, rest) => { s with arrived := rest }.writeBase m
    | _ => s
  else s.access PWR_BASE.addr (fun s => s.writeBase (fget v PWR_BASE.MODE))
/-- PWR_BASE_WRITE. -/
def execPwrBaseWrite (p : Option Side) (v : Word) (s : State) : Out :=
  match p with
  | none => .next (pwrBaseWrite v true s)
  | some p => .next (s.permitted p PWR_BASE.addr true (pwrBaseWrite v false))

/-- PWR_FLOOR_WRITE: the floors are written and the target is computed again. -/
def pwrFloorWrite (v : Word) (s : State) : State :=
  s.access PWR_FLOOR.addr (fun s => (s.setReg PWR_FLOOR.addr (writeWord PWR_FLOOR.fields (s.reg PWR_FLOOR.addr) v)).retarget)
/-- PWR_FLOOR_WRITE. -/
def execPwrFloorWrite (p : Side) (v : Word) (s : State) : Out :=
  .next (s.permitted p PWR_FLOOR.addr true (pwrFloorWrite v))

/-! ## The answers to QUERY, R437 and R438 -/

/-- The longest time for which a block answers DELAY, R438, in ns. -/
def State.delayMax (s : State) (d to_ : Nat) : Nat :=
  match d / 256 with
  | 0x14 => 2700
  | 0x20 => s.twbDrain (d % 256)
  | 0x21 => s.cspDrain (d % 256)
  | 0x10 => if to_ = 1 then 1000000 else 2000
  | 0x15 => 0
  | 0x23 => 0
  | _ => 2000

/-- The acquisitions that wait at a port abandoned, R438: their lanes carry MISS. -/
def State.abandonPort (s : State) (p : Nat) : State :=
  ((s.portWait p).foldl (fun s x => s.missed x.1 x.2.lanes) s).setPortWait p []

/-- Whether the Keeper still has messages that it has taken and not executed. -/
def State.keeperBusy (s : State) : Bool := (List.range 4).any (fun n => !(s.port n).taken.isEmpty)

/-- The KEEP alarm as Topcoat sets it before an entry of a low mode, R520: the earlier of the host's alarm and 30 days ahead. -/
def State.setAlarm (s : State) : State :=
  let due := s.now.toNat / 2 ^ 40 + 2592000
  let at_ := match s.pwr.hostAlarm with
    | some a => min a due
    | none => due
  (s.setReg PWR_KALARM0.addr (Word.ofNat at_)).setReg PWR_KALARM1.addr
    (pack [(PWR_KALARM1.EN, 1), (PWR_KALARM1.SEC_HI, at_ / 2 ^ 32)])

/-- What a block does as it accepts an entry of mode m, R438; none while its work is not drained. The bytes are those
that a suspended CSP frame or a MOVB has moved. -/
def State.drained (s : State) (d m : Nat) (moved : List Byte) : Option State :=
  let i := d % 256
  match d / 256 with
  | 0x01 => if (s.merge i).wait.isEmpty ∧ (s.merge (51 + i)).wait.isEmpty then some s else none
  | 0x02 => if (s.tile i).buffer.isEmpty then some s else none
  | 0x04 =>
    let s := (s.abandon (watchPort i) i moved.length).drainAll i
    some (s.setCore i (s.core i).landed)
  | 0x10 =>
    if s.keeperBusy then none
    else
      let s := s.abandon (watchPort 16) 16 0
      let s := if m ≤ 3 ∧ s.ohp.running then s.setAlarm else s
      some (if m = 1 then { s with ohp := { s.ohp with records := true } } else s)
  | 0x12 => some (s.abandon (watchPort 17) 17 0)
  | 0x20 => if (s.bus i).job.isSome then none else some s
  | 0x21 => s.cspYield i moved
  | 0x23 => some (s.abandonPort i)
  | 0x15 => some s.abandonSense
  | _ => some s

/-- The reason for which a block answers REFUSE, R434: LOG_UNFLUSHED, or DEMAND of the Keeper. -/
def State.refuses (s : State) (d m : Nat) : Option Nat :=
  if d = 0x1300 ∧ s.unflushed m then some 0x03
  else if d = 0x1000 ∧ m ≤ 3 ∧ s.catchingUp then some 0x07
  else none

/-- A block's state in the entry under way. -/
def State.setBlock (s : State) (d : Nat) (b : BlockState) : State :=
  match s.pwr.entry with
  | some e => s.setPwr { s.pwr with entry := some { e with blocks := Tab.put e.blocks d b } }
  | none => s

/-- A block accepts; the entry goes on once every block has. -/
def State.accepted (s : State) (d : Nat) : State :=
  let s := s.setBlock d .accepted
  match s.pwr.entry with
  | some e => if e.blocks.all (fun b => b.2 = .accepted) then s.allAccepted else s
  | none => s

/-- BLOCK_ANSWER: a queried block answers. REFUSE where R434 has it refuse; else ACCEPT, where it does not choose to delay
and its work is drained; else DELAY. -/
def blockAnswer (d : Fin 65536) (accept : Bool) (moved : List Byte) (s : State) : State :=
  match s.pwr.entry with
  | none => s
  | some e =>
    match e.phase, Tab.find e.blocks d with
    | .query, some b =>
      if b = .accepted then s
      else
        let s := if d.val = 0x1300 then s.cutUnkept e.to_ else s
        match s.refuses d e.to_ with
        | some r => s.refuseEntry r d
        | none =>
          let wait : State := if b = .asked then s.setBlock d (.delayed s.el) else s
          if accept ∨ s.delayMax d e.to_ = 0 then
            match s.drained d e.to_ moved with
            | some s => s.accepted d
            | none => wait
          else wait
    | _, _ => s
/-- BLOCK_ANSWER. -/
def execBlockAnswer (d : Fin 65536) (accept : Bool) (moved : List Byte) (s : State) : Out :=
  .next (blockAnswer d accept moved s)

/-- DELAY_OVERRUN: a block that has delayed beyond its declared maximum is taken to have refused, R438. -/
def delayOverrun (d : Fin 65536) (s : State) : State :=
  match s.pwr.entry with
  | none => s
  | some e =>
    match Tab.find e.blocks d with
    | some (.delayed since) =>
      let m := s.delayMax d e.to_
      if since + m < s.el then (s.refuseEntry 0x06 d).raiseFault 4 0x0025 d m else s
    | _ => s
/-- DELAY_OVERRUN. -/
def execDelayOverrun (d : Fin 65536) (s : State) : Out := .next (delayOverrun d s)

/-- ENTRY_RETRY: RETRY ms after a refusal the entry is tried again, R437. -/
def entryRetry (s : State) : State :=
  match s.pwr.retryAt with
  | some t => if t ≤ s.el ∧ s.pwr.entry.isNone then (s.setPwr { s.pwr with retryAt := none }).retarget else s
  | none => s
/-- ENTRY_RETRY. -/
def execEntryRetry (s : State) : Out := .next (entryRetry s)

/-! ## Power-down, R425, R426 and R442 -/

/-- Registers of a range lost with their sets. -/
def State.loseRegs (s : State) (lo hi : Nat) : State :=
  { s with regs := Tab.clearRange s.regs lo hi, pset := Tab.clearRange s.pset lo hi, cset := Tab.clearRange s.cset lo hi }
/-- Memory of a range lost. -/
def State.loseMem (s : State) (lo hi : Nat) : State := { s with mem := memLose s.mem lo hi }

/-- The lane records of tile t on their way to its ring. -/
def State.inFlight (s : State) (t : Nat) : Nat :=
  let mine (p : Packet) : Bool := match p with | .laneRecord m _ => m == t | _ => false
  s.merges.foldl (fun n m => n + m.2.wait.countP (fun w => mine w.pkt)) (s.arrived.countP mine)

/-- A tile after the loss of its state holds a credit for each free place of its ring's staging space, R570. -/
def State.freshTile (s : State) (t : Nat) : Tile :=
  { Tile.reset with credits := 4 - ((s.ring t).staged.length + s.inFlight t) }

/-- A domain that goes off loses its state and wakes as from reset, R426. -/
def State.loseDomain (s : State) (d : Nat) : State :=
  let i := d % 256
  match d / 256 with
  | 0x01 =>
    let s := (s.loseRegs (clBase i) (clBase i + 0x1000)).loseMem (dataMemBase i) (dataMemBase i + 0x20000)
    { s with merges := Tab.del (Tab.del s.merges i) (51 + i), mbx := Tab.clearRange s.mbx (2 * i) (2 * i + 2) }
  | 0x02 =>
    let s := s.loseRegs (tileBase i) (tileBase i + 0x1000)
    let x := s.freshTile i
    { s with tiles := if x = Tile.reset then Tab.del s.tiles i else Tab.put s.tiles i x, lanes := Tab.clearRange s.lanes (16 * i) (16 * i + 16) }
  | 0x03 =>
    let s := s.loseRegs (clBase i + 0x5000) (clBase i + 0x10000)
    { s with slices := Tab.del s.slices i, engines := Tab.clearRange s.engines (32 * i) (32 * i + 32) }
  | 0x04 =>
    let s := if (s.core i).acting.isSome then s.setFld (CL_PAIRSTAT.addr (i / 2)) CL_PAIRSTAT.ACTING 0 else s
    let s := (s.emptyCache i).setCycles i 0
    { s.loseMem (progMemBase i) (progMemBase i + 0x10000) with cores := Tab.del s.cores i }
  | 0x12 =>
    let s := s.loseRegs 0x40008000 0x40009000
    let s := s.setCycles 17 0
    { s with cores := Tab.del s.cores 17, flx := Flx.reset
             mesh := { Mesh.reset with fc := s.mesh.fcEnd, fcEnd := s.mesh.fcEnd } }
  | 0x14 => { (s.loseRegs 0x40009000 0x4000A000).loseMem 0x08000000 0x08100000 with stp := Stp.reset }
  | 0x15 => (s.loseRegs 0x40007000 0x40008000).setSense Sense.reset
  | 0x16 => (s.loseSegs (fun b => b = i)).loseMem (i * 0x20000) ((i + 1) * 0x20000)
  | 0x18 => s.setTime { s.time with pll := .off }
  | 0x19 =>
    { s with regs := s.regs.filter (fun e => domainOf e.1 ≠ some 0x1900 || alwaysOn e.1)
             sec := { s.sec with scrub := none } }
  | _ => s

/-- The engine timers of a slice that goes into retention hold, R429; those of a WATCH or SKIM slice run on (R147). -/
def State.holdTimers (s : State) (n : Nat) : State :=
  if s.keptSlice n then s
  else (List.range 32).foldl (fun s k =>
    let e := 32 * n + k
    match (s.engine e).deadline with
    | some d => s.setEngine e { s.engine e with deadline := none, remaining := some (d - s.el) }
    | none => s) s

/-- The held timers of a slice resume with the time that remained, R429. -/
def State.resumeTimers (s : State) (n : Nat) : State :=
  (List.range 32).foldl (fun s k =>
    let e := 32 * n + k
    match (s.engine e).remaining with
    | some r => s.setEngine e { s.engine e with remaining := none, deadline := some (s.el + r) }
    | none => s) s

/-- A domain brought to the state that mode m gives it. -/
def State.bring (s : State) (m d : Nat) : State :=
  let now := s.domState d
  let next := s.stateIn m d
  if now = next then s
  else
    let s := if next = .off then (s.keepCopy d).loseDomain d
      else if next = .ret ∧ d / 256 = 0x03 then s.holdTimers (d % 256) else s
    s.setDom d next

/-- The VCORE point of a mode in mV, R424. -/
def vcorePoint (m : Nat) : Nat :=
  match m with
  | 1 => 0
  | 2 => 550
  | 3 => 550
  | 4 => 650
  | 5 => 700
  | _ => 850

/-- The EN fields of FI0 to FI15 as another state holds them, R86. -/
def State.keepFi (s was : State) : State :=
  (List.range 16).foldl (fun s n =>
    if was.fld (TB_FICTL.addr n) TB_FICTL.EN = 1 then s.setFld (TB_FICTL.addr n) TB_FICTL.EN 1 else s) s

/-- What comes back from KEEP besides, R426 and R206: Topcoat's copies of every domain, those of the host windows and their
tables where the session records are complete (R430), and the rings' SSEQ. -/
def State.keepCopies (s was : State) (records : Bool) : State :=
  let t := allDomains.foldl was.copyDomain was.copies
  { s with copies := if records then t else t.filter (fun e => e.1 ≠ 0x1A00 && e.1 / 256 ≠ 0x16)
           rings := was.rings.map (fun r => (r.1, r.2.kept)) }

/-- KEEP is reached, R430: the core die is off, and what stays is the always-on set, MRAM, SEC's store and the sessions
with complete records, and the EN fields of the fine-interpolator engines (R86); REF_EN falls where REFGATE is 1 (R45). -/
def State.inKeep (s : State) (records : Bool) : State :=
  let gate := s.fld TB_CTL.addr TB_CTL.REFGATE = 1
  let s := ((s.coreLost records).keepFi s).keepCopies s records
  let s := s.setTime { s.time with refEn := s.time.refEn && !decide gate }
  let s := s.setReg PWR_STATUS.addr (pack [(PWR_STATUS.MODE, 1), (PWR_STATUS.TARGET, s.target)])
  { s with sup := { s.sup with vcore := 0, fast := false, step := none } }

/-- Whether anything is pending in the wake latch. -/
def State.anyLatched (s : State) : Bool := (List.range 49).any (fun i => s.latched i)

/-- POWER_DOWN_COMPLETE: the domains are as the mode entered has them; a latched event starts a wake at once, R442. -/
def powerDownComplete (s : State) : State :=
  match s.pwr.entry with
  | none => s
  | some e =>
    if e.phase ≠ .powerDown then s
    else if e.to_ = 1 then
      let s := s.inKeep s.ohp.records
      if s.anyLatched ∧ s.canStart 0 then s.startWake 4 else s
    else
      let s := allDomains.foldl (fun s d => s.bring e.to_ d) s
      let s := { s with sup := { s.sup with vcore := vcorePoint e.to_, fast := decide (6 ≤ e.to_), step := none } }
      let s := ((s.setPwr { s.pwr with entry := none }).phase 0).bump PWR_STAT.addr PWR_STAT.ENTRIES 1
      let s := s.answerModes 0 0
      if s.anyLatched then
        if s.lowMode then s.startWake (max 4 s.target)
        else if s.mode < s.target then (s.startWake s.target).phase 6
        else s.phase 6
      else s
/-- POWER_DOWN_COMPLETE. -/
def execPowerDownComplete (s : State) : Out := .next (powerDownComplete s)

/-! ## Replay and demands, R433 and R442 to R444 -/

/-- The domain of a wake source's consumer, R443. -/
def State.wakeConsumer (s : State) (src : Nat) : Nat :=
  if src < 4 then 0x1100 + src
  else if 13 ≤ src ∧ src < 45 then
    match s.timerReceiver (src - 13) with
    | some c => coreBlock c
    | none => 0x0000
  else if src = 47 then 0x1900
  else 0x0000

/-- WAKE_REPLAY: the lowest latched event goes to its consumer, once that is awake, and its entry is cleared. It places a
demand for DWELL ms, unless it is an HWAKE or a rise of the target. -/
def wakeReplay (s : State) : State :=
  match (List.range 49).find? (fun i => s.latched i) with
  | none => s
  | some src =>
    if s.lowMode ∨ s.pwr.entry.isSome then s
    else
      let d := s.wakeConsumer src
      if !s.isOn d then s.requestWake d
      else
        let s := s.store (latchAddr src) (List.replicate 16 0)
        let s := s.consumeWake src
        let s := if src = 47 then { s with sec := { s.sec with domKeys := [], tampered := false } } else s
        let s := s.setFld PWR_WAKESRC.addr PWR_WAKESRC.SRC (min src (s.fld PWR_WAKESRC.addr PWR_WAKESRC.SRC))
        let s := if src < 4 ∨ src = 12 then s
          else s.setPwr { s.pwr with demands := s.pwr.demands ++ [s.el + s.fld PWR_CFG.addr PWR_CFG.DWELL * 1000000] }
        let s := if s.mode < s.target then (s.phase 6).retarget else s
        (s.phase (if s.anyLatched then 6 else if s.pwr.waking then 5 else 0)).retarget
/-- WAKE_REPLAY. -/
def execWakeReplay (s : State) : Out := .next (wakeReplay s)

/-- DEMAND_LAPSE: the demands whose DWELL ms have passed lapse, and the target is computed again (log entry 27). -/
def demandLapse (s : State) : State :=
  (s.setPwr { s.pwr with demands := s.pwr.demands.filter (fun t => decide (s.el < t)) }).retarget
/-- DEMAND_LAPSE. -/
def execDemandLapse (s : State) : Out := .next (demandLapse s)

/-! ## Admission, R445 to R447 -/

/-- The credits of a rail that are held in reserve for WATCH and SKIM slices, R446. -/
def State.reserved (s : State) (rail : Nat) : Nat :=
  4 * (List.range 8).countP (fun n => s.keptSlice n && decide (n / 4 = rail))
/-- The credits of a rail that are free, R446: 16, 16 and 24 less those in reserve and those held. -/
def State.freeCredits (s : State) (rail : Nat) : Nat :=
  (if rail = 2 then 24 else 16) - s.reserved rail -
    s.pwr.grants.foldl (fun n g => if wakeRail g.dom = rail then n + g.credits else n) 0
/-- The class of a waiting request. -/
def State.reqClass (s : State) (r : WakeReq) : Nat := wakeClass r.dom (decide (r.dom / 256 = 3) && s.keptSlice (r.dom % 256))
/-- The request of a rail that is granted next, R447: one that has waited 100 µs before all that came later, else the
lowest class, and the earliest of it. -/
def State.nextRequest (s : State) (rail : Nat) : Option WakeReq :=
  let l := s.pwr.queue.filter (fun r => wakeRail r.dom = rail)
  match l.find? (fun r => r.at_ + 100000 ≤ s.el) with
  | some r => some r
  | none =>
    match (l.map (fun r => s.reqClass r)).min? with
    | some c => l.find? (fun r => s.reqClass r = c)
    | none => none

/-- WAKE_GRANT: the next request of a rail is granted where its credits are free; a WATCH or SKIM slice draws on the
reserve. -/
def wakeGrant (rail : Fin 3) (s : State) : State :=
  match s.nextRequest rail with
  | none => s
  | some r =>
    let kept := r.dom / 256 = 3 ∧ s.keptSlice (r.dom % 256)
    let c := if kept then 0 else wakeCredits r.dom
    if c ≤ s.freeCredits rail then
      let ready := s.el + wakeDelay r.dom (s.domState r.dom = .off)
      s.setPwr { s.pwr with queue := s.pwr.queue.filter (fun q => q.dom ≠ r.dom)
                            grants := s.pwr.grants ++ [{ dom := r.dom, credits := c, ready }] }
    else s
/-- WAKE_GRANT. -/
def execWakeGrant (rail : Fin 3) (s : State) : Out := .next (wakeGrant rail s)

/-- A wake ends when nothing more of it waits, R444: replay follows where events are latched. -/
def State.wakeOver (s : State) : State :=
  if s.pwr.waking ∧ s.pwr.queue.isEmpty ∧ s.pwr.grants.isEmpty then
    (s.setPwr { s.pwr with waking := false }).phase (if s.anyLatched then 6 else 0)
  else s

/-- PWR_ADMIT as it reads, R451. -/
def State.admitWord (s : State) : Word :=
  pack [(PWR_ADMIT.QUEUED, s.pwr.queue.length), (PWR_ADMIT.FREEP, s.freeCredits 2), (PWR_ADMIT.FREES, s.freeCredits 1),
        (PWR_ADMIT.FREEN, s.freeCredits 0)]

/-! ## Wake sources of KEEP, R430 and R451 -/

/-- KEEP_WAKE_PIN: in KEEP an edge of EIOk that PWR_KWAKE selects is a wake event. -/
def keepWakePin (k : Fin 8) (rise : Bool) (s : State) : State :=
  let sel := s.fld PWR_KWAKE.addr PWR_KWAKE.EDGE / 4 ^ k.val % 4
  if s.mode = 1 ∧ edgeSelected sel rise ∧ s.time.eioLevel.getLsbD k ≠ rise then (s.setPin k rise).wakeEvent (4 + k) else s
/-- KEEP_WAKE_PIN. -/
def execKeepWakePin (k : Fin 8) (rise : Bool) (s : State) : Out := .next (keepWakePin k rise s)

/-- KEEP_ALARM: at a KEEP timekeeper tick at or after the alarm's SEC the armed alarm fires, R451; an alarm of the host's that
fires is spent. -/
def keepAlarm (s : State) : State :=
  let at_ := (s.reg PWR_KALARM0.addr).toNat + 2 ^ 32 * s.fld PWR_KALARM1.addr PWR_KALARM1.SEC_HI
  if s.fld PWR_KALARM1.addr PWR_KALARM1.EN = 1 ∧ at_ ≤ s.time.keep.toNat / 2 ^ 64 then
    ((s.setFld PWR_KALARM1.addr PWR_KALARM1.EN 0).setPwr
      { s.pwr with hostAlarm := s.pwr.hostAlarm.filter (· ≠ at_) }).wakeEvent 45
  else s
/-- KEEP_ALARM. -/
def execKeepAlarm (s : State) : Out := .next (keepAlarm s)

/-! ## PWR_COMMIT and PWR_RESTORE, R449 and R450 -/

/-- PWR_COMMIT: refused where two enabled SKIM slots name one tile; else the set takes effect at the next entry. -/
def pwrCommit (v : Word) (s : State) : State :=
  s.access PWR_COMMIT.addr (fun s =>
    if fget v PWR_COMMIT.GO = 0 then s
    else
      let on (k : Nat) : Bool := s.fld PWR_SKIM.addr (PWR_SKIM.EN k) = 1
      let twice := (List.range 4).any (fun i => (List.range 4).any (fun j =>
        decide (i < j) && on i && on j && decide (s.fld PWR_SKIM.addr (PWR_SKIM.TILE i) = s.fld PWR_SKIM.addr (PWR_SKIM.TILE j))))
      if twice then (s.setFld PWR_STATUS.addr PWR_STATUS.REFUSED 1).setFld PWR_STATUS.addr PWR_STATUS.CERR 1
      else
        let s := s.toPending PWR_WATCH.addr PWR_COMMIT.addr
        s.setPwr { s.pwr with setPending := true })
/-- PWR_COMMIT. -/
def execPwrCommit (p : Side) (v : Word) (s : State) : Out := .next (s.permitted p PWR_COMMIT.addr true (pwrCommit v))

/-- Whether cluster n's list is VALID. -/
def State.listValid (s : State) (n : Nat) : Bool := (memReadWord s.mem (savedAt n)).getLsbD 31

/-- The words of core c restored; its stacks are empty at the bases restored (log entry 28). -/
def State.restoreCore (s : State) (c : Nat) : State :=
  let b := s.load (savedAt (c / 2) + 0x10 + 0x30 * (c % 2)) 48
  let w (i : Nat) : Nat := leAt b (4 * i) 4
  let x := s.core c
  s.setCore c { x with
    ie := (w 0).testBit 0, det := (w 0).testBit 1, ien := w 1 % 32, vbase := Word.ofNat (w 2), wdog := w 3 % 2 ^ 20
    wdogAt := s.el, wdogOut := false, thr := w 4 % 64, dsbase := Word.ofNat (w 5), dslim := Word.ofNat (w 6), dsp := Word.ofNat (w 5)
    rsbase := Word.ofNat (w 7), rslim := Word.ofNat (w 8), rsp := Word.ofNat (w 7), ds := [], rs := []
    run := (w 9).testBit 31, soft := (w 10).testBit 4, bell := (w 10).testBit 3 }

/-- Engine e restored where its committed words give the saved SIG; whether it was. -/
def State.restoreEngine (s : State) (e : Nat) : State × Bool :=
  let n := e / 32
  let b := s.load (savedAt n + 0x70 + 12 * (e % 32)) 12
  let w := leAt b 0 4
  if w / 65536 ≠ s.engineSig e then (s, false)
  else
    let g := gtsOfBytes (s.load (savedAt n + 4) 12)
    let left := leAt b 8 4 * 1000
    let gone := fracToNs ((s.now - g.t).toNat)
    let x := { s.engine e with st := w / 8192 % 8, hyst := w.testBit 12, lastIn := w / 512 % 4, c0 := leAt b 4 2, c1 := leAt b 6 2
                               deadline := none, remaining := none }
    if !w.testBit 11 then (s.setEngine e x, true)
    else if gone < left then (s.setEngine e { x with deadline := some (s.el + (left - gone)) }, true)
    else
      let at_ : Gts := ⟨addNs g.t left, g.unc⟩
      ((s.setEngine e x).transition e .x x.lastQ (s.carrying at_) false, true)

/-- A cluster named by PWR_RESTORE: its list is no longer VALID and its cores with RUN 1 start at vector 0, R449. -/
def State.releaseCluster (s : State) (n : Nat) : State :=
  let a := savedAt n
  let s := { s with mem := memWrite s.mem (a + 3) (memRead s.mem (a + 3) &&& 0x7F) }
  let s := s.setPwr { s.pwr with held := s.pwr.held.filter (· ≠ n) }
  [2 * n, 2 * n + 1].foldl (fun s c => if (s.core c).run then s.resumeCore c else s) s

/-- A restore of cluster n, R449. -/
def State.restoreCluster (s : State) (n : Nat) : State :=
  let b := s.load (savedAt n) 0x1F0
  let result (s : State) (r eng : Nat) : State :=
    s.setReg PWR_RSTAT.addr (pack [(PWR_RSTAT.RESULT, r), (PWR_RSTAT.CLUSTER, n), (PWR_RSTAT.ENG, eng)])
  let s :=
    if !s.listValid n then result s 2 0
    else if crc32 b ≠ ofLe (s.load (savedAt n + 0x1F0) 4) then result s 3 0
    else
      let s := (s.restoreCore (2 * n)).restoreCore (2 * n + 1)
      let m0 := leAt b 0x3C 4
      let s := (s.setFld (CL_ISACFG.addr n) CL_ISACFG.ENC0 (m0 % 2)).setFld (CL_ISACFG.addr n) CL_ISACFG.ENC1 (m0 / 2 % 2)
      let s := s.setFld (CL_PAIR.addr n) CL_PAIR.MODE (m0 / 256 % 4)
      let (s, k) := (List.range 32).foldl (fun (a : State × Nat) i =>
        let (s, ok) := a.1.restoreEngine (32 * n + i)
        (s, if ok then a.2 + 1 else a.2)) (s, 0)
      result s 1 k
  s.releaseCluster n

/-- PWR_RESTORE: the clusters that GO names are restored. -/
def pwrRestore (v : Word) (s : State) : State :=
  s.access PWR_RESTORE.addr (fun s =>
    (List.range 8).foldl (fun s n => if v.getLsbD n then s.restoreCluster n else s) s)
/-- PWR_RESTORE. -/
def execPwrRestore (p : Side) (v : Word) (s : State) : Out := .next (s.permitted p PWR_RESTORE.addr true (pwrRestore v))

/-- PWR_DISCARD: the lists of the clusters that DISCARD names are discarded and their cores start. -/
def pwrDiscard (v : Word) (s : State) : State :=
  s.access PWR_RESTORE.addr (fun s =>
    (List.range 8).foldl (fun s n => if v.getLsbD (8 + n) then s.releaseCluster n else s) s)
/-- PWR_DISCARD. -/
def execPwrDiscard (p : Side) (v : Word) (s : State) : Out := .next (s.permitted p PWR_RESTORE.addr true (pwrDiscard v))

/-- PWR_RSTAT as it reads. -/
def State.rstatWord (s : State) : Word :=
  fset (s.reg PWR_RSTAT.addr) PWR_RSTAT.VALID ((List.range 8).foldl (fun v n => v + 2 ^ n * b2n (s.listValid n)) 0)

end Sys2Proof.Machine
end

