-- ==== Sys2Proof/Machine/Supplies.lean ====
section
/-! DEFINITION. The supplies: forced descents, safe end states, the sources of the always-on set, VCORE steps, the I/O
banks and VPACK, R453 to R472. -/

namespace Sys2Proof.Machine

/-- The supplies replaced. -/
def State.setSup (s : State) (x : Sup) : State := { s with sup := x }
/-- A field of PWR_SUPPLY. -/
def State.supply (s : State) (f : Fld) : Nat := s.fld PWR_SUPPLY.addr f

/-! ## The source of the always-on set, R457, R465 and R466 -/

/-- The always-on set loses its state, R466: KEEP RAM, its registers and the owners of every unit, the calibrations of the
gated rings (R55), and where LOSTZ is 1 the domain keys (R525). The KEEP timekeeper goes on without a correction, since no
reading exists (R58). What the monitors show stays. -/
def State.loseAlwaysOn (s : State) : State :=
  let lostz := s.fld SEC_TAMPCFG.addr SEC_TAMPCFG.LOSTZ = 1
  let w := s.reg PWR_SUPPLY.addr
  let s := { s with regs := s.regs.filter (fun e => !alwaysOn e.1), mem := memLose s.mem 0x20000000 0x20004000
                    sup := { s.sup with lost := true, reported := 0 }
                    time := { s.time with keepCorr := 0, rings := [], calibrated := [] }
                    ohp := { s.ohp with records := false }
                    sec := if lostz then { s.sec with domKeys := [] } else s.sec, pwr := { s.pwr with hostAlarm := none } }
  s.setReg PWR_SUPPLY.addr w

/-- A gap of the keep capacitor ends, R465: bridged where it lasted 400 µs at most. -/
def State.endGap (s : State) : State :=
  match s.sup.gap with
  | none => s
  | some t =>
    let s := s.setSup { s.sup with gap := none }
    if s.el ≤ t + 400000 then s.bump PWR_SUPSTAT.addr PWR_SUPSTAT.BRIDGE 1
    else if s.sup.lost then s else s.loseAlwaysOn

/-- The first source that can serve the always-on set, R457. -/
def State.feed (s : State) : State :=
  let src := if s.supply PWR_SUPPLY.MAINOK = 1 then 0 else if s.supply PWR_SUPPLY.BAKDEAD = 0 then 1 else 2
  let s := s.setFld PWR_SUPPLY.addr PWR_SUPPLY.SRC src
  if src = 2 then (if s.sup.gap.isNone then s.setSup { s.sup with gap := some s.el } else s) else s.endGap

/-- SUPPLY_SOURCE_CHANGE: VBAK crosses LOW or DEAD, R456 and R457. -/
def supplySourceChange (low dead : Bool) (s : State) : State :=
  ((s.setFld PWR_SUPPLY.addr PWR_SUPPLY.BAKLOW (b2n low)).setFld PWR_SUPPLY.addr PWR_SUPPLY.BAKDEAD (b2n dead)).feed
/-- SUPPLY_SOURCE_CHANGE. -/
def execSupplySourceChange (low dead : Bool) (s : State) : Out := .next (supplySourceChange low dead s)

/-- ALWAYS_ON_SET_LOST: a gap that has lasted more than 400 µs loses the always-on set, R465. -/
def alwaysOnSetLost (s : State) : State :=
  match s.sup.gap with
  | some t => if t + 400000 < s.el ∧ !s.sup.lost then s.loseAlwaysOn else s
  | none => s
/-- ALWAYS_ON_SET_LOST. -/
def execAlwaysOnSetLost (s : State) : Out := .next (alwaysOnSetLost s)

/-! ## VCORE, R458 and R459 -/

/-- VCORE at this instant of a step: 10 mV per µs from where it stood. -/
def State.vcoreNow (s : State) : Nat :=
  match s.sup.step with
  | none => s.sup.vcore
  | some (p, t) =>
    let d := (s.el - t) / 100
    if s.sup.vcore < p then min p (s.sup.vcore + d) else max p (s.sup.vcore - d)

/-- VCORE_STEP: a step to the point of the mode in effect begins; a lower one lowers the clocks first. -/
def vcoreStep (s : State) : State :=
  let p := vcorePoint s.mode
  if s.mode = 1 ∨ s.sup.step.isSome ∨ s.sup.vcore = p then s
  else s.setSup { s.sup with step := some (p, s.el), fast := s.sup.fast && decide (s.sup.vcore < p) }
/-- VCORE_STEP. -/
def execVcoreStep (s : State) : Out := .next (vcoreStep s)

/-- VCORE_STEP_DONE: the ramp has ended and VCORE is within 1 % of its point; only then may the clocks rise. -/
def vcoreStepDone (s : State) : State :=
  match s.sup.step with
  | some (p, _) =>
    if s.vcoreNow = p then s.setSup { s.sup with vcore := p, step := none, fast := decide (850 ≤ p) } else s
  | none => s
/-- VCORE_STEP_DONE. -/
def execVcoreStepDone (s : State) : Out := .next (vcoreStepDone s)

/-! ## Forced descents, R460 to R463 and R467 -/

/-- The frames under way cut at once, R460: their lanes carry MISS. -/
def State.cutFrames (s : State) : State :=
  let miss (s : State) (u : BusUser) : State :=
    match u with
    | .tile t lanes => s.missed t lanes
    | _ => s
  let s := (List.range 8).foldl (fun s n =>
    match (s.bus n).job with
    | some j => miss (s.setBus n { s.bus n with job := none }) j.user
    | none => s) s
  (List.range 6).foldl (fun s n =>
    match (s.csport n).job with
    | some j => miss (s.setCsport n { s.csport n with job := none }) j.user
    | none => s) s

/-- A forced descent begins, R460 and R462: its commit point is now. An entry under way ends, and a wake and a step of
VCORE stop where they are. -/
def State.forceDescent (s : State) : State :=
  let from_ := match s.pwr.entry with
    | some e => e.from_
    | none => s.mode
  let v := s.vcoreNow
  let s := s.setSup { s.sup with descent := some (s.el, from_), vcore := v, step := none }
  let s := s.setPwr { s.pwr with entry := none, waking := false, queue := [], grants := [], modeWaits := [], retryAt := none }
  let s := s.setFld PWR_STATUS.addr PWR_STATUS.MODE 1
  s.keepHoldover.cutFrames.phase 4

/-- VMAIN_WARN: VMAIN falls through WARN. In a mode above KEEP a forced descent begins. -/
def vmainWarn (s : State) : State :=
  let s := (s.setFld PWR_SUPPLY.addr PWR_SUPPLY.MAINOK 0).setFld PWR_SUPPLY.addr PWR_SUPPLY.MAINWARN 1
  let s := (s.setSup { s.sup with validating := none, absent := true, safeAt := none }).feed
  if s.mode = 1 ∧ s.pwr.entry.isNone then s
  else (s.bump PWR_SUPSTAT.addr PWR_SUPSTAT.MAINLOSS 1).forceDescent
/-- VMAIN_WARN. -/
def execVmainWarn (s : State) : Out := .next (vmainWarn s)

/-- FORCED_DESCENT_DONE: the core die is isolated and VCORE off. The sessions stay where the Keeper's records were
complete. After a rail other than VMAIN failed, the core die starts again as after a safe end state (log entry 29). -/
def forcedDescentDone (records : Bool) (s : State) : State :=
  match s.sup.descent with
  | none => s
  | some _ =>
    let s := (if s.time.keepCarries then s else s.addHandover).inKeep records
    let ok := s.supply PWR_SUPPLY.MAINOK = 1
    s.setSup { s.sup with descent := none, safeAt := if ok then some s.el else none
                          validating := s.sup.validating.map (fun _ => s.el) }
/-- FORCED_DESCENT_DONE. -/
def execForcedDescentDone (records : Bool) (s : State) : Out := .next (forcedDescentDone records s)

/-- What a monitor that trips shows: VMAIN no longer validated, or a bank not good. -/
def State.railDown (s : State) (rail : Nat) : State :=
  if rail = 0 then
    ((s.setFld PWR_SUPPLY.addr PWR_SUPPLY.MAINOK 0).setSup { s.sup with absent := true, validating := none }).feed
  else if 2 ≤ rail then
    let v := s.supply PWR_SUPPLY.VIOOK
    s.setFld PWR_SUPPLY.addr PWR_SUPPLY.VIOOK (v &&& (15 - 2 ^ (rail - 2)))
  else s

/-- Whether a power-down sequence is in progress, and the mode that it left. -/
def State.poweringDown (s : State) : Option Nat :=
  match s.sup.descent, s.pwr.entry with
  | some (_, m), _ => some m
  | none, some e => if e.phase = .powerDown then some e.from_ else none
  | none, none => none

/-- RAIL_FAIL: a rail fails during a power-down, R468: the safe end state, which is KEEP, recorded with the step, the rail
and the mode left; where the TB still carried the time it is handed over at the latest crystal tick (R60). -/
def railFail (rail : Fin 6) (step : Fin 9) (records : Bool) (s : State) : State :=
  match s.poweringDown with
  | none => s
  | some m =>
    let s := s.railDown rail
    let s := (if s.time.keepCarries then s else s.addHandover).inKeep records
    let n := min 255 (s.fld PWR_DOWNFAULT.addr PWR_DOWNFAULT.COUNT + 1)
    let s := s.setReg PWR_DOWNFAULT.addr (pack [(PWR_DOWNFAULT.COUNT, n), (PWR_DOWNFAULT.STEP, step.val),
      (PWR_DOWNFAULT.RAIL, rail.val), (PWR_DOWNFAULT.FROM, m)])
    let w := gtsWords (s.stamp pathCoarse)
    let s := (List.range 3).foldl (fun s k => s.setReg (PWR_DOWNGTS.addr k) (w.getD k 0)) s
    let ok := rail.val ≠ 0 ∧ s.supply PWR_SUPPLY.MAINOK = 1
    s.setSup { s.sup with descent := none, safeAt := if ok then some s.el else none }
/-- RAIL_FAIL. -/
def execRailFail (rail : Fin 6) (step : Fin 9) (records : Bool) (s : State) : Out := .next (railFail rail step records s)

/-- RAIL_FAIL_RUNNING: VCORE or a VIO bank (rails 1 to 5) fails outside a power-down, R467: a forced descent. -/
def railFailRunning (rail : Fin 5) (s : State) : State :=
  if s.poweringDown.isSome then s
  else
    let s := s.railDown (rail + 1)
    if s.mode = 1 then s else s.forceDescent
/-- RAIL_FAIL_RUNNING. -/
def execRailFailRunning (rail : Fin 5) (s : State) : Out := .next (railFailRunning rail s)

/-- SAFE_END_RESTART: 100 ms after a safe end state with VMAIN validated the core die starts again; after three such
starts within 10 s PWR stays in KEEP, R469. -/
def safeEndRestart (s : State) : State :=
  match s.sup.safeAt with
  | some t =>
    if t + 100000000 ≤ s.el ∧ s.supply PWR_SUPPLY.MAINOK = 1 then
      let recent := s.sup.starts.filter (fun x => decide (s.el < x + 10000000000))
      if 3 ≤ recent.length then s.setSup { s.sup with safeAt := none, stay := true }
      else
        let s := s.bump PWR_SUPSTAT.addr PWR_SUPSTAT.STARTFAIL 1
        (s.setSup { s.sup with starts := recent ++ [s.el], safeAt := none }).startCore 1
    else s
  | none => s
/-- SAFE_END_RESTART. -/
def execSafeEndRestart (s : State) : Out := .next (safeEndRestart s)

/-! ## Return of VMAIN, R464 -/

/-- VMAIN_RISE: VMAIN above 2.65 V; its validation begins, or begins again. -/
def vmainRise (s : State) : State :=
  let s := s.setFld PWR_SUPPLY.addr PWR_SUPPLY.MAINWARN 0
  if s.supply PWR_SUPPLY.MAINOK = 1 then s else s.setSup { s.sup with validating := some s.el }
/-- VMAIN_RISE. -/
def execVmainRise (s : State) : Out := .next (vmainRise s)

/-- VMAIN_VALIDATED: 2 ms above 2.65 V, or 150 µs while VBAK is LOW or DEAD. In KEEP after an absence source 46 is latched
and the core die starts. -/
def vmainValidated (s : State) : State :=
  match s.sup.validating with
  | none => s
  | some t =>
    let need := if s.supply PWR_SUPPLY.BAKLOW = 1 ∨ s.supply PWR_SUPPLY.BAKDEAD = 1 then 150000 else 2000000
    if s.sup.descent.isSome ∨ s.el < t + need then s
    else
      let back := s.sup.absent
      let s := (s.setSup { s.sup with validating := none, absent := false, stay := s.sup.stay && !back }).setFld
        PWR_SUPPLY.addr PWR_SUPPLY.MAINOK 1
      let s := s.feed
      if s.mode = 1 ∧ back then s.wakeEvent 46 else s
/-- VMAIN_VALIDATED. -/
def execVmainValidated (s : State) : Out := .next (vmainValidated s)

/-! ## The I/O banks and VPACK, R455 and R470 -/

/-- VIO_LEVEL_SET: a bank that rises above 1.0 V is set to 3.3 V where it reaches 2.4 V within 1 ms, else to 1.8 V. -/
def vioLevelSet (bank : Fin 4) (v33 : Bool) (s : State) : State :=
  let bit := 2 ^ bank.val
  let l := s.supply PWR_SUPPLY.VIOLVL &&& (15 - bit)
  let s := s.setFld PWR_SUPPLY.addr PWR_SUPPLY.VIOLVL (if v33 then l + bit else l)
  s.setFld PWR_SUPPLY.addr PWR_SUPPLY.VIOOK (s.supply PWR_SUPPLY.VIOOK ||| bit)
/-- VIO_LEVEL_SET. -/
def execVioLevelSet (bank : Fin 4) (v33 : Bool) (s : State) : Out := .next (vioLevelSet bank v33 s)

/-- VPACK_CHANGE: while VPACK is not good the sense die is in reset, its conversions lost, and the link down; when it
returns, training may follow. -/
def vpackChange (ok : Bool) (s : State) : State :=
  let was := s.supply PWR_SUPPLY.PACKOK = 1
  let s := s.setFld PWR_SUPPLY.addr PWR_SUPPLY.PACKOK (b2n ok)
  if ok ∨ !was then s
  else
    let s := if s.linkUp then s.declareDown else s
    s.abandonSense.setSense { s.abandonSense.sense with everTrained := false, toCore := [] }
/-- VPACK_CHANGE. -/
def execVpackChange (ok : Bool) (s : State) : Out := .next (vpackChange ok s)

end Sys2Proof.Machine
end

