-- ==== Sys2Proof/Machine/Windows.lean ====
section
/-! DEFINITION. The host window unit, R207 to R210 and R216. -/

namespace Sys2Proof.Machine

/-- The HWU block, R435. -/
def hwuBlock : Nat := 0x1A00

/-- The key under which the words that a host port's latest window or register read returned are kept (log entry 8). -/
def hostKey (n : Nat) : Nat := 4 * 2 ^ 32 + n

/-- The pages of port n's window: above 16384 acts as 16384, R216. -/
def State.wpages (s : State) (n : Nat) : Nat := min 16384 (s.cfld (HWU_WSIZE.addr n) HWU_WSIZE.PAGES)

/-- Port n's level-1 table. -/
def State.wtable (s : State) (n : Nat) : Nat := s.cfld (HWU_TBASE.addr n) HWU_TBASE.ADDR * 64

/-- Why a walk ends: 0 WINDOW_FAULT, 1 WALK_DEVICE, with its level, R208. -/
structure WalkEnd where
  code : Nat
  level : Nat
  deriving DecidableEq, Repr

/-- The check of R208 on the address that a step would read. -/
def stepCheck (a step : Nat) : Option WalkEnd :=
  if 0x40000000 ≤ a ∧ a < 0x50000000 then some ⟨1, step⟩
  else if 0x800000 ≤ a then some ⟨0, step⟩
  else none

/-- What a walk of a window page gives: the page's address in batch SRAM, or why it ended; with the level-2 entry read.
A page found in the cache starts at step 3, R210. -/
def State.walk (s : State) (n page : Nat) : Except WalkEnd (Nat × Word) :=
  if s.wpages n ≤ page then .error ⟨0, 0⟩
  else
    let last (e : Word) : Except WalkEnd (Nat × Word) :=
      let a := e.toNat / 0x1000 * 0x1000
      match stepCheck a 3 with
      | some w => .error w
      | none => .ok (a, e)
    match (Tab.get [] s.hwuCache n).find? (fun x => x.1 = page) with
    | some (_, e) => last e
    | none =>
      let a1 := s.wtable n + 4 * (page / 1024)
      match stepCheck a1 1 with
      | some w => .error w
      | none =>
        let e1 := memReadWord s.mem a1
        if e1.getLsbD 0 then
          let a2 := e1.toNat / 0x1000 * 0x1000 + 4 * (page % 1024)
          match stepCheck a2 2 with
          | some w => .error w
          | none =>
            let e2 := memReadWord s.mem a2
            if e2.getLsbD 0 then last e2 else .error ⟨0, 2⟩
        else .error ⟨0, 1⟩

/-- A page used by a walk: its entry is the most recently used, and the least recently used of 16 goes, R210. -/
def State.cacheUse (s : State) (n page : Nat) (e : Word) : State :=
  let l := (Tab.get [] s.hwuCache n).filter (fun x => x.1 ≠ page)
  let l := if 16 ≤ l.length then l.drop 1 else l
  { s with hwuCache := Tab.put s.hwuCache n (l ++ [(page, e)]) }

/-- A fault of a walk recorded, R209: every fault counts, and the first while VALID is 0 is recorded. -/
def State.walkFault (s : State) (n a : Nat) (w : WalkEnd) : State :=
  let s := s.bump (HWU_FCNT.addr n) HWU_FCNT.COUNT 1
  if s.fld (HWU_FAULT.addr n) HWU_FAULT.VALID = 1 then s
  else s.setReg (HWU_FAULT.addr n)
    (pack [(HWU_FAULT.VALID, 1), (HWU_FAULT.LEVEL, w.level), (HWU_FAULT.CODE, w.code), (HWU_FAULT.ADDR, a)])

/-- Where the page of a window address lies, with what its walk does; none where it ends, or where the page is not ready
(dead). -/
def State.windowPage (s : State) (n : Nat) (dead : Nat → Bool) (a : Nat) : State × Option Nat :=
  if dead (a / 0x1000) then (s, none)
  else match s.walk n (a / 0x1000) with
    | .ok (b, e) => (s.cacheUse n (a / 0x1000) e, some b)
    | .error w => (s.walkFault n a w, none)

/-- The words of a burst from a window address, page by page: each page is walked once, and a page whose walk ends, or that
is not ready (dead), reads as ones, R208 and R320. cur holds the page walked last and where it lies. -/
def State.windowWords (s : State) (n : Nat) (dead : Nat → Bool) :
    Nat → Nat → Option (Nat × Option Nat) → List Word → State × List Word
  | 0, _, _, out => (s, out.reverse)
  | k + 1, a, cur, out =>
    let at_ : State × Option Nat := match cur.filter (fun c => c.1 = a / 0x1000) with
      | some c => (s, c.2)
      | none => s.windowPage n dead a
    let w : Word := match at_.2 with
      | some b => memReadWord at_.1.mem (b + a % 0x1000)
      | none => 0xFFFFFFFF
    at_.1.windowWords n dead k (a + 4) (some (a / 0x1000, at_.2)) (w :: out)

/-- The bank of batch SRAM that an address lies in. -/
def bankAt (a : Nat) : Nat := bankOf (a / 0x1000)

/-- The banks that a walk of a window page reads, table entries and page, R208 and R210. -/
def State.pageBanks (s : State) (n page : Nat) : List Nat :=
  let a1 := s.wtable n + 4 * (page / 1024)
  let e1 := memReadWord s.mem a1
  let a2 := e1.toNat / 0x1000 * 0x1000 + 4 * (page % 1024)
  let one : Bool := decide (page < s.wpages n) && (Tab.get [] s.hwuCache n).all (fun x => x.1 != page) && decide (a1 < 0x800000)
  let two : Bool := one && e1.getLsbD 0 && decide (a2 < 0x800000)
  (if one then [bankAt a1] else []) ++ (if two then [bankAt a2] else []) ++
    (match s.walk n page with
     | .ok (b, _) => [bankAt b]
     | .error _ => [])

/-- The pages that a burst of words reads. -/
def burstPages (a words : Nat) : List Nat :=
  if words = 0 then [] else (List.range ((a % 0x1000 + 4 * words - 1) / 0x1000 + 1)).map (fun k => a / 0x1000 + k)

/-- An access that needs several domains: it waits for each that is not powered, R445. -/
def State.withDomains (s : State) (ds : List Nat) (f : State → State) : State :=
  if ds.all s.isOn then (ds.foldr (fun d g s => s.withDomain d g) f) s
  else ds.foldl (fun s d => s.requestWake d) s

/-- A host read of words at a window address, R207: it waits for the banks that are not powered (R445). -/
def State.windowBurst (s : State) (n a words : Nat) : State :=
  s.withDomain hwuBlock (fun s =>
    let a := a / 4 * 4
    s.withDomains ((burstPages a words).flatMap (s.pageBanks n)) (fun s =>
      let (s, w) := s.windowWords n (fun _ => false) words a none []
      { s with snaps := Tab.put s.snaps (hostKey n) w }))

/-- WINDOW_READ. -/
def windowRead (port : Fin 4) (a words : Nat) (s : State) : State := s.windowBurst port a words
/-- WINDOW_READ. -/
def execWindowRead (port : Fin 4) (a words : Nat) (s : State) : Out := .next (windowRead port a words s)

/-- The payload of a FAULT_REPORT, R345: the detail and the walk level came with version 2.1; the level is 0 where no walk
ended (log entry 30). -/
def faultPayload (version level cause unit : Nat) (g : Gts) (detail : Nat) (walk : Option Nat) : List Byte :=
  let base := leBytes 1 level ++ [0] ++ leBytes 2 cause ++ leBytes 4 unit ++ gtsBytes g
  if version < 0x21 then base
  else base ++ leBytes 4 detail ++ leBytes 1 (walk.getD 0)

/-- Whether Topcoat serves messages: the Keeper is awake and not halted, and Topcoat runs, or Undercoat in recovery
(R511). -/
def State.served (s : State) : Bool := s.works 0x1000 && !(s.core 16).halted && (s.ohp.running || s.ohp.recovery)

/-- WINDOW_FAULT_REPORT, R209: Topcoat sends the port a FAULT_REPORT for the recorded fault and clears VALID. -/
def windowFaultReport (port : Fin 4) (s : State) : State :=
  let w := s.reg (HWU_FAULT.addr port)
  if s.served && decide (fget w HWU_FAULT.VALID = 1) then
    let code := fget w HWU_FAULT.CODE
    let s := s.setFld (HWU_FAULT.addr port) HWU_FAULT.VALID 0
    match (s.port port).session with
    | some v => s.publish port
        { op := 0x42, status := 0x30 + code, reply := false
          payload := faultPayload v 4 (0x30 + code) (0x1100 + port) (s.stamp pathCoarse) (fget w HWU_FAULT.ADDR)
            (some (fget w HWU_FAULT.LEVEL)) }
    | none => s
  else s
/-- WINDOW_FAULT_REPORT. -/
def execWindowFaultReport (port : Fin 4) (s : State) : Out := .next (windowFaultReport port s)

/-- The caches of the ports in a mask emptied, R210. -/
def State.emptyCaches (s : State) (v : Word) : State :=
  (List.range 4).foldl (fun s n => if v.getLsbD n then { s with hwuCache := Tab.put s.hwuCache n [] } else s) s

/-- A write of HWU_COMMIT: the named ports' base and size take effect and their caches empty, R210 and R216. -/
def hwuCommit (v : Word) (s : State) : State :=
  s.access HWU_COMMIT.addr (fun s =>
    ((List.range 4).foldl (fun s n =>
      if v.getLsbD n then s.commitNow (HWU_TBASE.addr n) (HWU_FAULT.addr n) else s) s).emptyCaches v)
/-- HWU_COMMIT. -/
def execHwuCommit (p : Side) (v : Word) (s : State) : Out := .next (s.permitted p HWU_COMMIT.addr true (hwuCommit v))

/-- A write of HWU_INV, R210. -/
def hwuInv (v : Word) (s : State) : State := s.access HWU_INV.addr (fun s => s.emptyCaches v)
/-- HWU_INV. -/
def execHwuInv (p : Side) (v : Word) (s : State) : Out := .next (s.permitted p HWU_INV.addr true (hwuInv v))

end Sys2Proof.Machine
end

