-- ==== Sys2Proof/Machine/OhpOps.lean ====
section
/-! DEFINITION. What the messages of OHP share: taking and refusing a message, its length checks, replies, STATE_REPORT,
alarms, the event queues, holdings and mailboxes, R329 to R358. -/

namespace Sys2Proof.Machine

/-! ## Status codes, R340 -/

/-- OK. -/
def stOk : Nat := 0x00
/-- BUSY. -/
def stBusy : Nat := 0x01
/-- BAD_VERSION. -/
def stBadVersion : Nat := 0x02
/-- BAD_LENGTH. -/
def stBadLength : Nat := 0x03
/-- NO_RESOURCE. -/
def stNoResource : Nat := 0x10
/-- STALE_ROLE. -/
def stStaleRole : Nat := 0x21
/-- CONFLICT. -/
def stConflict : Nat := 0x22
/-- VERIFY_FAIL. -/
def stVerifyFail : Nat := 0x40
/-- INTERNAL. -/
def stInternal : Nat := 0x7F

/-! ## Holdings, R343 and R530 -/

/-- The owner ID of host port n, R529. -/
def hostOwner (n : Nat) : Nat := 0x0100 + n
/-- The RESID of a unit, R528. -/
def resid (cls inst : Nat) : Nat := cls * 2 ^ 24 + inst

/-- Whether port n answers for a unit, R530: recorded for it, or claimed through its messages for another owner. -/
def State.answersFor (s : State) (n cls inst : Nat) : Bool :=
  s.ownerOf cls inst == hostOwner n ||
    (s.ownerOf cls inst != 0 && (Tab.find s.ohp.claimedFor (unitKey cls inst) == some n))

/-- Every unit, by class and instance in ascending RESID, R528. -/
def allUnits : List (Nat × Nat) :=
  (List.range 12).flatMap (fun c => (List.range (classSize c)).map (fun i => (c, i)))

/-- The units that port n answers for. -/
def State.unitsOf (s : State) (n : Nat) : List (Nat × Nat) := allUnits.filter (fun u => s.answersFor n u.1 u.2)

/-- The fields of a CONFLICT reply, R341. -/
def conflictFields (cls inst owner : Nat) : List Byte := leBytes 4 (resid cls inst) ++ leBytes 2 owner

/-- The refusal of a message on a unit that its port does not hold, R343: CONFLICT where another holds it, NO_RESOURCE
where it does not exist or is free (log entry 31). none where the port holds it, or answers for it since Topcoat claimed it
for a tile or LOG (R530). -/
def State.notHeld (s : State) (n cls inst : Nat) : Option (Nat × List Byte) :=
  if classSize cls ≤ inst then some (stNoResource, [])
  else if s.ownerOf cls inst = hostOwner n ∨ (0x1200 ≤ s.ownerOf cls inst ∧ s.answersFor n cls inst) then none
  else if s.ownerOf cls inst = 0 then some (stNoResource, [])
  else some (stConflict, conflictFields cls inst (s.ownerOf cls inst))

/-! ## Taking, refusing and answering messages -/

/-- The opcodes of requests, R345. -/
def requests : List Nat :=
  [0x01, 0x02, 0x03, 0x10, 0x11, 0x12, 0x20, 0x21, 0x22, 0x23, 0x30, 0x31, 0x32, 0x33, 0x41, 0x50, 0x51, 0x52, 0x53, 0x60,
   0x61, 0x62, 0x63, 0x64]
/-- The requests that Undercoat serves in recovery, R511. -/
def recoveryRequests : List Nat := [0x01, 0x02, 0x60, 0x61, 0x62, 0x63, 0x64]

/-- The version in which an opcode appeared, R345. -/
def opSince (op : Nat) : Nat :=
  if op = 0x23 ∨ (0x50 ≤ op ∧ op < 0x60) then 0x20
  else if op = 0x33 ∨ 0x60 ≤ op then 0x11
  else 0x10

/-- The sum of a message's LENs. -/
def Msg.len (m : Msg) : Nat := m.lens.foldl (· + ·) 0

/-- The bounds of R337 on a message's length. -/
def Msg.lenOk (m : Msg) : Bool :=
  let n := m.len
  let fixed (k : Nat) : Bool := n = k
  let later (unit most : Nat) : Bool := (m.lens.drop 1).all (fun l => l % unit = 0 && decide (l ≤ most))
  let count := leAt m.payload 3 1
  match m.op with
  | 0x01 => fixed 12
  | 0x10 => fixed 16
  | 0x12 => fixed 2
  | 0x20 => decide (m.lens.headD 0 = 8 + 6 * count) && decide (1 ≤ count) && decide (count ≤ 8) && later 6 54
  | 0x21 => decide (m.lens.headD 0 = 16 + 8 * count) && decide (count ≤ 5) && later 8 56
  | 0x22 => decide (40 ≤ n) && decide (n ≤ 6184)
  | 0x23 => decide (16 ≤ n)
  | 0x30 => fixed 3
  | 0x31 => fixed 2
  | 0x32 => fixed 16
  | 0x33 => fixed 8
  | 0x41 => fixed 2
  | 0x50 => fixed 6
  | 0x51 => fixed 6
  | 0x52 => fixed 8
  | 0x53 => decide (8 ≤ n) && decide (n ≤ 56)
  | 0x60 => fixed 4
  | 0x61 => decide (4 ≤ n)
  | _ => fixed 0

/-- The first checks on a message, R336: the session and its version, then the length; 0 where it passes. HELLO needs no
session. -/
def State.refusalOf (s : State) (n : Nat) (m : Msg) : Nat :=
  if m.bad ≠ 0 then m.bad
  else if m.op = 0x01 then (if m.lenOk then 0 else stBadLength)
  else match (s.port n).session with
    | none => stBadVersion
    | some v =>
      if !requests.contains m.op || decide (v < opSince m.op) then stBadVersion
      else if s.ohp.recovery && !recoveryRequests.contains m.op then stBadVersion
      else if !m.lenOk then stBadLength
      else if (m.op = 0x52 ∨ m.op = 0x53) ∧ 3 < leAt m.payload 0 1 then stNoResource
      else 0

/-- Whether a message of port n has begun and not completed, R342: a MODE_SET whose mode is not reached, a MESH_SEND that
awaits its MBXR, a LANE_CONFIG whose manual transactions run. -/
def State.portBusy (s : State) (n : Nat) : Bool :=
  s.pwr.modeWaits.any (fun w => w.port == n) || s.flx.waiting.any (fun w => w.port == n) ||
    s.twb.any (fun b => b.2.manReply.any (fun w => w.port == n))

/-- The messages at the head of port n's queue that are refused before their execution answered, in SEQ order. -/
def State.refuseHeads (s : State) (n : Nat) : Nat → State
  | 0 => s
  | fuel + 1 =>
    match (s.port n).taken with
    | [] => s
    | m :: rest =>
      let r := s.refusalOf n m
      if r = 0 || s.portBusy n then s
      else ((s.setPort n { s.port n with taken := rest }).reply n m r
        (if m.op = 0x01 ∧ r = stBadVersion then leBytes 1 0x10 ++ leBytes 1 (if s.ohp.recovery then 0x11 else 0x21) else [])
        ).refuseHeads n fuel
/-- Refused messages answered, R340. -/
def State.afterMessage (s : State) (n : Nat) : State := s.refuseHeads n (s.port n).taken.length

/-- Execution of the message at the head of port n's queue, where it is the one that the command names and the previous one
has completed (R342): with its version, the message is taken from the queue and its effect and reply follow; refused
messages before and behind it are answered. -/
def State.serve (s : State) (n : Nat) (names : Msg → Bool) (f : Nat → Msg → State → State) : State :=
  if !s.served then s
  else
    let s := s.afterMessage n
    match (s.port n).taken with
    | [] => s
    | m :: rest =>
      if names m ∧ s.refusalOf n m = 0 ∧ !s.portBusy n then
        (f ((s.port n).session.getD 0) m (s.setPort n { s.port n with taken := rest })).afterMessage n
      else s

/-- A message named by its opcode. -/
def named (op : Nat) (m : Msg) : Bool := m.op = op
/-- A number of a request's payload, little-endian; what a shorter message omits is 0, R336. -/
def Msg.at (m : Msg) (o n : Nat) : Nat := leAt m.payload o n

/-! ## STATE_REPORT, R346 -/

/-- The handles that port n holds and that are not FREE. -/
def State.openHandles (s : State) (n : Nat) : List Nat :=
  (List.range 256).filter (fun h => decide ((s.handle h).st ≠ .free) && decide (s.ownerOf 8 h = hostOwner n))
/-- LOG_BTAh.STATE of a handle, R215. -/
def stateCode : BatchState → Nat
  | .free => 0
  | .armed => 1
  | .opened => 2
  | .closed => 3

/-- The fields of a STATE_REPORT from byte 2 on. -/
def State.stateReport (s : State) (n reason : Nat) : List Byte :=
  let v := (s.port n).session.getD 0
  let hs := s.openHandles n
  let us := s.unitsOf n
  let flags := s.fld (HP_STATUS.addr n) HP_STATUS.TCRST + 2 * s.fld PWR_FLOOR.addr (PWR_FLOOR.HOLD n) +
    (if 0x21 ≤ v then 4 * b2n s.ohp.alarmOverflow else 0)
  leBytes 1 s.mode ++ leBytes 1 reason ++ leBytes 2 (s.fld (HP_INACK.addr n) HP_INACK.SEQ) ++
    leBytes 2 (s.fld (HP_OUTPROD.addr n) HP_OUTPROD.SEQ) ++ leBytes 2 (s.aOut n) ++ leBytes 1 v ++
    leBytes 1 (floatCode s.time.state) ++ gtsBytes (s.stamp 0) ++ leBytes 2 hs.length ++ leBytes 2 us.length ++
    leBytes 2 s.ohp.alarms.length ++ leBytes 2 (if 0x20 ≤ v then s.ohp.epoch else 0) ++ leBytes 1 flags ++
    List.replicate 23 0 ++ hs.flatMap (fun h => leBytes 1 h ++ leBytes 1 (stateCode (s.handle h).st)) ++
    us.flatMap (fun u => leBytes 4 (resid u.1 u.2)) ++ s.ohp.alarms.flatMap (leBytes 2)

/-- An unsolicited STATE_REPORT, R338. -/
def State.reportNow (s : State) (n reason : Nat) : State :=
  s.publish n { op := 0x03, status := 0, reply := false, payload := leBytes 2 0xFFFF ++ s.stateReport n reason }
/-- An unsolicited STATE_REPORT to a port with a session, R339 and R360. -/
def State.report (s : State) (n reason : Nat) : State :=
  if (s.port n).session.isSome then s.reportNow n reason else s

/-! ## Events, messages of cores and alarms, R353 to R355 -/

/-- The item of SUBS for an event record: its slice, or NORULE of a model's run. -/
def subsBit (r : EvRec) : Nat := if r.eflags.testBit 4 then 26 else r.rule / 32
/-- Whether port n is subscribed to an item; NORULE results and core messages came with version 2.1. -/
def State.subscribed (s : State) (n bit : Nat) : Bool :=
  match (s.port n).session with
  | some v => (s.port n).subs.getLsbD bit && (decide (0x21 ≤ v) || decide (bit < 8) || bit == 24 || bit == 25)
  | none => false

/-- A copy into a port's queue of 256, or one more lost for that port alone, R353. -/
def State.copyTo (s : State) (n : Nat) (e : PortEv) : State :=
  let p := s.port n
  if p.evq.length < 256 then s.setPort n { p with evq := p.evq ++ [e] }
  else s.setPort n { p with evLost := min 255 (p.evLost + 1) }

/-- The records at the head of a queue, up to two. -/
def headRecords : List PortEv → List EvRec
  | .record a :: .record b :: _ => [a, b]
  | .record a :: _ => [a]
  | _ => []

/-- EVENT messages of port n sent while the outbound ring has room for unsolicited messages, R353. -/
def State.sendEvents (s : State) (n : Nat) : Nat → State
  | 0 => s
  | fuel + 1 =>
    let p := s.port n
    if !p.outWait.isEmpty || !s.room n false then s
    else
      let head (kind nrec : Nat) : List Byte := leBytes 1 kind ++ leBytes 1 p.evLost ++ leBytes 1 nrec ++ [0]
      let send (rest : List PortEv) (b : List Byte) : State :=
        (s.setPort n { p with evq := rest, evLost := 0 }).publish n { op := 0x40, status := 0, reply := false, payload := b }
      match p.evq with
      | [] => s
      | .message c b :: rest =>
        (send rest (head 1 1 ++ leBytes 1 (c / 2) ++ leBytes 1 (c % 2) ++ [0, 0] ++ b)).sendEvents n fuel
      | .record _ :: _ =>
        let l := headRecords p.evq
        (send (p.evq.drop l.length) (head 0 l.length ++ l.flatMap eventBytes)).sendEvents n fuel

/-- What waits for port n sent as far as its outbound ring has room: messages, then events. -/
def State.pump (s : State) (n : Nat) : State := (s.flushOut n).sendEvents n (s.port n).evq.length

/-- An alarm, R355: it takes the next ALARMID, is kept pending where fewer than 64 are, and goes to every port with SUBS
bit 25. -/
def State.alarm (s : State) (source : Nat) (body : List Byte) : State :=
  let id := s.ohp.nextAlarm
  let o := s.ohp
  let s := { s with ohp := { o with
    nextAlarm := if id = 0xFFFF then 1 else id + 1
    alarms := if o.alarms.length < 64 then o.alarms ++ [id] else o.alarms
    alarmOverflow := o.alarmOverflow || decide (64 ≤ o.alarms.length) } }
  (List.range 4).foldl (fun s n =>
    if s.subscribed n 25 then
      let src := if 0x20 ≤ (s.port n).session.getD 0 then source else 0
      s.publish n { op := 0x41, status := 0, reply := false, payload := leBytes 2 id ++ leBytes 1 src ++ [0] ++ body }
    else s) s

/-! ## Mailboxes, R263 and R358 -/

/-- A message delivered to a core's MBX_IN, padded with 0 to 32 bytes; none where INFULL is 1. -/
def State.deliverMbx (s : State) (c : Nat) (b : List Byte) : Option State :=
  let m := s.mailbox c
  if m.full then none
  else some (s.setMailbox c { m with inb := (List.range 8).map (fun k => (k, Word.ofNat (leAt b (4 * k) 4))), full := true })

/-! ## Mode changes, R432 and R436 -/

/-- A transition of modes in progress, R451. -/
def State.inTransition (s : State) : Bool := s.fld PWR_STATUS.addr PWR_STATUS.BUSY = 1

/-- Waiting MODE_SETs answered where nothing more will change the mode for them: the target is reached, or not below. -/
def State.settleModes (s : State) (port mode : Nat) : State :=
  if s.pwr.modeWaits.isEmpty ∨ s.pwr.entry.isSome then s
  else if s.mode = mode then s.answerModes 0 0
  else if s.mode ≤ s.target then
    let (r, b) := (s.refusal mode (some port)).getD (0, 0)
    s.answerModes r b
  else s

end Sys2Proof.Machine
end

