-- ==== Sys2Proof/Machine/Time.lean ====
section
/-! DEFINITION. The commands of the timebase and of Float, R40 to R86. -/

namespace Sys2Proof.Machine

/-! ## The PLL and the handovers -/

/-- R45: the settling ends SETTLE × 16 µs after REF_EN rose, and the PLL starts. -/
def refSettleDone (s : State) : State :=
  match s.time.pll with
  | .settling since =>
    if since + s.cfld TB_REFCFG.addr TB_REFCFG.SETTLE * 16000 ≤ s.el then s.setTime { s.time with pll := .starting } else s
  | _ => s
/-- REF_SETTLE_DONE. -/
def execRefSettleDone (s : State) : Out := .next (refSettleDone s)

/-- R45, R46: a started PLL locks. -/
def pllLock (s : State) : State :=
  if s.time.pll = .starting then s.setTime { s.time with pll := .locked } else s
/-- PLL_LOCK. -/
def execPllLock (s : State) : Out := .next (pllLock s)

/-- R54: at a crystal tick the accumulator's time is loaded into the KEEP timekeeper as of the tick, 1 ns is added to the
uncertainty, the PLL stops; REF_EN falls where REFGATE is 1 (R45); then the commit point of the entry (R440). Before the tick
the TB waits. -/
def handoverToKeep (s : State) : State :=
  match s.pwr.entry with
  | some e =>
    if e.phase = .handover ∧ !s.time.keepCarries ∧ s.atTick then
      let s := s.addHandover
      (s.setTime { s.handsOver true with keep := s.time.acc - s.sinceTick, pll := .off
                                         refEn := s.fld TB_CTL.addr TB_CTL.REFGATE = 0
                                         keepCorr := s.modelRate true }).commitPoint
    else s
  | none => s
/-- HANDOVER_TO_KEEP. -/
def execHandoverToKeep (s : State) : Out := .next (handoverToKeep s)

/-- R57: with the PLL locked the accumulator takes over at a crystal tick: the KEEP timekeeper's time plus what has elapsed
since the tick. 1 ns is added to the uncertainty, and the edges latched since the wake request are stamped at the midpoint of
the span with its length / √12. -/
def handoverFromKeep (s : State) : State :=
  if s.time.keepCarries ∧ s.time.pll = .locked ∧ !s.lowMode ∧ s.atTick then
    let span := s.el - s.time.spanFrom
    let edges := s.time.span
    let s := s.addHandover
    let s := s.setTime { s.time with acc := s.time.keep + s.sinceTick, span := [] }
    let path := ceilDiv (span * 1000 * (span * 1000)) 12
    let g := s.stampAt (nearest80 (s.time.acc - BitVec.ofNat 104 (span * 2 ^ 63 / 10 ^ 9))) path
    let s := edges.foldl (fun s e => s.edgeCaptured e.pin e.rise g g path) s
    s.setTime (s.handsOver false)
  else s
/-- HANDOVER_FROM_KEEP. -/
def execHandoverFromKeep (s : State) : Out := .next (handoverFromKeep s)

/-! ## Edges -/

/-- R49, R51 to R53: the owning engine captures the edge in one of its eight 125 ps bins; slices receive the edge with
the EIO block's coarse capture (R140). -/
def fiEdgeCapture (pin : Fin 48) (rise : Bool) (bin : Fin 8) (s : State) : State :=
  match (if s.vioOk 3 then s.fiServes pin rise bin else none) with
  | some n =>
    let fine := s.stampAt (s.captureAt (bin * 125)) pathFine
    let s := s.setTime { s.time with fiLast := Tab.put s.time.fiLast n (s.binAt bin) }
    s.edgeCaptured pin rise (s.stampAt (s.captureAt 0) pathCoarse) fine pathFine
  | none => s
/-- FI_EDGE_CAPTURE. -/
def execFiEdgeCapture (pin : Fin 48) (rise : Bool) (bin : Fin 8) (s : State) : Out := .next (fiEdgeCapture pin rise bin s)

/-- R50: an edge that no enabled engine serves is captured at 1 ns from the EIO block's tap. An edge that falls less than 8 ns
after an engine's last capture is served by none from the first bins of this nanosecond on (R49). -/
def coarseEdgeCapture (pin : Fin 48) (rise : Bool) (s : State) : State :=
  if s.lowMode ∨ s.time.keepCarries ∨ !s.vioOk 3 then s
  else match s.fiServes pin rise 0 with
    | some _ => s
    | none => let g := s.stampAt (s.captureAt 0) pathCoarse
              s.edgeCaptured pin rise g g pathCoarse
/-- COARSE_EDGE_CAPTURE. -/
def execCoarseEdgeCapture (pin : Fin 48) (rise : Bool) (s : State) : Out := .next (coarseEdgeCapture pin rise s)

/-- Whether the gated rings serve a pin now, R55, R57 and R430: EIO0 to EIO15 and PPS_IN while the KEEP timekeeper
carries time and their bank is good (R470), in KEEP the wake pins EIO0 to EIO7 whose PWR_KWAKE edge is selected, which are
always-on pads (R454). -/
def State.ringServed (s : State) (pin : Nat) (rise : Bool) : Bool :=
  s.time.keepCarries &&
    (if s.mode = 1 then decide (pin < 8) && edgeSelected ((s.reg PWR_KWAKE.addr).toNat / 2 ^ (16 + 2 * pin) % 4) rise
     else s.vioOk 3)

/-- The rank in which edges of one instant are served, R56: PPS_IN (16) first, then the EIO pins in ascending order. -/
def ringRank (pin : Nat) : Nat := if pin = 16 then 0 else pin + 1

/-- The ring that started last in rank in this same instant, for an edge that comes before it in rank, R56. -/
def State.ringYields (s : State) (pin : Nat) : Option (Nat × Nat × Bool) :=
  (List.range 4).foldl (fun (b : Option (Nat × Nat × Bool)) r =>
    match (s.gring r).edge with
    | some (p, rise, t) =>
      if t = s.el ∧ ringRank pin < ringRank p then
        match b with
        | some (_, q, _) => if ringRank q < ringRank p then some (r, p, rise) else b
        | none => some (r, p, rise)
      else b
    | none => b) none

/-- Ring r starts on an edge, R55 and R163: the slices have the edge at once, its instant when the capture is complete. -/
def State.ringBegins (s : State) (r pin : Nat) (rise : Bool) : State :=
  let s := s.setGring r { s.gring r with edge := some (pin, rise, s.el) }
  if pin < 16 ∧ s.mode ≠ 1 then
    ((s.setPin pin rise).extEdge pin rise).edgeToSlices pin rise
      ⟨s.stampAt s.midTick pathNoRing, s.epochAt (s.elOf s.midTick), some r⟩
  else s

/-- The capture of the edge that ring r measures is complete, R55 and R163. -/
def State.ringEnds (s : State) (r pin : Nat) (rise : Bool) (g : Gts) (pathSq : Nat) : State :=
  let s := s.setGring r { s.gring r with edge := none }
  let s := if s.mode = 1 then s.setPin pin rise else s
  if pin < 16 then (s.resolveRing r (s.carrying g)).captured pin g pathSq else s.ppsOffered rise g

/-- An edge of a ring pin (16 is PPS_IN) without a ring, R56: stamped at the midpoint of its crystal tick period with 8.81 µs. -/
def State.ringless (s : State) (pin : Nat) (rise : Bool) : State :=
  let g := s.stampAt s.midTick pathNoRing
  if pin < 16 then s.edgeCaptured pin rise g g pathNoRing else s.ppsOffered rise g

/-- R55, R56: the lowest free calibrated ring starts. With none, an edge of this instant that comes later in rank gives up its
ring; the edge left without one has none. -/
def ringStart (pin : Fin 17) (rise : Bool) (s : State) : State :=
  if s.ringServed pin rise then
    match (List.range 4).find? (fun r => (s.gring r).edge.isNone && (s.gring r).cal.isSome) with
    | some r => s.ringBegins r pin rise
    | none =>
      match s.ringYields pin with
      | some (r, p, up) => (s.ringEnds r p up (s.stampAt s.midTick pathNoRing) pathNoRing).ringBegins r pin rise
      | none => s.ringless pin rise
  else s
/-- RING_START. -/
def execRingStart (pin : Fin 17) (rise : Bool) (s : State) : Out := .next (ringStart pin rise s)

/-- The term of a gated ring squared in ps^2, R60: √(0.29² + (I σ_r)²), σ_r = √(50² + (20 ΔT)²) ppm, for an interval in ps and
ΔT in 1/16 K. -/
def ringPath (ips dt : Nat) : Nat := 290 * 290 + ceilDiv (ips * ips * (2500 * 256 + 400 * dt * dt)) (256 * 10 ^ 12)

/-- R55, R60: at a crystal tick the ring stops; the edge is the tick less count × period. -/
def ringStop (ring : Fin 4) (count : Nat) (s : State) : State :=
  match (s.gring ring).edge, (s.gring ring).cal with
  | some (pin, rise, _), some (period, temp) =>
    if s.atTick then
      let pathSq := ringPath (ceilDiv (count * period) 1000) (s.crystalTemp.getD temp - temp).natAbs
      let t := nearest80 (s.time.keep - BitVec.ofNat 104 (ceilDiv (count * period * 2 ^ 64) (10 ^ 15)))
      s.ringEnds ring pin rise (s.stampAt t pathSq) pathSq
    else s
  | _, _ => s
/-- RING_STOP. -/
def execRingStop (ring : Fin 4) (count : Nat) (s : State) : Out := .next (ringStop ring count s)

/-- R56, R57: in WATCH or SKIM an edge on EIO16 to EIO47 is stamped at the midpoint of its crystal tick period; between
a wake request and the handover it is latched. -/
def slowEdgeStamp (pin : Fin 48) (rise : Bool) (s : State) : State :=
  if pin.val < 16 ∨ !s.time.keepCarries ∨ s.mode = 1 ∨ !s.vioOk 3 then s
  else if s.lowMode then
    let g := s.stampAt s.midTick pathNoRing
    s.edgeCaptured pin rise g g pathNoRing
  else s.setTime { s.time with span := s.time.span ++ [{ pin := pin.val, rise }] }
/-- SLOW_EDGE_STAMP. -/
def execSlowEdgeStamp (pin : Fin 48) (rise : Bool) (s : State) : Out := .next (slowEdgeStamp pin rise s)

/-- R55: with the PLL locked, at the first lock after a start and every 60 s, a ring's period is calibrated and the latest
crystal temperature recorded with it; none while no reading exists. -/
def ringCalibration (ring : Fin 4) (periodFs : Nat) (s : State) : State :=
  match s.crystalTemp with
  | some t =>
    if s.time.pll = .locked ∧ ((Tab.find s.time.calibrated ring).all (fun c => c + 60000000000 ≤ s.el) ∨
        (s.gring ring).cal.isNone) then
      let s := s.setGring ring { s.gring ring with cal := some (periodFs, t) }
      s.setTime { s.time with calibrated := Tab.put s.time.calibrated ring s.el }
    else s
  | none => s
/-- RING_CALIBRATION. -/
def execRingCalibration (ring : Fin 4) (periodFs : Nat) (s : State) : Out := .next (ringCalibration ring periodFs s)

/-- R58: the reading; while the KEEP timekeeper carries time its correction from the crystal's model, and in HOLDOVER the
reference's rate from its own (R62, R66). -/
def crystalTempRead (temp : BitVec 16) (s : State) : State :=
  let s := (s.setFld TB_TEMP.addr TB_TEMP.TEMP temp.toNat).setFld TB_TEMP.addr TB_TEMP.VALID 1
  let s := if s.time.keepCarries then s.setTime { s.time with keepCorr := s.modelRate true } else s
  if s.time.state = .holdover then s.enterHoldover else s
/-- CRYSTAL_TEMP_READ. -/
def execCrystalTempRead (temp : BitVec 16) (s : State) : Out := .next (crystalTempRead temp s)

/-- R63: in LOCKED with U_clk below 100 ns and a temperature span of at most 0.5 K, one entry joins the reference bin and
one the crystal bin of the mean temperature. LEARNH counts 60 such intervals as an hour, those outside the bins too, and drops
the odd minutes at a start, since the header holds whole hours (DESIGN CHOICE, log entry 86). -/
def floatLearn (ref xk temp : Int) (span : Nat) (s : State) : State :=
  if s.time.state = .locked ∧ s.uclkSq < 10 ^ 10 ∧ span ≤ 8 then
    let k : Int := (temp + 8) / 16 + 40
    let s := s.setTime { s.time with learnMin := s.time.learnMin + 1 }
    let s := if k < 0 ∨ 165 < k then s else (s.addEntry k.toNat ref).addEntry (166 + k.toNat) xk
    s.saveModel
  else s
/-- FLOAT_LEARN. -/
def execFloatLearn (ref xk temp : Int) (span : Nat) (s : State) : Out := .next (floatLearn ref xk temp span s)

/-! ## Sources -/

/-- R69: an edge on PPS_IN while the 1 GHz counter runs, captured by its own engine (R52). -/
def ppsEdge (rise : Bool) (bin : Fin 8) (s : State) : State :=
  if !s.vioOk 3 then s
  else if s.lowMode ∨ s.time.keepCarries then s.setTime { s.time with ppsLevel := rise }
  else s.ppsOffered rise (s.stampAt (s.captureAt (bin * 125)) pathFine)
/-- PPS_EDGE. -/
def execPpsEdge (rise : Bool) (bin : Fin 8) (s : State) : Out := .next (ppsEdge rise bin s)

/-- R67: a source without an accepted measurement for its time-out period times out; Float reselects or holds over. -/
def sourceTimedOut (c : TimeSource) (s : State) : State :=
  match Tab.find s.time.accepted (sourceCode c) with
  | some t =>
    if t + sourceTimeout c ≤ s.el then
      (s.setTime { s.time with accepted := Tab.del s.time.accepted (sourceCode c) }).selectSource
    else s
  | none => s
/-- SOURCE_TIMEOUT. -/
def execSourceTimeout (c : TimeSource) (s : State) : Out := .next (sourceTimedOut c s)

/-- The first register of a bank, R75: the Keeper's and the Link processor's. -/
def bankBase (k : Nat) : Nat := if k = 0 then TB_XK0.addr else TB_XL0.addr

/-- GO of bank k, R73 and R83: what the bank holds is submitted, pending until Float takes it in this tick; a submission that
still waits there is replaced, and its RESULT reads NOT_USED. -/
def State.submit (s : State) (k : Nat) : State :=
  let base := bankBase k
  let x : Submission :=
    { d := signed 80 ((s.reg base).toNat + (s.reg (base + 4)).toNat * 2 ^ 32 + (s.reg (base + 8)).toNat % 65536 * 2 ^ 64)
      usq := uncSq (BitVec.ofNat 16 (s.fld (base + 12) TB_XK3.UNC))
      src := s.fld (base + 12) TB_XK3.SRC, force := s.fld (base + 12) TB_XK3.FORCE = 1 }
  (s.setFld (base + 12) TB_XK3.RESULT (if (Tab.find s.time.subs k).isSome then 2 else 0)).setTime
    { s.time with subs := Tab.put s.time.subs k x }

/-- A write of the GO word of a bank by the processor that owns it, R83. -/
def State.submitWrite (s : State) (owner p : Side) (k : Nat) (v : Word) : State :=
  let base := bankBase k
  s.access base (fun s =>
    if p ≠ owner then s
    else
      let s := s.setReg (base + 12) (writeWord TB_XK3.fields (s.reg (base + 12)) v)
      if fget v TB_XK3.GO = 1 then s.submit k else s)

/-- R71, R73: a host claim submitted through TB_XK0 to TB_XK3. -/
def claimSubmit (p : Side) (v : Word) (s : State) : State := s.submitWrite .keeper p 0 v
/-- CLAIM_SUBMIT. -/
def execClaimSubmit (p : Side) (v : Word) (s : State) : Out := .next (claimSubmit p v s)

/-- R73: a measurement submitted through TB_XL0 to TB_XL3, which the Link processor owns. -/
def measurementSubmit (p : Side) (v : Word) (s : State) : State := s.submitWrite .link p 1 v
/-- MEASUREMENT_SUBMIT. -/
def execMeasurementSubmit (p : Side) (v : Word) (s : State) : Out := .next (measurementSubmit p v s)

/-- R70, R71: a claim that no edge served within 2 s expires and is answered BUSY. -/
def claimExpiry (port : Fin 4) (s : State) : State :=
  match Tab.find s.time.claims port with
  | some c =>
    if c.since + 2000000000 ≤ s.el then
      let r := s.judgeClaim 0 0 false true
      (r.1.setTime { r.1.time with claims := Tab.del r.1.time.claims port }).claimReply port c r.2.1 r.2.2
    else s
  | none => s
/-- CLAIM_EXPIRY. -/
def execClaimExpiry (port : Fin 4) (s : State) : Out := .next (claimExpiry port s)

/-! ## Registers -/

/-- R78: GO commits the shadowed TB fields, which take effect at the next measurement. -/
def tbCommit (v : Word) (s : State) : State :=
  s.access TB_COMMIT.addr (fun s =>
    if fget v TB_COMMIT.GO = 1 then
      let s := (s.toPending 0x40001020 0x40001044).setTime { s.time with commitPending := true }
      s
    else s)
/-- TB_COMMIT. -/
def execTbCommit (_p : Side) (v : Word) (s : State) : Out := .next (tbCommit v s)

/-- R67, R76: the write sets FLOATEN, REFGATE and SRCEN; a continuous source whose bit is cleared is timed out at once,
and Float selects among those left; in WATCH and SKIM REFGATE 1 lowers REF_EN (R45). -/
def tbCtlWrite (v : Word) (s : State) : State :=
  s.access TB_CTL.addr (fun s =>
    let s := s.setReg TB_CTL.addr (writeWord TB_CTL.fields (s.reg TB_CTL.addr) v)
    let s := if s.lowMode ∧ s.fld TB_CTL.addr TB_CTL.REFGATE = 1 then s.setTime { s.time with refEn := false } else s
    let s := [TimeSource.pps, .gang, .scrim].foldl (fun s c =>
      if (s.reg TB_CTL.addr).getLsbD (sourceBit c) then s
      else s.setTime { s.time with accepted := Tab.del s.time.accepted (sourceCode c) }) s
    s.selectSource)
/-- TB_CTL_WRITE. -/
def execTbCtlWrite (_p : Side) (v : Word) (s : State) : Out := .next (tbCtlWrite v s)

/-- R79: a read of TB_NOW0 snapshots the current GTS for the reader, a read of TB_PPSCAP0 that of the last accepted PPS
edge, and returns bits [31:0]. -/
def tbNowSnapshot (p : Side) (cap : Bool) (s : State) : State :=
  s.access TB_CTL.addr (fun s =>
    let w := if cap then Tab.get [0, 0, 0] s.snaps ppsCapKey else gtsWords (s.stamp 0)
    (s.snapshot p (if cap then 0x40001044 else 0x40001010) w).returns (sideKey p) (w.headD 0))
/-- TB_NOW_SNAPSHOT. -/
def execTbNowSnapshot (p : Side) (cap : Bool) (s : State) : Out := .next (tbNowSnapshot p cap s)

/-- R85, R567: a write of EN 1 by a side that does not hold the engine is discarded and sets NOCLAIM. -/
def fictlWrite (p : Side) (n : Fin 16) (v : Word) (s : State) : State :=
  s.access (TB_FICTL.addr n) (fun s =>
    if fget v TB_FICTL.EN = 1 ∧ !s.sideHolds p 6 n then s.setFld (TB_FICTL.addr n) TB_FICTL.NOCLAIM 1
    else s.setReg (TB_FICTL.addr n) (writeWord TB_FICTL.fields (s.reg (TB_FICTL.addr n)) v))
/-- FICTL_WRITE. -/
def execFictlWrite (p : Side) (n : Fin 16) (v : Word) (s : State) : Out := .next (fictlWrite p n v s)

/-! ## The tick of an empty queue -/

/-- One nanosecond passes (log entry 2): the submissions of the tick, the Keeper's bank first (R73); the model's clock; while
the accumulator carries time, one 1 GHz tick with the rate correction and the slew (R44, R72); the crystal's phase, and at
each crystal tick the KEEP timekeeper (R54, R58); the rate term of the temperature bin (R61); the ticks of the timers
(R409). -/
def tick (s : State) : State :=
  let s := (s.serveSub 0).serveSub 1
  let t := s.time
  let corr := s.correction
  let acc := if t.keepCarries then t.acc else t.acc + BitVec.ofInt 104 (nominalStep + corr)
  let phase := t.xkPhase + 32768
  let keep :=
    if phase < 1000000000 then t.keep
    else if t.keepCarries then t.keep + BitVec.ofInt 104 (2 ^ 49 - t.keepCorr * 2 ^ 9)
    else acc - BitVec.ofNat 104 (0x44B82FA0A * (phase % 1000000000) / 32768)
  let sg := (s.sigma t.keepCarries s.crystalTemp).1
  let us (b : BitVec 104) : Nat := (top80 b).toNat * 1000000 / 2 ^ 40
  let usTick := us t.acc < us acc && s.tbus < us acc
  let s' := (s.timerTicks (decide (1000000000 ≤ phase)) usTick).coreTicks
  { s' with el := s.el + 1
            tbus := if t.keepCarries then s.tbus else max s.tbus (us acc)
            time := { t with acc, keep, xkPhase := phase % 1000000000, rateSum := t.rateSum + sg, slope := sg
                             past := if sg = t.slope then t.past else (s.uPoint t :: t.past).take 64
                             slewLeft := if t.keepCarries then t.slewLeft else t.slewLeft - (corr - s.freqPart) } }

end Sys2Proof.Machine
end

