-- ==== Sys2Proof/Machine/Flotex.lean ====
section
/-! DEFINITION. Flotex, the gang link, R476 to R486: frames and links, the lead, gang time and gang traffic. -/

namespace Sys2Proof.Machine

/-! ## Frames, R478 -/

/-- A frame as sent: version 1, its CRC most significant byte first. -/
def flxFrame (type route seq : Nat) (payload : List Byte) : List Byte :=
  let b := leBytes 1 (16 * type + 1) ++ leBytes 1 route ++ leBytes 1 payload.length ++ leBytes 1 seq ++ payload
  let c := crc16 b
  b ++ leBytes 1 (c / 256) ++ leBytes 1 c

/-- ROUTE: origin, destination, BCAST and hops travelled. -/
def flxRoute (origin dest : Nat) (bcast : Bool) (hops : Nat) : Nat :=
  origin % 4 * 64 + dest % 4 * 16 + b2n bcast * 8 + hops % 8

/-- Whether a frame's length and CRC are right. -/
def flxIntact (b : List Byte) : Bool :=
  let n := leAt b 2 1
  decide (n ≤ 64) && decide (b.length = n + 6) && decide (crc16 (b.take (n + 4)) = leAt b (n + 4) 1 * 256 + leAt b (n + 5) 1)

/-- The state with Flotex replaced. -/
def State.setFlx (s : State) (x : Flx) : State := { s with flx := x }
/-- Whether Flotex runs, R475 and R501: its domain is powered, its pads are and EN is 1. -/
def State.flxRuns (s : State) : Bool :=
  s.isOn 0x1200 && s.vioOk 2 && decide (s.fld FLX_CTL.addr FLX_CTL.EN = 1)
/-- FLX_A is up. -/
def State.flxA (s : State) : Bool := s.fld FLX_STATUS.addr FLX_STATUS.AUP = 1
/-- FLX_B is up. -/
def State.flxB (s : State) : Bool := s.fld FLX_STATUS.addr FLX_STATUS.BUP = 1
/-- This package leads. -/
def State.flxLeads (s : State) : Bool := s.fld FLX_STATUS.addr FLX_STATUS.LEAD = 1
/-- A lead is known: the gang has a version. -/
def State.flxLed (s : State) : Bool := s.fld FLX_STATUS.addr FLX_STATUS.VER ≠ 0
/-- This package's position. -/
def State.flxPos (s : State) : Nat := s.fld FLX_STATUS.addr FLX_STATUS.POS

/-- Flotex before a step that may send: nothing sent yet. -/
def State.flxQuiet (s : State) : State := s.setFlx { s.flx with out := [] }

/-- A frame sent on FLX_A, which must be up, R477 and R479. -/
def State.flxSend (s : State) (type route : Nat) (payload : List Byte) : State :=
  if s.flxRuns && s.flxA then
    s.setFlx { s.flx with out := s.flx.out ++ [flxFrame type route s.flx.seq payload], seq := (s.flx.seq + 1) % 256,
                          lastSent := s.el }
  else s

/-- A frame sent to every partner. -/
def State.flxBcast (s : State) (type : Nat) (payload : List Byte) : State :=
  s.flxSend type (flxRoute s.flxPos 0 true 0) payload

/-! ## Links and the lead, R479 to R481 -/

/-- No lead is known: version, size, position and lead identity 0. -/
def State.leadGone (s : State) : State :=
  let s := s.setReg FLX_STATUS.addr (pack [(FLX_STATUS.AUP, b2n s.flxA), (FLX_STATUS.BUP, b2n s.flxB)])
  let s := (s.setReg FLX_LEADID0.addr 0).setReg FLX_LEADID1.addr 0
  s.setFlx { s.flx with claim := none, best := none }

/-- The gang is known to be a chain at a package with one link up and one down, R481 (log entry 40). -/
def State.markChain (s : State) : State :=
  s.setFld FLX_STATUS.addr FLX_STATUS.CHAIN (b2n (s.flxLed && (s.flxA != s.flxB)))

/-- FLX_LINK_A or FLX_LINK_B raised, R536: the unit and the detail hold the lead's identity word. -/
def State.flxDown (s : State) (a : Bool) : State :=
  let up := if a then s.flxA else s.flxB
  let s := s.setFld FLX_STATUS.addr (if a then FLX_STATUS.AUP else FLX_STATUS.BUP) 0
  let s := s.setFlx (if a then { s.flx with leadAt := none, claim := none } else { s.flx with trains := 0, crcRun := 0, best := none })
  if up then
    let s := s.bump FLX_STAT.addr FLX_STAT.DOWN 1
    let s := s.raiseFault 5 (if a then 0x40 else 0x41) (s.reg FLX_LEADID0.addr).toNat (s.reg FLX_LEADID1.addr).toNat
    if a && s.flxLeads then s.leadGone else s.markChain
  else s

/-- This package becomes lead, at position 0, in gang version 1 (the only one that revision 0x10 supports, R479). -/
def State.takeLead (s : State) (size : Nat) : State :=
  let s := s.setReg FLX_STATUS.addr (pack [(FLX_STATUS.AUP, b2n s.flxA), (FLX_STATUS.BUP, b2n s.flxB),
    (FLX_STATUS.LEAD, 1), (FLX_STATUS.VER, 1), (FLX_STATUS.SIZE, size)])
  let s := (s.setReg FLX_LEADID0.addr (identityWord.extractLsb' 0 32)).setReg FLX_LEADID1.addr (identityWord.extractLsb' 32 32)
  (s.setFlx { s.flx with claim := none, best := none }).markChain

/-- R480: one claim, as priority and identity word, is preferred to another. -/
def claimPreferred (a b : Nat × Nat) : Bool := b.1 < a.1 || (a.1 == b.1 && decide (a.2 < b.2))

/-- The payload of a LEAD frame: the identity word and the priority, 12 bytes in all (R480's 18-byte frames; log
entry 41). -/
def leadPayload (c : Nat × Nat) : List Byte := leBytes 8 c.2 ++ leBytes 4 c.1

/-- R479: the link FLX_A comes up at the sender, RDY having been high for 100 µs. -/
def flxSenderUp (s : State) : State :=
  if s.flxRuns && !s.flxA then
    let s := s.setFld FLX_STATUS.addr FLX_STATUS.AUP 1
    (s.setFlx { s.flx with aUpAt := s.el, lastSent := s.el, leadAt := none, delays := [] }).markChain
  else s
/-- FLX_SENDER_UP. -/
def execFlxSenderUp (s : State) : Out := .next (flxSenderUp s)

/-- R479: a link goes down, STB having been idle for 1 ms (FLX_B) or RDY low for 1 ms (FLX_A). -/
def flxLinkDown (a : Bool) (s : State) : State := if s.flxRuns then s.flxDown a else s
/-- FLX_LINK_DOWN. -/
def execFlxLinkDown (a : Bool) (s : State) : Out := .next (flxLinkDown a s)

/-- R479: a TRAIN frame after 100 µs in which nothing was sent: the identity word and the highest version. -/
def train (s : State) : State :=
  if s.flxRuns && s.flxA && decide (s.flx.lastSent + 100000 ≤ s.el) then
    s.flxQuiet.flxSend 0 (flxRoute s.flxPos (s.flxPos + 1) false 0) (leBytes 8 identityWord.toNat ++ [1])
  else s
/-- TRAIN. -/
def execTrain (s : State) : Out := .next (train s)

/-- R480: when a package sends its claim: with LEADREQ as FLX_A comes up and every 1 s while no lead is seen; with LEADOK
alone after 2 s without a SYNC frame. none while it makes no claim. -/
def State.claimDue (s : State) : Option Nat :=
  if s.flxLed then none
  else if s.fld FLX_CTL.addr FLX_CTL.LEADREQ = 1 then
    if s.flx.leadAt.all (fun t => t + 1000000000 ≤ s.el) then some 1 else none
  else if s.fld FLX_CTL.addr FLX_CTL.LEADOK = 1 ∧ max s.flx.lastSync s.flx.aUpAt + 2000000000 ≤ s.el then
    if s.flx.leadAt.all (fun t => t + 1000000000 ≤ s.el) then some 0 else none
  else none

/-- R480: a package sends its LEAD frame. -/
def lead (s : State) : State :=
  if s.flxRuns && s.flxA then
    match s.claimDue with
    | some pri =>
      let c := (pri, identityWord.toNat)
      let s := s.flxQuiet.flxBcast 1 (leadPayload c)
      s.setFlx { s.flx with claim := some c, leadAt := some s.el }
    | none => s
  else s
/-- LEAD. -/
def execLead (s : State) : Out := .next (lead s)

/-- R481: the head of a chain, FLX_A up for 1 s while FLX_B is down, becomes lead at once with LEADREQ or LEADOK. It cannot
learn the size of the gang, which is a free value of 1 to 4 (log entry 40). -/
def chainHeadLead (s : State) : State :=
  if s.flxRuns && s.flxA && !s.flxB && !s.flxLeads && decide (s.flx.aUpAt + 1000000000 ≤ s.el) &&
      (decide (s.fld FLX_CTL.addr FLX_CTL.LEADREQ = 1) || decide (s.fld FLX_CTL.addr FLX_CTL.LEADOK = 1)) then
    (s.drawn).takeLead (Config.freeNat s.free % 4 + 1)
  else s
/-- CHAIN_HEAD_LEAD. -/
def execChainHeadLead (s : State) : Out := .next (chainHeadLead s)

/-- R481: a follower that has seen no SYNC frame for 1 s treats the lead as lost. -/
def leadLost (s : State) : State :=
  if s.flxRuns && s.flxLed && !s.flxLeads && decide (s.flx.lastSync + 1000000000 ≤ s.el) then s.leadGone else s
/-- LEAD_LOST. -/
def execLeadLost (s : State) : Out := .next (leadLost s)

/-! ## Gang time, R482 and R483 -/

/-- R482: the lead and every follower launch a SYNC frame at each instant k × 125 ms of their own local time. -/
def sync (s : State) : State :=
  let k := s.now.toNat / 2 ^ 37
  if s.flxRuns && s.flxA && s.flxLed && decide (s.flx.syncSent ≠ k) then
    let payload := gtsBytes (s.stampAt (BitVec.ofNat 80 (k * 2 ^ 37)) 0) ++
      leBytes 2 (s.fld FLX_DELAY.addr FLX_DELAY.PS) ++ leBytes 4 (s.reg FLX_LEADID0.addr).toNat ++
      leBytes 4 (s.reg FLX_LEADID1.addr).toNat ++
      leBytes 1 (s.fld FLX_STATUS.addr FLX_STATUS.VER * 16 + s.fld FLX_STATUS.addr FLX_STATUS.SIZE) ++ leBytes 1 s.flxPos
    let s := s.flxQuiet.flxSend 2 (flxRoute s.flxPos (s.flxPos + 1) false 0) payload
    s.setFlx { s.flx with syncSent := k }
  else s
/-- SYNC. -/
def execSync (s : State) : Out := .next (sync s)

/-- R482: the sender captures the RDY echo, round ps after the launch; the link delay is half of that less 100 ns and the
pad constant, averaged over the latest 8. -/
def rdyEchoCapture (round : Nat) (s : State) : State :=
  if s.flxRuns && s.flxA && decide (s.flx.syncSent ≠ 0) then
    let l := ((round - 100000 - Config.flxPadPs) / 2 :: s.flx.delays).take 8
    let s := s.setFlx { s.flx with delays := l }
    s.setFld FLX_DELAY.addr FLX_DELAY.PS (min 0xFFFF (l.foldl (· + ·) 0 / l.length))
  else s
/-- RDY_ECHO_CAPTURE. -/
def execRdyEchoCapture (round : Nat) (s : State) : Out := .next (rdyEchoCapture round s)

/-- A span of ps in FRAC units, rounded to the nearest. -/
def psToFrac (ps : Nat) : Nat := (ps * 2 ^ 40 + 500000000000) / 1000000000000

/-- A measurement submitted through the TB_XL bank, R73. -/
def State.submitLink (s : State) (src : Nat) (d : Int) (unc : BitVec 16) : State :=
  let n := wrap 80 d
  let s := (s.setReg TB_XL0.addr (Word.ofNat n)).setReg TB_XL1.addr (Word.ofNat (n / 2 ^ 32))
  let s := s.setReg TB_XL2.addr (Word.ofNat (n / 2 ^ 64))
  let s := s.setReg TB_XL3.addr (pack [(TB_XL3.SRC, src), (TB_XL3.UNC, unc.toNat)])
  s.submit 1

/-- A SYNC frame whose first STB edge came ago ps before: RDY echoes, and a follower takes its position, the gang's version,
size and lead from it and submits its measurement, R482 and R483. A lead takes nothing from one (R481). -/
def State.takeSync (s : State) (p : List Byte) (ago : Nat) : State :=
  let s := s.setFlx { s.flx with echoAt := some (s.el - ago / 1000 + 100) }
  if s.flxLeads then s
  else
    let g := gtsOfBytes (Machine.slice p 0 12)
    let vs := leAt p 22 1
    let s := s.setFld FLX_STATUS.addr FLX_STATUS.VER (vs / 16)
    let s := s.setFld FLX_STATUS.addr FLX_STATUS.SIZE (vs % 8)
    let s := s.setFld FLX_STATUS.addr FLX_STATUS.POS (leAt p 23 1 + 1)
    let s := (s.setReg FLX_LEADID0.addr (Word.ofNat (leAt p 14 4))).setReg FLX_LEADID1.addr (Word.ofNat (leAt p 18 4))
    let s := (s.setFlx { s.flx with lastSync := s.el, claim := none, best := none }).markChain
    let capture := s.now - BitVec.ofNat 80 (psToFrac ago)
    let d := (g.t + BitVec.ofNat 80 (psToFrac (leAt p 12 2)) - capture).toInt
    s.submitLink 2 d (encodeUnc (uncSq g.unc + 100 * 100))

/-! ## Gang traffic, R485 and R486 -/

/-- The answer to a MESH_SEND to a partner: the handle is a free value, which the spec gives no use for (log entry 42). -/
def State.gangReply (s : State) (n : Nat) (m : Msg) (status : Nat) : State :=
  if status = stOk then (s.drawn).reply n m status ([0, 0] ++ leBytes 4 (Config.freeNat s.free)) else s.reply n m status []

/-- A message of R358 whose FLAGS bit 1 is 0, by its DKIND. -/
def meshSend (kind : Nat) (m : Msg) : Bool := m.op = 0x53 ∧ m.at 0 1 = kind ∧ m.at 1 1 / 2 % 2 = 0
/-- The data bytes of a MESH_SEND. -/
def Msg.data (m : Msg) : List Byte := (m.payload.drop 8).take (m.len - 8)

/-- R485: data for a core of the partner at a position, as an MBX frame. -/
def meshSendGang (port : Fin 4) (s : State) : State :=
  s.flxQuiet.serve port (meshSend 3) (fun _ m s =>
    let dest := m.at 2 2
    let pos := dest / 256 % 4
    if !s.flxRuns || !s.flxA || !s.flxLed || decide (s.fld FLX_STATUS.addr FLX_STATUS.SIZE ≤ pos) ||
        decide (16 ≤ dest % 32) then s.gangReply port m stNoResource
    else
      let frame := leBytes 1 (dest % 32) ++ Machine.slice m.data 1 32
      let s := s.flxSend 3 (flxRoute s.flxPos pos false 0) frame
      s.setFlx { s.flx with waiting := s.flx.waiting ++ [{ port, seq := m.seq, pos, frame, sentAt := s.el, sends := 1 }] })
/-- MESH_SEND_GANG. -/
def execMeshSendGang (port : Fin 4) (s : State) : Out := .next (meshSendGang port s)

/-- The answer to a waiting MBX frame's MESH_SEND. -/
def State.mbxDone (s : State) (w : MbxOut) (status : Nat) : State :=
  (s.setFlx { s.flx with waiting := s.flx.waiting.erase w }).gangReply w.port
    { seq := w.seq, op := 0x53, lens := [], payload := [] } status

/-- R485: an MBX frame not answered within 100 µs is sent once more; the second unanswered gives NO_RESOURCE. -/
def mbxResend (s : State) : State :=
  match s.flx.waiting.find? (fun w => w.sentAt + 100000 ≤ s.el) with
  | none => s
  | some w =>
    if w.sends < 2 then
      let s := s.flxQuiet.flxSend 3 (flxRoute s.flxPos w.pos false 0) w.frame
      s.setFlx { s.flx with waiting := s.flx.waiting.map (fun x => if x = w then { w with sentAt := s.el, sends := 2 } else x) }
    else s.mbxDone w stNoResource
/-- MBX_RESEND. -/
def execMbxResend (s : State) : Out := .next (mbxResend s)

/-- A frame addressed to this position, or to all, taken. -/
def State.takeFrame (s : State) (type origin : Nat) (p : List Byte) : State :=
  match type with
  | 3 =>
    let c := leAt p 0 1
    if 16 ≤ c then s
    else match s.deliverMbx c (Machine.slice p 1 32) with
      | some s' => s'.flxSend 4 (flxRoute s.flxPos origin false 0) (leBytes 1 stOk)
      | none => s.flxSend 4 (flxRoute s.flxPos origin false 0) (leBytes 1 stBusy)
  | 4 =>
    match s.flx.waiting.find? (fun w => w.pos = origin) with
    | some w => s.mbxDone w (leAt p 0 1)
    | none => s
  | 5 => s.alarm 1 (Machine.slice p 0 24)
  | _ => s

/-- A claim arriving, R480: this package's own, come back round the ring, makes it lead; one to which no pending claim is
preferred goes on, and withdraws this package's own. A lead passes none on (R481). -/
def State.takeClaim (s : State) (route : Nat) (p : List Byte) : State :=
  let c := (leAt p 8 1, leAt p 0 8)
  let hops := route % 8
  if s.flxLeads then s
  else if c.2 = identityWord.toNat then
    if s.flx.claim.isSome then s.takeLead (hops + 1) else s
  else if s.flx.claim.any (fun o => claimPreferred o c) || s.flx.best.any (fun o => claimPreferred o c) then s
  else
    let s := s.setFlx { s.flx with claim := none, best := some c }
    if hops < 3 then s.flxSend 1 (route + 1) p else s

/-- R478, R479, R482, R483: a frame received on FLX_B, its first STB edge ago ps before. -/
def flxFrameReceive (b : List Byte) (ago : Nat) (s : State) : State :=
  if !s.flxRuns then s
  else
    let s := s.flxQuiet
    if !flxIntact b then
      let s := s.bump FLX_STAT.addr FLX_STAT.CRCERR 1
      let s := s.setFlx { s.flx with trains := 0, crcRun := s.flx.crcRun + 1 }
      if s.flx.crcRun = 4 then s.flxDown false else s
    else
      let s := s.setFlx { s.flx with crcRun := 0 }
      let type := leAt b 0 1 / 16
      let route := leAt b 1 1
      let p := (b.drop 4).take (leAt b 2 1)
      if 1 < leAt b 0 1 % 16 then s.bump FLX_STAT.addr FLX_STAT.VERDISC 1
      else if 5 < type then s
      else if type = 0 then
        let n := s.flx.trains + 1
        let s := s.setFlx { s.flx with trains := n }
        if 8 ≤ n ∧ !s.flxB then (s.setFld FLX_STATUS.addr FLX_STATUS.BUP 1).markChain else s
      else
        let s := s.setFlx { s.flx with trains := 0 }
        if !s.flxB then s
        else if type = 1 then s.takeClaim route p
        else if type = 2 then s.takeSync p ago
        else
          let origin := route / 64 % 4
          let dest := route / 16 % 4
          let bcast := decide (route / 8 % 2 = 1)
          if origin = s.flxPos then s
          else
            let mine := decide (dest = s.flxPos)
            let s' := if bcast || mine then s.takeFrame type origin p else s
            if (bcast || !mine) && decide (route % 8 < 3) then s'.flxSend type (route + 1) p else s'
/-- FLX_FRAME_RECEIVE. -/
def execFlxFrameReceive (b : List (BitVec 8)) (ago : Nat) (s : State) : Out := .next (flxFrameReceive b ago s)

end Sys2Proof.Machine
end

