-- ==== Sys2Proof/Machine/Scrim.lean ====
section
/-! DEFINITION. Scrim, the mesh between packages, R474 and R487 to R500. A frame is kept as its fields; whether its MIC
verifies is one of them (log entry 10). -/

namespace Sys2Proof.Machine

/-- The state with the mesh replaced. -/
def State.setMesh (s : State) (m : Mesh) : State := { s with mesh := m }
/-- A step of the mesh that may transmit: nothing handed to the radio yet. -/
def State.radioQuiet (s : State) : State := s.setMesh { s.mesh with radio := [] }

/-- The mesh step of a running node: Scrim runs and its domain is powered, R475. -/
def State.withMesh (s : State) (f : Profile → State → State) : State :=
  match s.sec.profile with
  | some p => if s.mesh.running && s.works 0x1200 then f p s.radioQuiet else s
  | none => s

/-! ## Transmission, R487 to R489 -/

/-- R525: before a frame is formed after a tamper latch is set, SEC empties both domain-key slots. -/
def State.zeroize (s : State) : State :=
  if s.sec.tampered then { s with sec := { s.sec with domKeys := [], tampered := false } } else s

/-- A frame handed to the radio under the lowest key slot that holds a key, with the next frame counter; the counter goes
on in a further block of 65,536 where its block is used up, and never repeats (R489). -/
def State.transmit (s : State) (p : Profile) (rx left : Nat) (body : ScrimBody) : State :=
  let s := s.zeroize
  match [0, 1].find? (fun k => (Tab.find s.sec.domKeys k).isSome) with
  | none => s
  | some slot =>
    let m := s.mesh
    if 2 ^ 32 ≤ m.fc then s
    else
      let f : ScrimFrame := { slot, left, domain := p.domain, tx := p.node, rx, fc := m.fc, mic := true, body }
      s.setMesh { m with fc := m.fc + 1, fcEnd := if m.fc + 1 = m.fcEnd then m.fcEnd + 65536 else m.fcEnd,
                         radio := m.radio ++ [f] }

/-- A frame to every neighbour, R487. -/
def State.transmitAll (s : State) (p : Profile) (left : Nat) (body : ScrimBody) : State := s.transmit p 0xFFFF left body

/-- A message's origin and number marked as seen, among the latest 256, R493. -/
def State.sawMsg (s : State) (k : Nat × Nat) : State := s.setMesh { s.mesh with seen := (k :: s.mesh.seen).take 256 }

/-- A flood begun here: body takes the next message number. -/
def State.flood (s : State) (p : Profile) (body : Nat → ScrimBody) : State :=
  let k := (s.mesh.msgs + 1) % 65536
  let s := s.setMesh { s.mesh with msgs := k }
  (s.sawMsg (p.node, k)).transmitAll p (Config.meshHops % 32) (body k)

/-! ## Neighbours and the tree, R490 to R493 -/

/-- Whether this node is at hop 0: GATEWAY is set and Float holds U_clk below 1 µs. -/
def State.atRoot (s : State) (p : Profile) : Bool :=
  p.gateway && decide (s.time.state ≠ .unset) && decide (s.uclkSq < 10 ^ 12)

/-- R493: one neighbour is preferred as parent to another: fewest hops, then lowest U_clk, then lowest node ID. -/
def parentBefore (a b : Neigh) : Bool :=
  decide (a.hops < b.hops) || (a.hops == b.hops &&
    (decide (decodeUnc a.unc < decodeUnc b.unc) || (decodeUnc a.unc == decodeUnc b.unc && decide (a.node < b.node))))

/-- The neighbour that R493 takes as parent, among those less than 16 hops from a gateway. -/
def bestParent (l : List Neigh) : Option Neigh :=
  l.foldl (fun b n => if n.hops < 16 ∧ b.all (fun x => parentBefore n x) then some n else b) none

/-- The parent and hops taken anew, R493: the parent changes only when it is gone or beyond the tree, or when another has
at least two fewer hops. -/
def State.settleTree (s : State) (p : Profile) : State :=
  let m := s.mesh
  if s.atRoot p then s.setMesh { m with parent := none, hops := 0 }
  else
    let cur := m.parent.bind (fun n => m.neigh.find? (fun x => x.node = n ∧ x.hops < 16))
    let best := bestParent m.neigh
    let chosen := match cur, best with
      | some c, some b => if b.hops + 2 ≤ c.hops then some b else some c
      | some c, none => some c
      | none, b => b
    match chosen with
    | some n => s.setMesh { m with parent := some n.node, hops := n.hops + 1 }
    | none => s.setMesh { m with parent := none, hops := 0x1F }

/-- A node has joined when it is at hop 16 or less, R493. -/
def State.joined (s : State) : Bool := s.mesh.running && decide (s.mesh.hops ≤ 16)

/-- SCR_STATUS, R501. -/
def State.scrStatus (s : State) : Word :=
  pack [(SCR_STATUS.JOINED, b2n s.joined), (SCR_STATUS.HOPS, s.mesh.hops),
    (SCR_STATUS.NODE, (s.sec.profile.map (·.node)).getD 0)]
/-- SCR_NEIGH, R501. -/
def State.scrNeigh (s : State) : Word := pack [(SCR_NEIGH.COUNT, s.mesh.neigh.length)]
/-- SCR_COAL, R501. -/
def State.scrCoal (s : State) : Word := pack [(SCR_COAL.INUSE, s.mesh.table.length)]

/-- A neighbour entered, R491 and R492: where the table is full it replaces the entry heard least recently, the parent and
the nodes whose parent is this node excepted; where none is left it is counted in NOROOM. -/
def State.enterNeigh (s : State) (p : Profile) (n : Neigh) : State :=
  let m := s.mesh
  if m.neigh.length < 256 then s.setMesh { m with neigh := m.neigh ++ [n] }
  else
    let free := m.neigh.filter (fun x => m.parent ≠ some x.node ∧ x.parent ≠ p.node)
    match free.foldl (fun (b : Option Neigh) x => if b.all (fun y => decide (x.heard < y.heard)) then some x else b) none with
    | some x => s.setMesh { m with neigh := m.neigh.erase x ++ [n] }
    | none => s.bump SCR_STAT.addr SCR_STAT.NOROOM 1

/-- The replay check of R491: the entry with the frame counter accepted, or none for a replay. -/
def Neigh.accept (n : Neigh) (fc : Nat) : Option Neigh :=
  if n.fc < fc then
    let k := fc - n.fc
    let w : BitVec 32 := if 33 ≤ k then 0 else (n.window <<< k) ||| BitVec.ofNat 32 (2 ^ (k - 1))
    some { n with fc, window := w }
  else if n.fc = fc ∨ 33 ≤ n.fc - fc then none
  else
    let i := n.fc - fc - 1
    if n.window.getLsbD i then none else some { n with window := n.window ||| BitVec.ofNat 32 (2 ^ i) }

/-- The entry of a node. -/
def State.neighbour (s : State) (node : Nat) : Option Neigh := s.mesh.neigh.find? (fun x => x.node = node)
/-- An entry replaced. -/
def State.setNeigh (s : State) (n : Neigh) : State :=
  s.setMesh { s.mesh with neigh := s.mesh.neigh.map (fun x => if x.node = n.node then n else x) }

/-! ## Roles and epochs, R496 -/

/-- The epoch of a role in the table, 0 for a role unknown. -/
def State.roleEpoch (s : State) (r : Nat) : Nat := (Tab.get (0, 0) s.mesh.roles r).2
/-- This node's mesh epoch, that of the role it holds. -/
def State.ownEpoch (s : State) : Nat := (s.mesh.role.map s.roleEpoch).getD 0

/-- A role, its holder and its epoch learned from a beacon or a ROLE frame: a higher epoch replaces the entry; with equal
epochs the lower node ID keeps the role; a node drops the role that another has taken. Role 0 clears what its sender held
(log entry 43). A 513th role is not entered. -/
def State.learnRole (s : State) (p : Profile) (r holder epoch : Nat) : State :=
  let m := s.mesh
  if r = 0 then
    s.setMesh { m with roles := m.roles.map (fun e => if e.2.1 = holder then (e.1, (0xFFFF, e.2.2)) else e) }
  else
    match Tab.find m.roles r with
    | none => if m.roles.length < 512 then s.setMesh { m with roles := Tab.put m.roles r (holder, epoch) } else s
    | some (h, e) =>
      if e < epoch ∨ (e = epoch ∧ holder < h) then
        let m := { m with roles := Tab.put m.roles r (holder, epoch) }
        s.setMesh (if m.role = some r ∧ holder ≠ p.node then { m with role := none } else m)
      else s

/-- The ROLE frame that a node floods for the role it holds, or for role 0. -/
def State.floodRole (s : State) (p : Profile) : State :=
  let r := s.mesh.role.getD 0
  let e := s.ownEpoch
  let s := s.flood p (fun k => .role p.node k p.node r e)
  s.setMesh { s.mesh with roleAt := s.el }

/-! ## Reports, R498 to R500 -/

/-- Two reports of one subject merged, R499. The hops of reports that travelled differently are a free value. -/
def mergeReports (hops : Nat) (a b : MeshRep) : MeshRep :=
  let early := if b.gts.t.toNat < a.gts.t.toNat then b else a
  { gts := early.gts, subj := a.subj, cause := a.cause, epoch := a.epoch, count := min 0xFFFF (a.count + b.count),
    flags := (a.flags ||| b.flags ||| 1) ||| (if 0xFFFF < a.count + b.count then 2 else 0),
    hops := if a.hops = b.hops then a.hops else hops, first := early.first }

/-- The entry of a report's key, R499. -/
def sameKey (a b : MeshRep) : Bool := a.subj == b.subj && a.cause == b.cause && a.epoch == b.epoch

/-- A report merged into an entry. -/
def State.mergeInto (s : State) (e : RepEntry) (r : MeshRep) : State :=
  let x := { e with rep := mergeReports (Config.freeNat s.free % 256) e.rep r }
  (s.drawn).setMesh { s.mesh with table := s.mesh.table.map (fun y => if y = e then x else y) }

/-- The entries of a subject, the oldest first. -/
def State.entriesOf (s : State) (subj : Nat) : List RepEntry := s.mesh.table.filter (fun e => e.rep.subj = subj)

/-- An entry opened, its window closing W ms after the arrival on local time. -/
def State.openEntry (s : State) (p : Profile) (r : MeshRep) : State :=
  let m := s.mesh
  s.setMesh { m with orders := m.orders + 1, table := m.table ++
    [{ rep := r, closeAt := s.now.toNat + ceilDiv (p.window * 2 ^ 40) 1000, ready := false, order := m.orders }] }

/-- A report as MIXED, with the higher epoch of two. -/
def mixed (epoch : Nat) (r : MeshRep) : MeshRep := { r with cause := 0xFFFF, epoch := max epoch r.epoch }

/-- A report sent to the parent, or delivered by the gateway as an alarm, R498 and R499. -/
def State.forwardReport (s : State) (p : Profile) (r : MeshRep) : State :=
  let body (r : MeshRep) : List Byte :=
    gtsBytes r.gts ++ leBytes 2 r.subj ++ leBytes 2 r.cause ++ leBytes 2 r.epoch ++ leBytes 2 r.count ++ leBytes 1 r.flags ++
      leBytes 1 r.hops ++ leBytes 2 r.first
  if s.mesh.hops = 0 then s.alarm 1 (body r)
  else match s.mesh.parent with
    | some n => s.transmit p n 0 (.report { r with hops := r.hops + 1 })
    | none => s

/-- A subject that holds the most entries of the table, the lowest such. -/
def State.fullest (s : State) : Option (Nat × Nat) :=
  s.mesh.table.foldl (fun (b : Option (Nat × Nat)) e =>
    let k := (s.entriesOf e.rep.subj).length
    if b.all (fun x => decide (x.2 < k) || (x.2 == k && decide (e.rep.subj < x.1))) then some (e.rep.subj, k) else b) none

/-- R499, R500: a report arriving, this node's own included, is merged by its key, or as MIXED beyond its subject's quota, or
opens an entry; a full table frees one, or sends the report at once with OVF. -/
def State.takeReport (s : State) (p : Profile) (r : MeshRep) : State :=
  match s.mesh.table.find? (fun e => sameKey e.rep r) with
  | some e => s.mergeInto e r
  | none =>
    let own := s.entriesOf r.subj
    if p.quota ≤ own.length ∧ own ≠ [] then
      match own.find? (fun e => e.rep.cause = 0xFFFF) with
      | some e =>
        let e' := { e with rep := mixed r.epoch e.rep }
        (s.setMesh { s.mesh with table := s.mesh.table.map (fun y => if y = e then e' else y) }).mergeInto e' r
      | none =>
        match own with
        | [] => s
        | e :: _ =>
          let e' := { e with rep := mixed r.epoch e.rep }
          (s.setMesh { s.mesh with table := s.mesh.table.map (fun y => if y = e then e' else y) }).mergeInto e' r
    else if s.mesh.table.length < 4096 then s.openEntry p r
    else
      match s.fullest with
      | some (subj, k) =>
        match decide (2 ≤ k), s.entriesOf subj with
        | true, a :: b :: _ =>
          let x := { a with rep := mergeReports (Config.freeNat s.free % 256) (mixed b.rep.epoch a.rep) b.rep }
          let t := (s.mesh.table.erase b).map (fun y => if y = a then x else y)
          ((s.drawn).setMesh { s.mesh with table := t }).openEntry p r
        | _, _ => (s.bump SCR_STAT.addr SCR_STAT.OVF 1).forwardReport p { r with flags := r.flags ||| 4 }
      | none => s

/-- A report that arises here, R498. -/
def State.raiseReport (s : State) (p : Profile) (subj cause epoch : Nat) : State :=
  s.takeReport p { gts := s.stamp pathCoarse, subj, cause, epoch, count := 1, flags := 0, hops := 0, first := p.node }

/-- The neighbours not heard for LOSTN × BEACON s, R491. -/
def State.staleNeigh (s : State) (p : Profile) : List Neigh :=
  s.mesh.neigh.filter (fun n => n.heard + p.lostn * p.beacon * 1000000000 < s.el)

/-! ## Messages, R497 -/

/-- A report of FAULT at level 6 about a message, R497: its handle as unit. -/
def State.meshFault (s : State) (cause handle detail : Nat) : State := s.raiseFault 6 cause handle detail

/-- Data for a core delivered: byte 0 names it, bytes 1 to 32 go to its MBX_IN. The Bool is whether it was taken. -/
def State.deliverData (s : State) (b : List Byte) : State × Bool :=
  let c := leAt b 0 1
  if 16 ≤ c then (s, false)
  else match s.deliverMbx c (Machine.slice b 1 32) with
    | some s' => (s', true)
    | none => (s, false)

/-- A DATA frame's message at this node: delivered where it is the destination, with an ACK where one is asked for; a role
held under another epoch floods a RETURN. The Bool is whether the message was delivered here. -/
def State.arriveData (s : State) (p : Profile) (origin msg dkind dest epoch : Nat) (ack : Bool) (b : List Byte) :
    State × Bool :=
  let deliver : State × Bool :=
    let r := s.deliverData b
    if ack && origin != p.node then (r.1.flood p (fun k => .ack p.node k origin msg (!r.2)), r.2) else r
  if dkind = 0 then (if dest = p.node then deliver else (s, false))
  else if s.mesh.role = some dest then
    if s.ownEpoch = epoch then deliver
    else
      let e := s.ownEpoch
      (s.flood p (fun k => .returned p.node k origin msg e p.node), false)
  else (s, false)

/-- The handle of the message that was sent under a number, among the latest 256 (log entry 44). -/
def State.sentHandle (s : State) (k : Nat) : Option Nat := (s.mesh.sent.find? (fun e => e.1 = k)).map (·.2)

/-- A RETURN for a message sent here, R497: it is sent no more, and MESH_STALE carries the holder's epoch and node ID. -/
def State.takeReturn (s : State) (h epoch node : Nat) : State :=
  (s.setMesh { s.mesh with queue := s.mesh.queue.filter (fun q => q.handle ≠ h) }).meshFault 0x0051 h (epoch * 65536 + node)

/-- A send of a queued message, each under a message number of its own (log entry 44). -/
def State.sendMsg (s : State) (p : Profile) (q : MeshMsg) : State :=
  let s := s.flood p (fun k => .data p.node k q.dkind q.dest q.epoch q.ack q.data)
  let q' := { q with msg := s.mesh.msgs, sentAt := s.el, sends := q.sends + 1 }
  let s := s.setMesh { s.mesh with sent := ((s.mesh.msgs, q.handle) :: s.mesh.sent).take 256 }
  let r := s.arriveData p p.node q'.msg q.dkind q.dest q.epoch q.ack q.data
  let s := r.1
  if q.dkind ≠ 0 ∧ s.mesh.role = some q.dest ∧ s.ownEpoch ≠ q.epoch then s.takeReturn q.handle s.ownEpoch p.node
  else if q.ack && !r.2 then s.setMesh { s.mesh with queue := s.mesh.queue ++ [q'] } else s

/-- A queued message sent again, or given up after three sends with MESH_UNDELIVERED, R497. -/
def State.resendMsg (s : State) (p : Profile) (q : MeshMsg) : State :=
  let s := s.setMesh { s.mesh with queue := s.mesh.queue.erase q }
  if q.sends < 3 then s.sendMsg p q else s.meshFault 0x0052 q.handle 0

/-- R497: a message of a port to a node or a role. -/
def State.meshSend (s : State) (n : Nat) (m : Msg) (dkind : Nat) : State :=
  match s.sec.profile with
  | none => s.reply n m stNoResource []
  | some p =>
    if !s.isOn 0x1200 || !s.joined then s.reply n m stNoResource []
    else if dkind = 1 ∧ m.at 4 2 ≠ s.roleEpoch (m.at 2 2) then
      s.reply n m stStaleRole (leBytes 2 (s.roleEpoch (m.at 2 2)) ++ leBytes 2 (s.roleEpoch (m.at 2 2)) ++ [0xFF])
    else if 16 ≤ s.mesh.queue.length then s.reply n m stBusy []
    else
      let c := (s.mesh.handles + 1) % 65536
      let s := s.setMesh { s.mesh with handles := c }
      let h := n * 2 ^ 30 + c
      (s.sendMsg p { handle := h, port := n, msg := 0, dkind, dest := m.at 2 2, epoch := m.at 4 2,
                     ack := decide (m.at 1 1 % 2 = 1), data := m.data, sentAt := s.el, sends := 0 }).reply n m stOk
        ([0, 0] ++ leBytes 4 h)

/-- R497: MESH_SEND to a node. -/
def meshSendNode (port : Fin 4) (s : State) : State :=
  s.radioQuiet.serve port (meshSend 0) (fun _ m s => s.meshSend port m 0)
/-- MESH_SEND_NODE. -/
def execMeshSendNode (port : Fin 4) (s : State) : Out := .next (meshSendNode port s)

/-- R497: MESH_SEND to the node holding a role. -/
def meshSendRole (port : Fin 4) (s : State) : State :=
  s.radioQuiet.serve port (meshSend 1) (fun _ m s => s.meshSend port m 1)
/-- MESH_SEND_ROLE. -/
def execMeshSendRole (port : Fin 4) (s : State) : Out := .next (meshSendRole port s)

/-- R498: a host-defined report, of the subject in data bytes 0 and 1 and the cause in bytes 2 and 3. The epoch of a subject
that is neither this node nor a neighbour is a free value, as is the handle of the reply (log entry 42). -/
def meshSendReport (port : Fin 4) (s : State) : State :=
  s.radioQuiet.serve port (fun m => m.op = 0x53 ∧ m.at 1 1 / 2 % 2 = 1) (fun _ m s =>
    match s.sec.profile with
    | none => s.reply port m stNoResource []
    | some p =>
      if !s.isOn 0x1200 || !s.mesh.running then s.reply port m stNoResource []
      else
        let subj := m.at 8 2
        let epoch := if subj = p.node then s.ownEpoch
          else match s.neighbour subj with
            | some n => n.epoch
            | none => Config.freeNat s.free % 65536
        ((s.drawn).raiseReport p subj (m.at 10 2) epoch).gangReply port m stOk)
/-- MESH_SEND_REPORT. -/
def execMeshSendReport (port : Fin 4) (s : State) : Out := .next (meshSendReport port s)

/-- R496: ROLE_SET OP 3 takes a mesh role under a compare of its epoch, or clears the node's role, and floods a ROLE frame. -/
def roleSetMesh (port : Fin 4) (s : State) : State :=
  s.radioQuiet.serve port (fun m => m.op = 0x52 ∧ m.at 0 1 = 3) (fun _ m s =>
    match s.sec.profile with
    | none => s.reply port m stNoResource []
    | some p =>
      let r := m.at 6 2
      let e := s.roleEpoch r
      if !s.isOn 0x1200 || !s.mesh.running then s.reply port m stNoResource []
      else if m.at 4 2 ≠ e then s.reply port m stStaleRole (leBytes 2 e ++ leBytes 2 e ++ [0xFF])
      else if r = 0 then
        let roles := s.mesh.roles.map (fun x => if x.2.1 = p.node then (x.1, (0xFFFF, x.2.2)) else x)
        let s := (s.setMesh { s.mesh with role := none, roles }).floodRole p
        s.reply port m stOk (leBytes 2 e ++ leBytes 2 e ++ [0xFF, 0])
      else
        let e' := if e = 0xFFFF then 1 else e + 1
        let s := (s.setMesh { s.mesh with role := some r, roles := Tab.put s.mesh.roles r (p.node, e') }).floodRole p
        s.reply port m stOk (leBytes 2 e' ++ leBytes 2 e' ++ [0xFF, 0]))
/-- ROLE_SET_MESH. -/
def execRoleSetMesh (port : Fin 4) (s : State) : Out := .next (roleSetMesh port s)

/-! ## The node's own steps -/

/-- The fine-interpolator engine that Scrim takes for its pin, R475: one that the Link processor holds bound to it, else the
lowest free one. -/
def State.meshEngine (s : State) (pin : Nat) : Option Nat :=
  match (List.range 16).find? (fun n => s.ownerOf 6 n = 0x0300 ∧ s.fld (TB_FICTL.addr n) TB_FICTL.PIN = pin) with
  | some n => some n
  | none => (List.range 16).find? (fun n => s.ownerOf 6 n = 0)

/-- R475: Scrim starts once the Link processor holds the radio port, the strobe pin and an engine bound to the pin; a claim
that meets CONFLICT stops it and raises SCRIM_CLAIM with the resource, nothing being claimed (log entry 45). Frame
counters go on in an unused block (R489). -/
def scrimStart (s : State) : State :=
  match s.sec.profile with
  | none => s
  | some p =>
    if !s.isOn 0x1200 || s.mesh.running then s
    else
      let claim : List (Nat × Nat) := [(3, 20 + p.csp), (4, p.pin), (6, (s.meshEngine p.pin).getD 0)]
      match s.conflictUnit claim 0x0300 with
      | some u => s.raiseFault 6 0x0050 (p.domain * 65536 + p.node) (resid u.1 u.2)
      | none =>
        let n := (s.meshEngine p.pin).getD 0
        let s := s.claimUnits claim 0x0300
        let s := s.setReg (TB_FICTL.addr n) (pack [(TB_FICTL.EN, 1), (TB_FICTL.PIN, p.pin)])
        let fc := s.mesh.fcEnd
        (s.setMesh { Mesh.reset with
          running := true, fc, fcEnd := fc + 65536, beaconAt := s.el, exchAt := s.el, roleAt := s.el,
          msgs := s.mesh.msgs, handles := s.mesh.handles }).settleTree p
/-- SCRIM_START. -/
def execScrimStart (s : State) : Out := .next (scrimStart s)

/-- R490: a BEACON every BEACON s, with an offset of up to 10 % of it. -/
def beacon (s : State) : State :=
  s.withMesh (fun p s =>
    if s.mesh.beaconAt + p.beacon * 900000000 ≤ s.el then
      let s := s.settleTree p
      let s := s.transmitAll p 0 (.beacon (s.mesh.role.getD 0) s.ownEpoch s.mesh.hops (s.mesh.parent.getD 0xFFFF) (s.unc 0)
        (s.stamp 0) p.watched p.gateway)
      s.setMesh { s.mesh with beaconAt := s.el }
    else s)
/-- BEACON. -/
def execBeacon (s : State) : Out := .next (beacon s)

/-- R490: a LEAVE, before a host-requested descent below SAMPLE. -/
def State.meshLeave (s : State) : State := s.withMesh (fun p s => s.transmitAll p 0 .leave)

/-- R491: neighbours not heard for LOSTN × BEACON s are removed; one that was WATCHED raises NEIGHBOUR_LOST. -/
def neighbourSweep (s : State) : State :=
  s.withMesh (fun p s =>
    let lost := s.staleNeigh p
    let s := s.setMesh { s.mesh with neigh := s.mesh.neigh.filter (fun n => !lost.contains n) }
    (lost.foldl (fun s n => if n.watched then s.raiseReport p n.node 0x0100 n.epoch else s) s).settleTree p)
/-- NEIGHBOUR_SWEEP. -/
def execNeighbourSweep (s : State) : Out := .next (neighbourSweep s)

/-- R494: every 4 s a joined node that is not at hop 0 sends TREQ to its parent; its strobe stamps t1. -/
def timeExchange (s : State) : State :=
  s.withMesh (fun p s =>
    match s.mesh.parent with
    | some n =>
      if s.joined && decide (s.mesh.exchAt + 4000000000 ≤ s.el) then
        let s := s.transmit p n 0 .treq
        s.setMesh { s.mesh with exchAt := s.el, exch := some (s.now - BitVec.ofNat 80 p.txLat, none) }
      else s
    | none => s)
/-- TIME_EXCHANGE. -/
def execTimeExchange (s : State) : Out := .next (timeExchange s)

/-- R496: the ROLE frame of a held role repeated every 600 s. -/
def roleReflood (s : State) : State :=
  s.withMesh (fun p s =>
    if s.mesh.role.isSome ∧ s.mesh.roleAt + 600000000000 ≤ s.el then s.floodRole p else s)
/-- ROLE_REFLOOD. -/
def execRoleReflood (s : State) : Out := .next (roleReflood s)

/-- R497: a message without an OK ACK for 2 s is sent again, up to three sends. -/
def meshResend (s : State) : State :=
  s.withMesh (fun p s =>
    match s.mesh.queue.find? (fun q => q.sentAt + 2000000000 ≤ s.el) with
    | some q => s.resendMsg p q
    | none => s)
/-- MESH_RESEND. -/
def execMeshResend (s : State) : Out := .next (meshResend s)

/-- The entry of a list that comes first by a key. -/
def firstBy (key : RepEntry → Nat) (l : List RepEntry) : Option RepEntry :=
  l.foldl (fun b e => if b.all (fun x => decide (key e < key x)) then some e else b) none

/-- R499: the window of an entry closes and the entry becomes ready. -/
def reportWindowClose (s : State) : State :=
  s.withMesh (fun _ s =>
    match firstBy (·.closeAt) (s.mesh.table.filter (fun e => !e.ready && decide (e.closeAt ≤ s.now.toNat))) with
    | some e => s.setMesh { s.mesh with table := s.mesh.table.map (fun y => if y = e then { e with ready := true } else y) }
    | none => s)
/-- REPORT_WINDOW_CLOSE. -/
def execReportWindowClose (s : State) : Out := .next (reportWindowClose s)

/-- R500: the next ready entry, round-robin over subjects and the earliest close first within one, is sent to the parent or
delivered at a gateway, and freed. -/
def reportSend (s : State) : State :=
  s.withMesh (fun p s =>
    let l := s.mesh.table.filter (·.ready)
    let above := l.filter (fun e => s.mesh.lastSubj < e.rep.subj)
    match firstBy (·.rep.subj) (if above.isEmpty then l else above) with
    | none => s
    | some e =>
      if s.mesh.hops ≠ 0 ∧ s.mesh.parent = none then s
      else
        match firstBy (·.closeAt) (l.filter (fun x => x.rep.subj = e.rep.subj)) with
        | some x =>
          (s.setMesh { s.mesh with table := s.mesh.table.erase x, lastSubj := x.rep.subj }).forwardReport p x.rep
        | none => s)
/-- REPORT_SEND. -/
def execReportSend (s : State) : Out := .next (reportSend s)

/-! ## Receiving, R488 to R497 -/

/-- A flooded frame: handled once per origin and message number, and rebroadcast with hops left decremented where the node
has joined and hops are left, R493. -/
def State.relay (s : State) (p : Profile) (f : ScrimFrame) (origin msg : Nat) (g : State → State) : State :=
  if s.mesh.seen.contains (origin, msg) then s
  else
    let s := s.sawMsg (origin, msg)
    let s := if s.joined && decide (0 < f.left) then s.transmitAll p (f.left - 1) f.body else s
    g s

/-- The time response of a parent, R494: TRESP, then TFOLLOW with t2, t3 and U_clk at t3. -/
def State.answerTreq (s : State) (p : Profile) (child ago : Nat) : State :=
  let t2 := s.now - BitVec.ofNat 80 (psToFrac ago) - BitVec.ofNat 80 p.rxLat
  let t3 := s.now - BitVec.ofNat 80 p.txLat
  (s.transmit p child 0 .tresp).transmit p child 0 (.tfollow t2 t3 (s.unc 0))

/-- A child's measurement, R494: d from the four instants and the drift since t4; its UNC from U_parent, 20 ns and the rate
residual over t6 − t4. -/
def State.takeFollow (s : State) (t1 t4 t2 t3 t6 : BitVec 80) (unc : BitVec 16) : State :=
  let since := (t6 - t4).toInt
  let d := roundDiv (((t2 - t1).toInt) - ((t4 - t3).toInt)) 2 + roundDiv (since * s.time.rateCorr) (2 ^ 32)
  let sigma := (s.sigma false s.crystalTemp).1
  let r := ceilDiv (sigma * fracToNs since.natAbs) 1000000000
  s.submitLink 3 d (encodeUnc (uncSq unc + 20000 * 20000 + r * r))

/-- A frame that has passed the checks, from the neighbour n. -/
def State.handleFrame (s : State) (p : Profile) (f : ScrimFrame) (ago : Nat) : State :=
  match f.body with
  | .beacon role epoch hops parent unc _ watched gateway =>
    let s := match s.neighbour f.tx with
      | some n => s.setNeigh { n with role, epoch, hops, parent, unc, watched, gateway }
      | none => s
    (if role = 0 then s else s.learnRole p role f.tx epoch).settleTree p
  | .leave => (s.setMesh { s.mesh with neigh := s.mesh.neigh.filter (fun n => n.node ≠ f.tx) }).settleTree p
  | .treq => s.answerTreq p f.tx ago
  | .tresp =>
    match s.mesh.exch with
    | some (t1, none) =>
      if s.mesh.parent = some f.tx then
        s.setMesh { s.mesh with exch := some (t1, some (s.now - BitVec.ofNat 80 (psToFrac ago) - BitVec.ofNat 80 p.rxLat)) }
      else s
    | _ => s
  | .tfollow t2 t3 unc =>
    match s.mesh.exch with
    | some (t1, some t4) =>
      if s.mesh.parent = some f.tx then
        (s.setMesh { s.mesh with exch := none }).takeFollow t1 t4 t2 t3 (s.now - BitVec.ofNat 80 (psToFrac ago)) unc
      else s
    | _ => s
  | .data origin msg dkind dest epoch ack b =>
    s.relay p f origin msg (fun s => (s.arriveData p origin msg dkind dest epoch ack b).1)
  | .report r => s.takeReport p r
  | .returned origin msg to_ tomsg epoch node =>
    s.relay p f origin msg (fun s =>
      if to_ ≠ p.node then s
      else match s.sentHandle tomsg with
        | some h => s.takeReturn h epoch node
        | none => s)
  | .ack origin msg to_ tomsg busy =>
    s.relay p f origin msg (fun s =>
      if to_ ≠ p.node then s
      else if busy then
        match s.mesh.queue.find? (fun q => q.msg = tomsg) with
        | some q => s.resendMsg p q
        | none => s
      else match s.sentHandle tomsg with
        | some h => s.setMesh { s.mesh with queue := s.mesh.queue.filter (fun q => q.handle ≠ h) }
        | none => s)
  | .role origin msg holder role epoch => s.relay p f origin msg (fun s => s.learnRole p role holder epoch)
  | .other => s

/-- Whether a beacon may enter its sender, R491: its GTS lies within 2 s of local time. -/
def State.mayEnterNeigh (s : State) (f : ScrimFrame) : Bool :=
  match f.body with
  | .beacon _ _ _ _ _ g _ _ => decide ((g.t - s.now).toInt.natAbs ≤ 2 * 2 ^ 40)
  | _ => false

/-- R488, R491: a frame received, its strobe ago ps before: authenticated, checked for replay against its sender's entry,
and handled. -/
def scrimFrameReceive (f : ScrimFrame) (ago : Nat) (s : State) : State :=
  s.withMesh (fun p s =>
    let s := s.zeroize
    if f.domain ≠ p.domain ∨ !f.mic ∨ (Tab.find s.sec.domKeys f.slot).isNone ∨ f.body = .other ∨
        (f.rx ≠ p.node ∧ f.rx ≠ 0xFFFF) then s
    else
      match s.neighbour f.tx with
      | some n =>
        match n.accept f.fc with
        | some n => (s.setNeigh { n with heard := s.el }).handleFrame p f ago
        | none => s
      | none =>
        if s.mayEnterNeigh f then
          (s.enterNeigh p { node := f.tx, heard := s.el, role := 0, epoch := 0, hops := 0x1F, parent := 0xFFFF, unc := 0xFFFF,
                            watched := false, gateway := false, fc := f.fc, window := 0 }).handleFrame p f ago
        else s)
/-- SCRIM_FRAME_RECEIVE. -/
def execScrimFrameReceive (f : ScrimFrame) (ago : Nat) (s : State) : Out := .next (scrimFrameReceive f ago s)

end Sys2Proof.Machine
end

