-- ==== Sys2Proof/Machine/Host.lean ====
section
/-! DEFINITION. The host ports, R318 to R339: transactions, the port address space, rings, attention, HWAKE, and the taking
of slots. -/

namespace Sys2Proof.Machine

/-! ## The port address space, R323 -/

/-- What a port address names. -/
inductive HostPlace where
  | window (a : Nat) | inbound (o : Nat) | outbound (o : Nat) | register (o : Nat) | nothing
  deriving DecidableEq, Repr

/-- The content of a port address. -/
def hostPlace (a : Nat) : HostPlace :=
  if a < 0x04000000 then .window a
  else if a < 0x04000800 then .inbound (a - 0x04000000)
  else if 0x04001000 ≤ a ∧ a < 0x04002000 then .outbound (a - 0x04001000)
  else if 0x04002000 ≤ a ∧ a < 0x04002040 then .register (a - 0x04002000)
  else .nothing

/-- HPn_STATUS.READY, R324: the mode serves the port, and its domain and its bank VIOA are powered. -/
def State.hostReady (s : State) (n : Nat) : Bool := decide (4 ≤ s.mode) && s.isOn (0x1100 + n) && s.vioOk 0
/-- HPn_STATUS.RINGS. -/
def State.ringsUp (s : State) (n : Nat) : Bool := s.fld (HP_STATUS.addr n) HP_STATUS.RINGS = 1
/-- HPn_STATUS, R334. -/
def State.hpStatus (s : State) (n : Nat) : Word :=
  pack [(HP_STATUS.READY, b2n (s.hostReady n)), (HP_STATUS.RINGS, b2n (s.ringsUp n)),
    (HP_STATUS.SESSION, b2n (s.port n).session.isSome), (HP_STATUS.TCRST, s.fld (HP_STATUS.addr n) HP_STATUS.TCRST),
    (HP_STATUS.MODE, if s.ringsUp n then s.mode else 0)]
/-- HPn_ATTN, R334: MSG while HPn_OUTPROD differs from HPn_OUTACK. -/
def State.hpAttn (s : State) (n : Nat) : Word :=
  fset (s.reg (HP_ATTN.addr n)) HP_ATTN.MSG
    (b2n (decide (s.fld (HP_OUTPROD.addr n) HP_OUTPROD.SEQ ≠ s.fld (HP_OUTACK.addr n) HP_OUTACK.SEQ)))
/-- Whether port n drives HATTNn_N low, R326; before its rings are set up, while the Keeper runs Undercoat, it is released
(R39). -/
def State.hattnLow (s : State) (n : Nat) : Bool :=
  let w := s.hpAttn n
  decide (s.fld (HP_STATUS.addr n) HP_STATUS.RINGS = 1) && ((decide (fget w HP_ATTN.RULE = 1) && decide (fget w HP_ATTN.ENRULE = 1)) ||
    (decide (fget w HP_ATTN.MSG = 1) && decide (fget w HP_ATTN.ENMSG = 1)) || decide (fget w HP_ATTN.WAKE = 1))

/-- A port register as the host reads it, with what the read changes, R334: HPn_ERR is cleared by it, HPn_INBASE and
HPn_OUTBASE read 0. -/
def State.hpRead (s : State) (n o : Nat) : State × Word :=
  let a := 0x40002000 + 0x400 * n + o
  if o = 0x04 then (s, s.hpStatus n)
  else if o = 0x10 then (s, s.hpAttn n)
  else if o = 0x24 then (s.setReg a 0, s.reg a)
  else if 0x28 ≤ o then (s, 0)
  else (s, s.reg a)

/-- One word of a host read outside the window: the rings, where they are set up; the registers; ones elsewhere. -/
def State.hostWord (s : State) (n a : Nat) : State × Word :=
  match hostPlace a with
  | .inbound o => (s, if s.ringsUp n then memReadWord s.mem ((s.reg (HP_INBASE.addr n)).toNat + o) else 0xFFFFFFFF)
  | .outbound o => (s, if s.ringsUp n then memReadWord s.mem ((s.reg (HP_OUTBASE.addr n)).toNat + o) else 0xFFFFFFFF)
  | .register o => s.hpRead n o
  | _ => (s, 0xFFFFFFFF)

/-- Words of a host read outside the window, at ascending addresses. -/
def State.hostWords (s : State) (n : Nat) : Nat → Nat → List Word → State × List Word
  | 0, _, out => (s, out.reverse)
  | k + 1, a, out =>
    let (s, w) := s.hostWord n a
    s.hostWords n k (a + 4) (w :: out)

/-- A host read of words from an address, delivered to the host, the first late of them as ones (R320). A clocked read
cannot wait: the words of a window page that lies in a bank not powered are not ready, and the bank's wake is requested; a
two-wire read waits (R321, R445). -/
def State.hostRead (s : State) (n a words late : Nat) (waits : Bool) : State :=
  let k := if a < 0x04000000 then min words ((0x04000000 - a) / 4) else 0
  let finish (s : State) (dead : Nat → Bool) : State :=
    let (s, w1) := s.windowWords n dead k a none []
    let (s, w2) := s.hostWords n (words - k) (a + 4 * k) []
    let w := List.replicate (min late words) 0xFFFFFFFF ++ (w1 ++ w2).drop late
    let missed := (List.range words).countP (fun i => decide (i < late) || (decide (i < k) && dead ((a + 4 * i) / 0x1000)))
    let s := s.bump (HP_ERR.addr n) HP_ERR.LATE missed
    { s with snaps := Tab.put s.snaps (hostKey n) w }
  if k = 0 then finish s (fun _ => false)
  else s.withDomain hwuBlock (fun s =>
    let banks := (burstPages a k).flatMap (s.pageBanks n)
    if waits || banks.all s.isOn then s.withDomains banks (fun s => finish s (fun _ => false))
    else
      let t := s
      finish (banks.foldl (fun s d => s.requestWake d) s) (fun p => !(t.pageBanks n p).all t.isOn))

/-! ## Writes of port registers, R322, R331 to R338 -/

/-- HPn_INPROD written, R331 and R336: without a session it names one slot to be taken. -/
def State.writeInprod (s : State) (n : Nat) (v : Word) : State :=
  let s := s.setReg (HP_INPROD.addr n) (writeWord HP_INPROD.fields 0 v)
  let p := s.port n
  if p.session.isNone then s.setPort n { p with announced := p.announced ++ [fget v HP_INPROD.SEQ] } else s

/-- HPn_OUTACK written, R332: what waits goes as far as there is room. -/
def State.writeOutack (s : State) (n : Nat) (v : Word) : State :=
  let s := s.setReg (HP_OUTACK.addr n) (writeWord HP_OUTACK.fields 0 v)
  if s.served then s.pump n else s

/-- An abort carried out by Topcoat, R338: what has not begun is discarded at once; once a message being executed has
completed, HPn_INACK is set, a STATE_REPORT goes out and ABORT clears. -/
def State.abortPort (s : State) (n : Nat) : State :=
  let s := s.setPort n { s.port n with taken := [], assembly := none, announced := [], resync := false }
  if s.portBusy n then s
  else
    let s := s.setFld (HP_INACK.addr n) HP_INACK.SEQ (s.fld (HP_INPROD.addr n) HP_INPROD.SEQ)
    (s.reportNow n 3).setFld (HP_CTL.addr n) HP_CTL.ABORT 0
/-- The port whose abort waited for a message that has now completed, R338. -/
def State.heldAbort (s : State) : Option Nat :=
  (List.range 4).find? (fun n => decide (s.fld (HP_CTL.addr n) HP_CTL.ABORT = 1) && s.served && !s.portBusy n)

/-- HPn_CTL written, R338: where Topcoat is restarting, or a message of the port is being executed, ABORT stays set until
that has ended. -/
def State.writeCtl (s : State) (n : Nat) (v : Word) : State :=
  let s := s.setReg (HP_CTL.addr n) (writeWord HP_CTL.fields (s.reg (HP_CTL.addr n)) v)
  if s.fld (HP_CTL.addr n) HP_CTL.ABORT = 1 ∧ s.served then s.abortPort n else s

/-- HPn_ATTN written, R326. -/
def State.writeAttn (s : State) (n : Nat) (v : Word) : State :=
  s.setReg (HP_ATTN.addr n) (writeWord HP_ATTN.fields (s.reg (HP_ATTN.addr n)) v)

/-- HPn_CFG written, R322. -/
def State.writeHpCfg (s : State) (n : Nat) (v : Word) : State :=
  s.setReg (HP_CFG.addr n) (writeWord HP_CFG.fields (s.reg (HP_CFG.addr n)) v)

/-- A port register written by the host, R334: what the host does not write is discarded. -/
def State.hpWrite (s : State) (n o : Nat) (v : Word) : State :=
  match o with
  | 0x04 => s.setReg (HP_STATUS.addr n) (writeWord HP_STATUS.fields (s.reg (HP_STATUS.addr n)) v)
  | 0x08 => s.writeHpCfg n v
  | 0x0C => s.writeCtl n v
  | 0x10 => s.writeAttn n v
  | 0x14 => s.writeInprod n v
  | 0x20 => s.writeOutack n v
  | _ => s

/-- One word written by the host; the Bool is whether it was discarded, R323 and R324. -/
def State.hostStore (s : State) (n a : Nat) (v : Word) : State × Bool :=
  match hostPlace a with
  | .inbound o =>
    if s.ringsUp n then
      let p := s.port n
      let s := s.setPort n { p with rx := Tab.put p.rx (o / 64) (s.now, s.el) }
      (s.store ((s.reg (HP_INBASE.addr n)).toNat + o) (leBytes 4 v.toNat), false)
    else (s, true)
  | .register o => (s.hpWrite n o v, false)
  | _ => (s, true)

/-- Words written by the host at ascending addresses; the Bool is whether any was discarded. -/
def State.hostStores (s : State) (n : Nat) : Nat → List Word → Bool → State × Bool
  | _, [], d => (s, d)
  | a, v :: r, d =>
    let (s, x) := s.hostStore n a v
    s.hostStores n (a + 4) r (d || x)

/-- A host write of whole words, and whether bytes of a partial word followed, R322: a write of which anything was discarded
counts once in DISC. -/
def State.hostWrite (s : State) (n a : Nat) (words : List Word) (part : Bool) : State :=
  let (s, d) := s.hostStores n a words part
  if d then s.bump (HP_ERR.addr n) HP_ERR.DISC 1 else s

/-! ## The commands of the host -/

/-- A transaction of a clocked serial target, R319 and R324; one at a port that has accepted an entry is a wake event
(R441). -/
def State.clocked (s : State) (n : Nat) (f : State → State) : State :=
  if s.hostReady n && !(s.port n).twoWire then s.withDomain (0x1100 + n) f else s

/-- READ, R319 and R320: words from an address; late of them are not ready in time, which DUMMY of 16 or more rules out. -/
def read (port : Fin 4) (a : BitVec 32) (words late : Nat) (s : State) : State :=
  s.clocked port (fun s =>
    s.hostRead port (a.toNat / 4 * 4) words
      (if 16 ≤ s.fld (HP_CFG.addr port) HP_CFG.DUMMY then 0 else min late words) false)
/-- READ. -/
def execRead (port : Fin 4) (a : BitVec 32) (words late : Nat) (s : State) : Out := .next (read port a words late s)

/-- WRITE, R319 and R322. -/
def write (port : Fin 4) (a : BitVec 32) (words : List (BitVec 32)) (part : Bool) (s : State) : State :=
  s.clocked port (fun s => s.hostWrite port (a.toNat / 4 * 4) words part)
/-- WRITE. -/
def execWrite (port : Fin 4) (a : BitVec 32) (words : List (BitVec 32)) (part : Bool) (s : State) : Out :=
  .next (write port a words part s)

/-- The target address that port n answers, R334. -/
def State.twaddr (s : State) (n : Nat) : Nat :=
  let t := s.fld (HP_CFG.addr n) HP_CFG.TWADDR
  if t < 8 ∨ 0x78 ≤ t then 0x28 + n else t

/-- The whole words that bytes spell. -/
def wholeWords (b : List Byte) : List Word := (List.range (b.length / 4)).map (fun k => Word.ofNat (leAt b (4 * k) 4))

/-- TWO_WIRE_HOST_ACCESS, R321: the bytes written to a target address, the first four the address sent, most significant
first; then, where the host reads, how many bytes. Fewer than four address bytes change nothing. -/
def twoWireHostAccess (port : Fin 4) (target : BitVec 7) (b : List Byte) (count : Nat) (s : State) : State :=
  if s.hostReady port ∧ (s.port port).twoWire ∧ target.toNat = s.twaddr port ∧ 4 ≤ b.length then
    s.withDomain (0x1100 + port) (fun s =>
      let a := ofLe (b.take 4).reverse / 4 * 4
      let d := b.drop 4
      let s := if d.isEmpty then s else s.hostWrite port a (wholeWords d) (decide (d.length % 4 ≠ 0))
      if count = 0 then s else s.hostRead port a ((count + 3) / 4) 0 true)
  else s
/-- TWO_WIRE_HOST_ACCESS. -/
def execTwoWireHostAccess (port : Fin 4) (target : BitVec 7) (b : List Byte) (count : Nat) (s : State) : Out :=
  .next (twoWireHostAccess port target b count s)

/-- A host's write of one port register, while the port serves (R324); at a port that has accepted an entry it is a wake
event (R441). -/
def State.hostSets (s : State) (n : Nat) (f : State → State) : State :=
  if s.hostReady n then s.withDomain (0x1100 + n) f else s

/-- INPROD_WRITE, R331. -/
def inprodWrite (port : Fin 4) (v : Word) (s : State) : State := s.hostSets port (fun s => s.writeInprod port v)
/-- INPROD_WRITE. -/
def execInprodWrite (port : Fin 4) (v : Word) (s : State) : Out := .next (inprodWrite port v s)
/-- OUTACK_WRITE, R332. -/
def outackWrite (port : Fin 4) (v : Word) (s : State) : State := s.hostSets port (fun s => s.writeOutack port v)
/-- OUTACK_WRITE. -/
def execOutackWrite (port : Fin 4) (v : Word) (s : State) : Out := .next (outackWrite port v s)
/-- ABORT, R338: a write of HPn_CTL. -/
def abort (port : Fin 4) (v : Word) (s : State) : State := s.hostSets port (fun s => s.writeCtl port v)
/-- ABORT. -/
def execAbort (port : Fin 4) (v : Word) (s : State) : Out := .next (abort port v s)
/-- ATTN_CLEAR, R326: a write of HPn_ATTN. -/
def attnClear (port : Fin 4) (v : Word) (s : State) : State := s.hostSets port (fun s => s.writeAttn port v)
/-- ATTN_CLEAR. -/
def execAttnClear (port : Fin 4) (v : Word) (s : State) : Out := .next (attnClear port v s)
/-- HPN_CFG_WRITE, R322. -/
def hpnCfgWrite (port : Fin 4) (v : Word) (s : State) : State := s.hostSets port (fun s => s.writeHpCfg port v)
/-- HPN_CFG_WRITE. -/
def execHpnCfgWrite (port : Fin 4) (v : Word) (s : State) : Out := .next (hpnCfgWrite port v s)

/-! ## HWAKE, R327 and R431 -/

/-- HWAKE_TAKEN: HWAKEn has been high for 1 µs: it is a wake event of source n, the target is computed again, and where
READY is 1 HPn_ATTN.WAKE is set. -/
def hwakeTaken (port : Fin 4) (s : State) : State :=
  if s.pwr.hwake.getLsbD port then s
  else
    let s := { s with pwr := { s.pwr with hwake := s.pwr.hwake ||| BitVec.ofNat 4 (2 ^ port.val) } }
    let s := if s.hostReady port then s.setFld (HP_ATTN.addr port) HP_ATTN.WAKE 1 else s
    (s.wakeEvent port).retarget
/-- HWAKE_TAKEN. -/
def execHwakeTaken (port : Fin 4) (s : State) : Out := .next (hwakeTaken port s)

/-- HWAKE_RELEASE: HWAKEn falls and the target is computed again. -/
def hwakeRelease (port : Fin 4) (s : State) : State :=
  ({ s with pwr := { s.pwr with hwake := s.pwr.hwake &&& ~~~(BitVec.ofNat 4 (2 ^ port.val)) } }).retarget
/-- HWAKE_RELEASE. -/
def execHwakeRelease (port : Fin 4) (s : State) : Out := .next (hwakeRelease port s)

/-! ## Taking slots, R331 to R333, R336, R339 and R342 -/

/-- The replies that port n still owes, R332. -/
def State.owed (s : State) (n : Nat) : Nat :=
  let p := s.port n
  p.taken.length + b2n p.assembly.isSome + p.outWait.length + b2n (Tab.find s.time.claims n).isSome + b2n (s.portBusy n)

/-- Whether a slot of port n can be taken: one waits, and its reply will have room. -/
def State.takeable (s : State) (n : Nat) : Bool :=
  let p := s.port n
  s.served && s.ringsUp n && decide (s.fld (HP_CTL.addr n) HP_CTL.ABORT = 0) &&
    (if p.session.isSome then
      decide (s.fld (HP_INPROD.addr n) HP_INPROD.SEQ ≠ s.fld (HP_INACK.addr n) HP_INACK.SEQ)
     else !p.announced.isEmpty) &&
    decide (seqDiff (s.fld (HP_OUTPROD.addr n) HP_OUTPROD.SEQ + s.owed n + 1) (s.aOut n) ≤ 64)

/-- A message taken whole, or ended by a fragment that does not fit (bad), R333. -/
def State.takeMessage (s : State) (n : Nat) (a : Assembly) (bad : Bool) : State :=
  let p := s.port n
  let rx := Tab.get (s.now, s.el) p.rx (s.fld (HP_INACK.addr n) HP_INACK.SEQ % 32)
  let m : Msg := { seq := a.seq, op := a.op, lens := a.lens, payload := a.payload, at_ := rx.1, since := rx.2,
                   bad := if bad || a.lost then stBadLength else 0 }
  (s.setPort n { p with assembly := none, taken := p.taken ++ [m] }).afterMessage n

/-- A slot's fragment, R333: it begins a message, continues the one under assembly, or ends it wrongly. -/
def State.takeFragment (s : State) (n seq : Nat) (b : List Byte) : State :=
  let op := leAt b 4 1
  let len := leAt b 6 1
  let chan := leAt b 7 1
  let part := Machine.slice b 8 (min len 56)
  let p := s.port n
  let a : Assembly := p.assembly.getD { seq, op, frag := 0, lens := [], payload := [], lost := false }
  let wrong : Bool := !(decide (a.op = op) && decide (chan % 128 = a.frag % 128)) || decide (56 < len) ||
    decide (1024 ≤ a.lens.length)
  if wrong && !a.lost then s.takeMessage n a true
  else
    let a := { a with frag := a.frag + 1, lens := a.lens ++ [len], payload := a.payload ++ part }
    if 128 ≤ chan then s.setPort n { p with assembly := some a } else s.takeMessage n a false

/-- A gap, R339. -/
def State.gap (s : State) (n : Nat) : State :=
  let s := s.setFld (HP_INACK.addr n) HP_INACK.SEQ (s.fld (HP_INPROD.addr n) HP_INPROD.SEQ)
  (s.setPort n { s.port n with assembly := none, resync := true }).report n 1

/-- One slot of port n taken, R331. -/
def State.takeSlot (s : State) (n : Nat) : State :=
  let p := s.port n
  let expected := if p.session.isSome then (s.fld (HP_INACK.addr n) HP_INACK.SEQ + 1) % 65536 else p.announced.headD 0
  let b := s.load (inRing n + 64 * (expected % 32)) 64
  let seq := leAt b 0 2
  let op := leAt b 4 1
  let s := (s.setFld (HP_INACK.addr n) HP_INACK.SEQ expected).setPort n { p with announced := p.announced.drop 1 }
  if p.session.isSome ∧ seq ≠ expected then s.gap n
  else
    let s := (s.setPort n { s.port n with ackIn := seqLater (leAt b 2 2) (s.port n).ackIn }).pump n
    if p.session.isNone then
      s.takeMessage n { seq, op, frag := 1, lens := [leAt b 6 1], payload := Machine.slice b 8 (min (leAt b 6 1) 56)
                        lost := false } (decide (leAt b 7 1 ≠ 0) || decide (56 < leAt b 6 1))
    else if p.resync ∧ ¬ ((op = 0x01 ∨ op = 0x03) ∧ leAt b 7 1 % 128 = 0) then s
    else (s.setPort n { s.port n with resync := false }).takeFragment n seq b

/-- SLOT_TAKE, R342: Topcoat completes an abort that waited for a message (R338), or takes a slot of the next port in turn
that has one. -/
def slotTake (s : State) : State :=
  match s.heldAbort with
  | some n => s.abortPort n
  | none =>
    match (List.range 4).find? (fun k => s.takeable ((s.ohp.turn + k) % 4)) with
    | none => s
    | some k =>
      let n := (s.ohp.turn + k) % 4
      ({ s with ohp := { s.ohp with turn := (n + 1) % 4 } }).takeSlot n
/-- SLOT_TAKE. -/
def execSlotTake (s : State) : Out := .next (slotTake s)

end Sys2Proof.Machine
end

