-- ==== Sys2Proof/Machine/Ohp.lean ====
section
/-! DEFINITION. The messages of OHP on sessions, time, modes, events, faults, resources and roles, R335 to R358. -/

namespace Sys2Proof.Machine

/-! ## Sessions, R335, R336, R345 and R346 -/

/-- The versions that Topcoat 2.4 accepts, R335, and Undercoat in recovery (R511). -/
def ohpVersions (recovery : Bool) : List Nat := if recovery then [0x10, 0x11] else [0x10, 0x11, 0x20, 0x21]
/-- The highest version in both ranges. -/
def commonVersion (recovery : Bool) (lo hi : Nat) : Option Nat :=
  (ohpVersions recovery).reverse.find? (fun v => lo ≤ v ∧ v ≤ hi)

/-- The slots that a message still takes. -/
def OutMsg.slots (m : OutMsg) : Nat := max 1 (ceilDiv m.payload.length 56)

/-- The SEQ that the next reply of port n takes: after a message begun and the replies that wait. -/
def State.nextReplySeq (s : State) (n : Nat) : Nat :=
  (s.fld (HP_OUTPROD.addr n) HP_OUTPROD.SEQ + 1 +
    ((s.port n).outWait.filter (fun m => m.reply || decide (m.frag ≠ 0))).foldl (fun k m => k + m.slots) 0) % 65536

/-- A session ended completely, R346: its units and handles released, its floor dropped, its outbound messages and claim
discarded. -/
def State.endSession (s : State) (n : Nat) : State :=
  let s := s.freeUnits (s.unitsOf n)
  let s := s.setFld (HP_OUTACK.addr n) HP_OUTACK.SEQ (s.fld (HP_OUTPROD.addr n) HP_OUTPROD.SEQ)
  let s := s.setPort n { s.port n with outWait := [], evq := [], evLost := 0 }
  let s := s.setTime { s.time with claims := Tab.del s.time.claims n }
  (s.setFld PWR_FLOOR.addr (PWR_FLOOR.HOLD n) 0).retarget

/-- HELLO, R335, R336 and R346. -/
def hello (port : Fin 4) (s : State) : State :=
  s.serve port (named 0x01) (fun _ m s =>
    let p := s.port port
    let had := p.session.isSome
    match commonVersion s.ohp.recovery (m.at 0 1) (m.at 1 1) with
    | none =>
      let vs := ohpVersions s.ohp.recovery
      (s.setPort port { p with session := none, announced := [] }).reply port m stBadVersion
        (leBytes 1 (vs.headD 0) ++ leBytes 1 (vs.getLastD 0))
    | some v =>
      let fresh := decide (m.at 2 1 % 2 = 1)
      let s := if fresh then s.endSession port else s
      let p := s.port port
      let s := s.setPort port { p with session := some v, hostId := Machine.slice m.payload 4 8, announced := [], resync := false
                                       subs := if had && !fresh then p.subs else 0x03000000 }
      let s := s.reply port m stOk (leBytes 1 v ++ [0x24, 0x10] ++ leBytes 1 port ++ leBytes 8 identityWord.toNat ++
        leBytes 2 (s.nextReplySeq port) ++ [32, 64] ++ (if 0x20 ≤ v then leBytes 2 s.ohp.epoch else []))
      if fresh && had then s.report port 4 else s)
/-- HELLO. -/
def execHello (port : Fin 4) (s : State) : Out := .next (hello port s)

/-- The device public key as hosts hash it, X then Y, R526. -/
def devicePublic : List Byte := (List.range 16).flatMap (fun k => leBytes 4 (Config.devicePublicKey k).toNat)

/-- IDENTIFY, R345: the build is the journal's, or a free value where no record is valid. -/
def identify (port : Fin 4) (s : State) : State :=
  s.serve port (named 0x02) (fun v m s =>
    let j := s.journalNow
    let build := if s.journal.isSome then j.version else Config.freeNat s.free
    let rec_ := s.ohp.recovery
    let base := leBytes 8 identityWord.toNat ++ [2, 4] ++ leBytes 2 build ++
      leBytes 1 (if rec_ then 0xFF else j.active) ++ leBytes 1 (if rec_ || !j.trial then 0 else j.trials)
    (s.drawn).reply port m stOk (if v < 0x21 then base
      else base ++ leBytes 1 s.sec.hostKeys.length ++ [0, 0, 0] ++ Machine.slice (Config.sha256 devicePublic) 0 32))
/-- IDENTIFY. -/
def execIdentify (port : Fin 4) (s : State) : Out := .next (identify port s)

/-- STATE_REPORT, R346. -/
def stateReport (port : Fin 4) (s : State) : State :=
  s.serve port (named 0x03) (fun _ m s => s.reply port m stOk (s.stateReport port 0))
/-- STATE_REPORT. -/
def execStateReport (port : Fin 4) (s : State) : Out := .next (stateReport port s)

/-! ## Time and mode, R70, R71 and R436 -/

/-- TIME_SET, R70: it replaces a claim that waits, which is answered NOT_USED; a claim for NOW is judged at once against the
time at which the port received its last slot; others wait for their edge. -/
def timeSet (port : Fin 4) (s : State) : State :=
  s.serve port (named 0x10) (fun v m s =>
    let time := BitVec.ofNat 80 (m.at 4 5 * 2 ^ 40 + m.at 9 5)
    let force := decide (0x20 ≤ v) && decide (m.at 2 1 % 2 = 1)
    let claim (k : ClaimKind) : Claim :=
      { kind := k, time, unc := BitVec.ofNat 16 (m.at 14 2), force, since := m.since, seq := m.seq, op := m.op }
    let replaced (s : State) : State :=
      match Tab.find s.time.claims port with
      | some c => (s.setTime { s.time with claims := Tab.del s.time.claims port }).claimReply port c 2 stOk
      | none => s
    let wait (k : ClaimKind) : State :=
      let s := replaced s
      s.setTime { s.time with claims := Tab.put s.time.claims port (claim k) }
    match m.at 0 1 with
    | 0 =>
      let s := replaced s
      let r := s.submitClaim (time - m.at_).toInt (uncSq (BitVec.ofNat 16 (m.at 14 2)) + pathCoarse) force
      r.1.claimReply port (claim .now) r.2.1 r.2.2
    | 1 => wait .nextPps
    | 2 => if v < 0x11 ∨ 48 ≤ m.at 1 1 then s.reply port m stNoResource [] else wait (.edge (m.at 1 1))
    | _ => s.reply port m stNoResource [])
/-- TIME_SET. -/
def execTimeSet (port : Fin 4) (s : State) : Out := .next (timeSet port s)

/-- TIME_GET, R345. -/
def timeGet (port : Fin 4) (s : State) : State :=
  s.serve port (named 0x11) (fun _ m s =>
    s.reply port m stOk (leBytes 1 (floatCode s.time.state) ++ leBytes 1 s.sourceShown ++ leBytes 1 s.epoch ++
      leBytes 1 (b2n (decide (s.time.pll = .locked)) + 2 * s.fld TB_STATUS.addr TB_STATUS.STEPPED) ++ gtsBytes (s.stamp 0)))
/-- TIME_GET. -/
def execTimeGet (port : Fin 4) (s : State) : Out := .next (timeGet port s)

/-- MODE_SET, R432 and R436: HOLD 1 sets the port's floor, HOLD 0 removes it and writes PWR_BASE; the reply comes once the
mode is reached or refused. A LEAVE goes before a mode below SAMPLE (R490). -/
def modeSet (port : Fin 4) (s : State) : State :=
  s.serve port (named 0x12) (fun _ m s =>
    let mode := m.at 0 1
    if mode = 0 ∨ 7 < mode then s.reply port m stNoResource []
    else if s.inTransition then s.reply port m stBusy []
    else
      let s := if mode < 4 then s.meshLeave else s
      let s := s.setPwr { s.pwr with modeWaits := s.pwr.modeWaits ++ [{ port, seq := m.seq, mode }] }
      let s :=
        if m.at 1 1 % 2 = 1 then
          ((s.setFld PWR_FLOOR.addr (PWR_FLOOR.HOLD port) 1).setFld PWR_FLOOR.addr (PWR_FLOOR.MODE port) mode).retarget
        else (s.setFld PWR_FLOOR.addr (PWR_FLOOR.HOLD port) 0).writeBase mode
      s.settleModes port mode)
/-- MODE_SET. -/
def execModeSet (port : Fin 4) (s : State) : Out := .next (modeSet port s)

/-! ## Events, alarms and faults, R352 to R355 -/

/-- An alarm of a local event, R355: to the ports, to every gang partner (R486), and as a mesh report where REPALARM is 1
(R498). -/
def State.localAlarm (s : State) (r : EvRec) : State :=
  let s := s.alarm 0 (eventBytes r)
  let subj := match s.sec.profile with
    | some p => p.node
    | none => 0x8000 + s.flxPos
  let s := if s.flxLed then
      s.flxBcast 5 (gtsBytes r.gts ++ leBytes 2 subj ++ leBytes 2 r.cause ++ leBytes 2 s.ownEpoch ++ leBytes 2 1 ++ [0, 0] ++
        leBytes 2 subj)
    else s
  s.withMesh (fun p s =>
    if p.repAlarm then
      s.takeReport p { gts := r.gts, subj := p.node, cause := r.cause, epoch := s.ownEpoch, count := 1, flags := 0, hops := 0
                       first := p.node }
    else s)

/-- EVENT, R353: the oldest record of the package event queue goes to every subscribed port's queue, or as an alarm. -/
def event (s : State) : State :=
  if !s.served then s
  else match s.events with
    | [] => s
    | r :: rest =>
      let s := { s with events := rest }.flxQuiet
      if 0xC0 ≤ r.cause ∧ r.cause ≤ 0xEF then s.localAlarm r
      else (List.range 4).foldl (fun s n =>
        if s.subscribed n (subsBit r) then (s.copyTo n (.record r)).pump n else s) s
/-- EVENT. -/
def execEvent (s : State) : Out := .next (event s)

/-- CORE_MESSAGE, R354: a core's message is taken and copied to the ports subscribed to that core. -/
def coreMessage (c : Fin 16) (s : State) : State :=
  if s.served && (s.mailbox c).send then
    let m := s.mailbox c
    let b := (List.range 8).flatMap (fun k => leBytes 4 (Tab.get 0 m.out k).toNat)
    let s := s.setMailbox c { m with send := false }
    (List.range 4).foldl (fun s n =>
      if s.subscribed n (8 + c.val) && (decide (0x21 ≤ (s.port n).session.getD 0)) then
        (s.copyTo n (.message c b)).pump n
      else s) s
  else s
/-- CORE_MESSAGE. -/
def execCoreMessage (c : Fin 16) (s : State) : Out := .next (coreMessage c s)

/-- FAULT_REPORT, R352: the head of FAULT goes to every port with SUBS bit 24 and is removed. -/
def faultReport (s : State) : State :=
  if !s.served then s
  else match s.faults with
    | [] => s
    | r :: _ =>
      let s := (List.range 4).foldl (fun s n =>
        if s.subscribed n 24 then
          s.publish n { op := 0x42, status := 0, reply := false
                        payload := faultPayload ((s.port n).session.getD 0) r.level r.cause r.unit r.gts r.detail none }
        else s) s
      s.popFault
/-- FAULT_REPORT. -/
def execFaultReport (s : State) : Out := .next (faultReport s)

/-- ALARM, R355: a host acknowledges an alarm. -/
def alarm (port : Fin 4) (s : State) : State :=
  s.serve port (named 0x41) (fun _ m s =>
    let l := s.ohp.alarms
    if l.contains (m.at 0 2) then
      let l := l.erase (m.at 0 2)
      let s := { s with ohp := { s.ohp with alarms := l, alarmOverflow := s.ohp.alarmOverflow && !l.isEmpty } }
      s.reply port m stOk (leBytes 2 l.length)
    else s.reply port m stNoResource [])
/-- ALARM. -/
def execAlarm (port : Fin 4) (s : State) : Out := .next (alarm port s)

/-! ## Resources and roles, R344, R356, R357 and R530 -/

/-- The owner that a RESID's TARGET names in a message of port n, R530: the port, or a watch core. -/
def targetOwner (n target : Nat) : Option Nat :=
  if target = 0 then some (hostOwner n) else if target ≤ 16 then some (0x0200 + (target - 1)) else none

/-- The units that a claim or release names: 1 to 256 of them, R345. -/
def claimRange (r : Word) (count : Nat) : Option (List (Nat × Nat)) :=
  if count = 0 ∨ 256 < count then none else unitRange r count

/-- RESOURCE_CLAIM, R356 and R530. -/
def resourceClaim (port : Fin 4) (s : State) : State :=
  s.serve port (named 0x50) (fun _ m s =>
    let r := Word.ofNat (m.at 0 4)
    let target := m.at 2 1
    match targetOwner port target, claimRange r (m.at 4 2) with
    | some o, some l =>
      let refused := if target = 0 then none else s.notHeld port 1 ((target - 1) / 2)
      match refused with
      | some (st, f) => s.reply port m st f
      | none =>
        match s.conflictUnit l o with
        | some u => s.reply port m stConflict (conflictFields u.1 u.2 (s.ownerOf u.1 u.2))
        | none =>
          let new := l.filter (fun u => decide (s.ownerOf u.1 u.2 ≠ o))
          let s := s.claimUnits l o
          let s := if target = 0 then s
            else { s with ohp := { s.ohp with
              claimedFor := new.foldl (fun t u => Tab.put t (unitKey u.1 u.2) port.val) s.ohp.claimedFor } }
          s.reply port m stOk ([0, 0] ++ leBytes 4 (m.at 0 4) ++ leBytes 2 (m.at 4 2))
    | _, _ => s.reply port m stNoResource [])
/-- RESOURCE_CLAIM. -/
def execResourceClaim (port : Fin 4) (s : State) : Out := .next (resourceClaim port s)

/-- Whether port n may release a unit for a target, R530: its own units and those of tiles and LOG that it answers for, or
those that it claimed for a watch core. -/
def State.mayRelease (s : State) (n target : Nat) (u : Nat × Nat) : Bool :=
  let o := s.ownerOf u.1 u.2
  let mine := Tab.find s.ohp.claimedFor (unitKey u.1 u.2) == some n
  if target = 0 then o == hostOwner n || (mine && decide (0x1200 ≤ o)) else mine && decide (o = 0x0200 + (target - 1))

/-- RESOURCE_RELEASE, R356 and R530. -/
def resourceRelease (port : Fin 4) (s : State) : State :=
  s.serve port (named 0x51) (fun _ m s =>
    let target := m.at 2 1
    match targetOwner port target, claimRange (Word.ofNat (m.at 0 4)) (m.at 4 2) with
    | some _, some l =>
      if l.all (fun u => s.mayRelease port target u) then
        (s.freeUnits l).reply port m stOk ([0, 0] ++ leBytes 4 (m.at 0 4) ++ leBytes 2 (m.at 4 2))
      else s.reply port m stNoResource []
    | _, _ => s.reply port m stNoResource [])
/-- RESOURCE_RELEASE. -/
def execResourceRelease (port : Fin 4) (s : State) : Out := .next (resourceRelease port s)

/-- A role. -/
def State.role (s : State) (r : Nat) : Role := Tab.get Role.reset s.ohp.roles r
/-- The state with the roles and their epoch replaced. -/
def State.setRoles (s : State) (roles : Tab Role) (epoch : Nat) : State := { s with ohp := { s.ohp with roles, epoch } }
/-- The role epoch after an assignment or clearing, R344. -/
def nextEpoch (e : Nat) : Nat := if e = 0xFFFF then 1 else e + 1

/-- The fields of a ROLE_SET reply, R345, and of STALE_ROLE (R341). -/
def State.roleFields (s : State) (r : Nat) : List Byte :=
  leBytes 2 s.ohp.epoch ++ leBytes 2 (s.role r).epoch ++ leBytes 1 ((s.role r).cluster.getD 0xFF)

/-- ROLE_SET QUERY, R357. -/
def roleSetQuery (port : Fin 4) (s : State) : State :=
  s.serve port (fun m => m.op = 0x52 ∧ m.at 0 1 = 0) (fun _ m s =>
    let l := s.ohp.roles.filterMap (fun e => e.2.cluster.map (fun c => leBytes 1 e.1 ++ leBytes 1 c ++ leBytes 2 e.2.epoch))
    s.reply port m stOk (s.roleFields (m.at 1 1) ++ leBytes 1 l.length ++ l.flatten))
/-- ROLE_SET_QUERY. -/
def execRoleSetQuery (port : Fin 4) (s : State) : Out := .next (roleSetQuery port s)

/-- ROLE_SET ASSIGN, R344 and R357: the port holds CLUSTER and EXPECT is the role's assignment epoch; the role moves to
CLUSTER, whose former role becomes unassigned, and the epoch counts on. -/
def roleSetAssign (port : Fin 4) (s : State) : State :=
  s.serve port (fun m => m.op = 0x52 ∧ m.at 0 1 = 1) (fun _ m s =>
    let r := m.at 1 1
    let c := m.at 2 1
    match s.notHeld port 1 c with
    | some (st, f) => s.reply port m st f
    | none =>
      if m.at 4 2 ≠ (s.role r).epoch then s.reply port m stStaleRole (s.roleFields r)
      else
        let e := nextEpoch s.ohp.epoch
        let others := s.ohp.roles.map (fun x => if x.2.cluster = some c then (x.1, { x.2 with cluster := none }) else x)
        let s := s.setRoles (Tab.put others r { cluster := some c, epoch := e }) e
        s.reply port m stOk (s.roleFields r ++ [0]))
/-- ROLE_SET_ASSIGN. -/
def execRoleSetAssign (port : Fin 4) (s : State) : Out := .next (roleSetAssign port s)

/-- ROLE_SET CLEAR, R357. -/
def roleSetClear (port : Fin 4) (s : State) : State :=
  s.serve port (fun m => m.op = 0x52 ∧ m.at 0 1 = 2) (fun _ m s =>
    let r := m.at 1 1
    if m.at 4 2 ≠ (s.role r).epoch then s.reply port m stStaleRole (s.roleFields r)
    else
      let s := s.setRoles (Tab.put s.ohp.roles r { s.role r with cluster := none }) (nextEpoch s.ohp.epoch)
      s.reply port m stOk (s.roleFields r ++ [0]))
/-- ROLE_SET_CLEAR. -/
def execRoleSetClear (port : Fin 4) (s : State) : Out := .next (roleSetClear port s)

/-- MESH_SEND to a local core, R358: its MBX_IN takes the data, or the reply is BUSY. The handle is a free value (log
entry 42). -/
def meshSendLocal (port : Fin 4) (s : State) : State :=
  s.serve port (meshSend 2) (fun _ m s =>
    if 16 ≤ m.at 2 2 then s.reply port m stNoResource []
    else match s.deliverMbx (m.at 2 2) (Machine.slice m.data 0 32) with
      | some s' => s'.gangReply port m stOk
      | none => s.reply port m stBusy [])
/-- MESH_SEND_LOCAL. -/
def execMeshSendLocal (port : Fin 4) (s : State) : Out := .next (meshSendLocal port s)

end Sys2Proof.Machine
end

