-- ==== Sys2Proof/Machine/Update.lean ====
section
/-! DEFINITION. SEC, the boot, the update stages, scrubbing and tamper, R503 to R526, and the restarts of Topcoat (R360). -/

namespace Sys2Proof.Machine

/-- The state with SEC replaced. -/
def State.setSec (s : State) (x : Sec) : State := { s with sec := x }

/-- SEC_STATUS, R526. -/
def State.secStatus (s : State) : Word :=
  let w := s.reg SEC_STATUS.addr
  let keys := (List.range 2).foldl (fun n k => n + b2n (Tab.find s.sec.domKeys k).isSome * 2 ^ k) 0
  fset (fset (fset w SEC_STATUS.SVC (b2n (decide (s.mode = 7)))) SEC_STATUS.KEYS s.sec.hostKeys.length)
    SEC_STATUS.DOMKEY keys

/-! ## MRAM, R505 and R506 -/

/-- The base of an image slot: 0 A, 1 B. -/
def slotBase (k : Nat) : Nat := 0x10000000 + 0x400000 * k
/-- The image slot that an address lies in. -/
def slotOf (a : Nat) : Option Nat :=
  if 0x10000000 ≤ a ∧ a < 0x10400000 then some 0 else if 0x10400000 ≤ a ∧ a < 0x10800000 then some 1 else none
/-- A slot's dirty bit. -/
def dirtyBit (k : Nat) : Fld := if k = 0 then SEC_STATUS.DIRTYA else SEC_STATUS.DIRTYB
/-- A slot's dirty bit set or cleared. -/
def State.setDirty (s : State) (k v : Nat) : State := s.setFld SEC_STATUS.addr (dirtyBit k) v

/-- Bytes written to MRAM: each 64-bit word written is correct again. -/
def State.mramStore (s : State) (a : Nat) (b : List Byte) : State :=
  let s := s.store a b
  if b.isEmpty then s
  else s.setSec { s.sec with bad := s.sec.bad.filter (fun w => !(decide (a / 8 * 8 ≤ w) && decide (w < a + b.length))) }

/-- A read of an MRAM word that holds a double-bit error, R506: counted and reported. -/
def State.mramRead (s : State) (a : Nat) : State :=
  if s.sec.bad.contains (a / 8 * 8) then
    (s.bump SEC_SCRUBSTAT.addr SEC_SCRUBSTAT.UNCORR 1).raiseFault 4 0x0027 0x1700 (a / 8 * 8)
  else s

/-- A Keeper write to an image slot, R505: performed in SERVICE, where it sets the slot's dirty bit; else discarded with a
bus error. -/
def State.slotWrite (s : State) (p : Side) (a : Nat) (b : List Byte) : State :=
  match slotOf a with
  | none => s
  | some k => if s.mode = 7 then (s.mramStore a b).setDirty k 1 else s.busError p a true

/-- MRAM_SLOT_WRITE, R505. -/
def mramSlotWrite (p : Side) (a : BitVec 32) (v : Word) (s : State) : State :=
  if (slotOf a.toNat).isSome ∧ a.toNat % 4 = 0 then
    s.permitted p a.toNat true (fun s => s.access a.toNat (fun s => s.slotWrite p a.toNat (leBytes 4 v.toNat)))
  else s
/-- MRAM_SLOT_WRITE. -/
def execMramSlotWrite (p : Side) (a : BitVec 32) (v : Word) (s : State) : Out := .next (mramSlotWrite p a v s)

/-! ## Scrubbing, R519 and R520 -/

/-- A scrub of a block begun, R519. -/
def State.scrubGo (s : State) (block : Nat) : State :=
  (s.setFld SEC_SCRUB.addr SEC_SCRUB.BUSY 1).setSec { s.sec with scrub := some (block, s.el) }

/-- SEC_SCRUB, R519 and R526: a write of SEC_SCRUB stores BLOCK, and its GO is discarded while BUSY is 1. -/
def secScrub (v : Word) (s : State) : State :=
  s.access SEC_SCRUB.addr (fun s =>
    let s := s.setFld SEC_SCRUB.addr SEC_SCRUB.BLOCK (fget v SEC_SCRUB.BLOCK)
    if fget v SEC_SCRUB.GO = 1 ∧ s.sec.scrub.isNone then s.scrubGo (fget v SEC_SCRUB.BLOCK) else s)
/-- SEC_SCRUB. -/
def execSecScrub (p : Side) (v : Word) (s : State) : Out := .next (s.permitted p SEC_SCRUB.addr true (secScrub v))

/-- Topcoat's scrub of its next block begun, R520. -/
def State.topcoatScrub (s : State) : State :=
  if s.ohp.running && s.works 0x1000 && decide (4 ≤ s.mode) && s.sec.scrub.isNone then
    let b := s.scrubNext
    ((s.setFld SEC_SCRUB.addr SEC_SCRUB.BLOCK b).scrubGo b).setSec
      { s.sec with scrub := some (b, s.el), scrubbedAt := s.el }
  else s

/-- SCRUB_HOURLY, R520. -/
def scrubHourly (s : State) : State := if s.sec.scrubbedAt + 3600 * 10 ^ 9 ≤ s.el then s.topcoatScrub else s
/-- SCRUB_HOURLY. -/
def execScrubHourly (s : State) : Out := .next (scrubHourly s)

/-- SCRUB_CATCHUP, R520. -/
def scrubCatchup (s : State) : State :=
  if s.catchingUp ∧ s.sec.scrubbedAt + 10000000 ≤ s.el then s.topcoatScrub else s
/-- SCRUB_CATCHUP. -/
def execScrubCatchup (s : State) : Out := .next (scrubCatchup s)

/-- Topcoat goes on to the next block, R520: SCRUB is recorded after every 64 blocks, and a pass that ends begins the
next, with PASSDAY today. -/
def State.scrubAdvance (s : State) : State :=
  let next := s.scrubNext + 1
  if next % 64 = 0 then
    let j := s.journalNow
    let s := s.setSec { s.sec with since := 0, passNow := s.sec.passNow && decide (next ≠ 4096) }
    s.writeJournal (if next = 4096 then { j with scrub := 0, passday := s.today % 65536 } else { j with scrub := next })
  else s.setSec { s.sec with since := s.sec.since + 1 }

/-- SCRUB_DONE, R519 and R506: the scrub in progress ends, having corrected some words and found others uncorrectable (by
their index in the block). -/
def scrubDone (corrected : Nat) (bad : List (Fin 512)) (s : State) : State :=
  match s.sec.scrub with
  | none => s
  | some (b, _) =>
    let s := (s.setFld SEC_SCRUB.addr SEC_SCRUB.BUSY 0).setSec { s.sec with scrub := none }
    let s := s.bump SEC_SCRUBSTAT.addr SEC_SCRUBSTAT.CORR corrected
    let base := 0x10000000 + 0x1000 * b
    let s := bad.foldl (fun s i =>
      let w := base + 8 * i.val
      let s := s.setSec { s.sec with bad := s.sec.bad.filter (· ≠ w) ++ [w] }
      s.mramRead w) s
    let s := if bad.isEmpty then s
      else match slotOf base with
        | some k => s.setDirty k 1
        | none => s
    if s.ohp.running && decide (b = s.scrubNext) then s.scrubAdvance else s
/-- SCRUB_DONE. -/
def execScrubDone (corrected : Nat) (bad : List (Fin 512)) (s : State) : Out := .next (scrubDone corrected bad s)

/-! ## Tamper, R524 and R525 -/

/-- TAMPER, R524: EIOk comes to a level; where it is enabled, at its active level, and not latched, it is latched, the first
with its GTS, and wakes Glanyx. SEC empties the domain keys and TAMPER is reported, in KEEP at the next start (R525). -/
def tamper (k : Fin 8) (high : Bool) (s : State) : State :=
  let en := (s.fld SEC_TAMPCFG.addr SEC_TAMPCFG.EN).testBit k
  let lvl := (s.fld SEC_TAMPCFG.addr SEC_TAMPCFG.LEVEL).testBit k
  let pins := s.fld SEC_TAMP.addr SEC_TAMP.PINS
  if en && (lvl == high) && !pins.testBit k then
    let w := gtsWords (s.stamp pathCoarse)
    let s := if pins = 0 then (List.range 3).foldl (fun s i => s.setReg (SEC_TAMPGTS.addr i) (w.getD i 0)) s else s
    let s := s.setFld SEC_TAMP.addr SEC_TAMP.PINS (pins + 2 ^ k.val)
    let s := if s.mode = 1 then s.setSec { s.sec with tampered := true }
      else (s.setSec { s.sec with domKeys := [] }).raiseFault 4 0x002A 0x1900 (pins + 2 ^ k.val)
    s.wakeEvent 47
  else s
/-- TAMPER. -/
def execTamper (k : Fin 8) (high : Bool) (s : State) : Out := .next (tamper k high s)

/-! ## Images, R507 and R514 -/

/-- The header of the image in a slot. -/
def State.header (s : State) (k : Nat) : List Byte := s.load (slotBase k) 128
/-- A header's KIND. -/
def hdrKind (h : List Byte) : Nat := leAt h 4 1
/-- A header's VERSION. -/
def hdrVersion (h : List Byte) : Nat := leAt h 8 4
/-- A header's LENGTH. -/
def hdrLength (h : List Byte) : Nat := leAt h 16 4
/-- A header's BIND. -/
def hdrBind (h : List Byte) : Nat := leAt h 20 8
/-- The body of the image in a slot. -/
def State.body (s : State) (k : Nat) : List Byte := s.load (slotBase k + 128) (hdrLength (s.header k))
/-- Whether an image's HASH matches its body. -/
def State.hashOk (s : State) (k : Nat) : Bool := Config.sha256 (s.body k) == Machine.slice (s.header k) 28 32
/-- The key that a SIGNER names, R507. -/
def State.signerKey (s : State) (signer : Nat) : Option (List Byte) :=
  if signer = 0xFF then some Config.rootKey else Tab.find s.sec.hostKeys signer
/-- Whether a header's signature verifies under a key. -/
def sigOk (h key : List Byte) : Bool := Config.ecdsaVerify (Machine.slice h 0 64) (Machine.slice h 64 64) key

/-- Whether a slot verifies for a boot, R510. -/
def State.slotVerifies (s : State) (k floor : Nat) : Bool :=
  let h := s.header k
  decide (hdrKind h = 0) && (decide (hdrBind h = 0) || decide (hdrBind h = identityWord.toNat)) &&
    decide (hdrLength h ≤ 0x400000 - 128) && s.hashOk k && sigOk h Config.rootKey && decide (floor ≤ hdrVersion h)

/-- Whether a SIGNER may sign a KIND, R507 and R522: the root key a Topcoat; an enrolled key an extension or a link profile;
the root key or the key of another slot a key record. -/
def signerAllowed (kind signer slot : Nat) : Bool :=
  match kind with
  | 0 => signer == 0xFF
  | 2 => signer == 0xFF || (decide (signer < 4) && signer != slot)
  | _ => decide (signer < 4)

/-- The reason for which an image downloaded to a slot is not verified, R514; 0 where it is. The range of LENGTH is that of
the slot, of the extension area and of a key record (log entry 47). -/
def State.verifyReason (s : State) (k received : Nat) : Nat :=
  let h := s.header k
  let kind := hdrKind h
  let len := hdrLength h
  let b := s.body k
  if received < 128 ∨ received < 128 + len then 1
  else if Machine.slice h 0 4 ≠ [0x47, 0x49, 0x4D, 0x47] ∨ 3 < kind ∨ 0x400000 - 128 < len ∨ (kind = 1 ∧ 0x200000 < len) ∨
      (kind = 2 ∧ (len ≠ 68 ∨ 4 ≤ leAt b 0 1)) then 2
  else if !s.hashOk k then 3
  else if !signerAllowed kind (leAt h 5 1) (leAt b 0 1) || !(s.signerKey (leAt h 5 1)).any (fun key => sigOk h key) ||
      (decide (kind = 3) && ((Config.unwrapKey b 0).isNone || (Config.unwrapKey b 1).isNone)) then 4
  else if kind = 0 ∧ hdrVersion h < s.journalNow.floor then 5
  else if (hdrBind h ≠ 0 ∧ hdrBind h ≠ identityWord.toNat) ∨ (2 ≤ kind ∧ hdrBind h = 0) then 6
  else 0

/-! ## Update stages, R512 to R517 -/

/-- Where the update session lies in KEEP RAM (log entry 15). -/
def updateBase : Nat := 0x20002F00
/-- Whether the target is verified. -/
def State.updVerified (s : State) : Bool := (memRead s.mem updateBase).toNat / 2 % 2 = 1
/-- The port that holds the session. -/
def State.updPort (s : State) : Nat := (memRead s.mem (updateBase + 1)).toNat
/-- The target slot. -/
def State.updTarget (s : State) : Nat := (memRead s.mem (updateBase + 2)).toNat
/-- The bytes received. -/
def State.updCount (s : State) : Nat := ofLe (s.load (updateBase + 4) 4)
/-- The length given to UPDATE_BEGIN. -/
def State.updLength (s : State) : Nat := ofLe (s.load (updateBase + 8) 4)
/-- The session written. -/
def State.setUpdate (s : State) (held verified : Bool) (port target count length : Nat) : State :=
  s.store updateBase (leBytes 1 (b2n held + 2 * b2n verified) ++ leBytes 1 port ++ leBytes 1 target ++ [0] ++
    leBytes 4 count ++ leBytes 4 length)

/-- The answer to an update message while another port holds the session, R359: the CONFLICT layout of R341 names a unit,
which there is not; that field is a free value. -/
def State.updConflict (s : State) (n : Nat) (m : Msg) : State :=
  (s.drawn).reply n m stConflict (leBytes 4 (Config.freeNat s.free) ++ leBytes 2 (hostOwner s.updPort))

/-- An update message executed in SERVICE, by the port that holds the session, R359. -/
def State.update (s : State) (n : Nat) (m : Msg) (f : State → State) : State :=
  if s.mode ≠ 7 then s.reply n m stNoResource []
  else if !s.updateHeld then s.reply n m stNoResource []
  else if s.updPort ≠ n then s.updConflict n m
  else f s

/-- UPDATE_BEGIN, R512. -/
def updateBegin (port : Fin 4) (s : State) : State :=
  s.serve port (named 0x60) (fun _ m s =>
    let len := m.at 0 4
    let target := 1 - s.journalNow.active % 2
    if s.mode ≠ 7 ∨ len < 128 ∨ 0x400000 < len then s.reply port m stNoResource []
    else if s.journalNow.trial then s.reply port m stBusy []
    else if s.updateHeld && s.updPort ≠ port then s.updConflict port m
    else (s.setUpdate true false port target 0 len).reply port m stOk (leBytes 1 target))
/-- UPDATE_BEGIN. -/
def execUpdateBegin (port : Fin 4) (s : State) : Out := .next (updateBegin port s)

/-- UPDATE_CHUNK, R513. -/
def updateChunk (port : Fin 4) (s : State) : State :=
  s.serve port (named 0x61) (fun _ m s => s.update port m (fun s =>
    let off := m.at 0 4
    let b := (m.payload.drop 4).take (m.len - 4)
    if s.updCount < off ∨ s.updLength < off + b.length then s.reply port m stNoResource []
    else
      let count := max s.updCount (off + b.length)
      let s' := if b.isEmpty then s else (s.mramStore (slotBase s.updTarget + off) b).setDirty s.updTarget 1
      (s'.setUpdate true (s.updVerified && b.isEmpty) port s.updTarget count s.updLength).reply port m stOk (leBytes 4 count)))
/-- UPDATE_CHUNK. -/
def execUpdateChunk (port : Fin 4) (s : State) : Out := .next (updateChunk port s)

/-- UPDATE_VERIFY, R514. -/
def updateVerify (port : Fin 4) (s : State) : State :=
  s.serve port (named 0x62) (fun _ m s => s.update port m (fun s =>
    let r := s.verifyReason s.updTarget s.updCount
    if r = 0 then
      ((s.setUpdate true true port s.updTarget s.updCount s.updLength).setDirty s.updTarget 0).reply port m stOk [0]
    else s.reply port m stVerifyFail (leBytes 1 r ++ [0])))
/-- UPDATE_VERIFY. -/
def execUpdateVerify (port : Fin 4) (s : State) : Out := .next (updateVerify port s)

/-- A key record takes effect, R522: 64 zero bytes empty the slot. -/
def State.enrol (s : State) (b : List Byte) : State :=
  let k := leAt b 0 1
  let key := Machine.slice b 4 64
  s.setSec { s.sec with hostKeys := if key = List.replicate 64 0 then Tab.del s.sec.hostKeys k else Tab.put s.sec.hostKeys k key }

/-- The link profile that a body holds, R474. -/
def profileOf (b : List Byte) : Profile :=
  let f := Config.profileField b
  { leadReq := f 0 % 2 = 1, leadOk := f 1 % 2 = 1, domain := f 2 % 65536, node := f 3 % 32768, csp := f 4 % 6, pin := f 5 % 48
    beacon := f 6, lostn := f 7, window := f 8, quota := max 1 (min 64 (f 9)), watched := f 10 % 2 = 1
    gateway := f 11 % 2 = 1, repAlarm := f 12 % 2 = 1, txLat := f 13, rxLat := f 14 }

/-- A link profile takes effect, R523 and R501: the profile and both domain keys together; Flotex and Scrim restart, and
FLX_CTL takes the gang settings. -/
def State.adopt (s : State) (b : List Byte) : State :=
  let p := profileOf b
  let keys := (List.range 2).foldl (fun t k => match Config.unwrapKey b k with
    | some x => Tab.put t k x
    | none => t) []
  let en := s.fld FLX_CTL.addr FLX_CTL.EN
  let s := s.setSec { s.sec with profile := some p, domKeys := keys, tampered := false }
  let s := (s.setReg FLX_CTL.addr (pack [(FLX_CTL.EN, en), (FLX_CTL.LEADREQ, b2n p.leadReq), (FLX_CTL.LEADOK, b2n p.leadOk)])).setReg
    FLX_STATUS.addr 0
  { s with flx := Flx.reset
           mesh := { Mesh.reset with fc := s.mesh.fcEnd, fcEnd := s.mesh.fcEnd, msgs := s.mesh.msgs, handles := s.mesh.handles } }

/-- UPDATE_ACTIVATE, R515, by the KIND of the verified image; KIND 0 and 1 are followed by a restart. -/
def updateActivate (port : Fin 4) (s : State) : State :=
  s.serve port (named 0x63) (fun _ m s => s.update port m (fun s =>
    if !s.updVerified then s.reply port m stVerifyFail [7, 0]
    else
      let k := s.updTarget
      let h := s.header k
      let restart (s : State) : State :=
        let seq := s.nextReplySeq port
        let s := s.reply port m stOk (leBytes 1 s.journalNow.active)
        { s with ohp := { s.ohp with activate := some (port.val, seq, s.el) } }
      match hdrKind h with
      | 0 => restart (s.writeJournal { s.journalNow with active := k, trial := true, trials := 3, version := hdrVersion h })
      | 1 => restart (s.mramStore 0x10E00000 (s.body k))
      | 2 => (s.enrol (s.body k)).reply port m stOk (leBytes 1 s.journalNow.active)
      | _ => (s.adopt (s.body k)).reply port m stOk (leBytes 1 s.journalNow.active)))
/-- UPDATE_ACTIVATE. -/
def execUpdateActivate (port : Fin 4) (s : State) : Out := .next (updateActivate port s)

/-- UPDATE_CONFIRM, R516: where no port holds the session, any port may confirm a trial. -/
def updateConfirm (port : Fin 4) (s : State) : State :=
  s.serve port (named 0x64) (fun _ m s =>
    let j := s.journalNow
    if s.mode ≠ 7 then s.reply port m stNoResource []
    else if s.updateHeld && s.updPort ≠ port then s.updConflict port m
    else if !j.trial then s.reply port m stNoResource []
    else
      let floor := max j.floor (leAt (s.header j.active) 12 4)
      let s := s.writeJournal { j with trial := false, trials := 0, floor }
      (s.setUpdate false false 0 0 0 0).reply port m stOk (leBytes 1 j.active))
/-- UPDATE_CONFIRM. -/
def execUpdateConfirm (port : Fin 4) (s : State) : Out := .next (updateConfirm port s)

/-! ## Boot and restart, R360, R430, R510 and R511 -/

/-- A slot verified at a boot, R510: at a restart a slot that is not dirty passes unverified. A verification that passes
clears the dirty bit (R505). -/
def State.bootVerify (s : State) (restart : Bool) (k floor : Nat) : State × Bool :=
  if restart && decide (s.fld SEC_STATUS.addr (dirtyBit k) = 0) then (s, true)
  else if s.slotVerifies k floor then (s.setDirty k 0, true) else (s, false)

/-- Recovery, R511: Undercoat holds Glanyx in SERVICE and serves. -/
def State.enterRecovery (s : State) : State :=
  ({ s with ohp := { s.ohp with running := false, recovery := true } }).writeBase 7

/-- Topcoat started from a slot. -/
def State.started (s : State) : State := { s with ohp := { s.ohp with running := true, recovery := false } }

/-- Undercoat's choice of a slot, R510: the trial counted or reverted, the active slot verified, the other one as a
fallback, or recovery. -/
def State.boot (s : State) (restart : Bool) : State :=
  let pick : Option Journal × State :=
    match s.journal with
    | some j => (some j, s)
    | none =>
      match (List.range 2).find? (fun k => s.slotVerifies k 0) with
      | some k => (some { Journal.none_ with active := k, version := hdrVersion (s.header k) }, s)
      | none => (none, s)
  match pick.1 with
  | none => s.enterRecovery
  | some j =>
    let (j, s) :=
      if j.trial then
        if j.trials = 0 then
          let other := 1 - j.active % 2
          let j := { j with active := other, trial := false, version := hdrVersion (s.header other) }
          (j, (s.writeJournal j).raiseFault 4 0x0028 0x1000 other)
        else
          let j := { j with trials := j.trials - 1 }
          (j, s.writeJournal j)
      else (j, s)
    let (s, ok) := s.bootVerify restart j.active j.floor
    if ok then s.started
    else
      let other := 1 - j.active % 2
      let (s, ok) := s.bootVerify restart other j.floor
      if ok then
        let s := s.writeJournal { j with active := other, trial := false, trials := 0, version := hdrVersion (s.header other) }
        (s.raiseFault 4 0x0029 0x1000 other).started
      else s.enterRecovery

/-- The messages of port n that had begun at a restart, R360: answered INTERNAL and followed by a STATE_REPORT. -/
def State.abandonMessages (s : State) (n : Nat) : State :=
  let begun : List (Nat × Nat) :=
    (s.pwr.modeWaits.filter (fun w => decide (w.port = n))).map (fun w => (w.seq, 0x12)) ++
    (s.flx.waiting.filter (fun w => decide (w.port = n))).map (fun w => (w.seq, 0x53)) ++
    s.twb.filterMap (fun b => match b.2.manReply with
      | some w => if w.port = n then some (w.seq, 0x20) else none
      | none => none)
  let s := s.setPwr { s.pwr with modeWaits := s.pwr.modeWaits.filter (fun w => decide (w.port ≠ n)) }
  let s := s.setFlx { s.flx with waiting := s.flx.waiting.filter (fun w => decide (w.port ≠ n)) }
  let s := { s with twb := s.twb.map (fun b => if b.2.manReply.any (fun w => w.port = n) then (b.1, { b.2 with manReply := none }) else b) }
  if begun.isEmpty then s
  else (begun.foldl (fun s b => s.reply n { seq := b.1, op := b.2, lens := [], payload := [] } stInternal []) s).report n 2

/-- A session resumed after a restart, R360: TCRST set, fragments lost, a waiting claim answered NOT_USED, a held ABORT
carried out. -/
def State.resume (s : State) (n : Nat) : State :=
  let p := s.port n
  let s := if p.session.isSome then s.setFld (HP_STATUS.addr n) HP_STATUS.TCRST 1 else s
  let s := s.setPort n { s.port n with assembly := p.assembly.map (fun a => { a with lost := true }) }
  let s := match Tab.find s.time.claims n with
    | some c => (s.setTime { s.time with claims := Tab.del s.time.claims n }).claimReply n c 2 stOk
    | none => s
  let s := s.abandonMessages n
  if s.fld (HP_CTL.addr n) HP_CTL.ABORT = 1 then s.abortPort n else s

/-- Undercoat restarts Topcoat, R360 and R510; the Keeper begins again at Undercoat. -/
def State.restartTopcoat (s : State) : State :=
  let s := { s with ohp := { s.ohp with running := false, recovery := false, activate := none }
                    sec := { s.sec with since := 0 } }
  let s := (s.setCore 16 (Core.reset 16)).boot true
  (List.range 4).foldl (fun s n => s.resume n) s

/-- TOPCOAT_RESTART, R360. -/
def topcoatRestart (s : State) : State := if s.ohp.running && s.isOn 0x1000 then s.restartTopcoat else s
/-- TOPCOAT_RESTART. -/
def execTopcoatRestart (s : State) : Out := .next (topcoatRestart s)

/-- ACTIVATE_RESTART, R515: once the host has acknowledged the reply, or 100 ms have passed. -/
def activateRestart (s : State) : State :=
  match s.ohp.activate with
  | none => s
  | some (n, seq, since) =>
    if seqDiff (s.aOut n) seq ≤ 32767 ∨ since + 100000000 ≤ s.el then s.restartTopcoat else s
/-- ACTIVATE_RESTART. -/
def execActivateRestart (s : State) : Out := .next (activateRestart s)

/-- The rings of port n set up, R568: their addresses, the window's level-1 table, and RINGS. -/
def State.setUpRings (s : State) (n : Nat) : State :=
  let s := (s.setReg (HP_INBASE.addr n) (Word.ofNat (inRing n))).setReg (HP_OUTBASE.addr n) (Word.ofNat (outRing n))
  let s := s.setFld (HWU_TBASE.addr n) HWU_TBASE.ADDR ((0x00780000 + 0x40 * n) / 64)
  let s := s.commitNow (HWU_TBASE.addr n) (HWU_FAULT.addr n)
  s.setFld (HP_STATUS.addr n) HP_STATUS.RINGS 1

/-- A port's session after a start, R430: where the records are complete it goes on, its messages in the rings being lost,
with TCRST and a STATE_REPORT; else there is none. -/
def State.rejoin (s : State) (n : Nat) : State :=
  let s := s.setUpRings n
  if s.ohp.records && (s.port n).session.isSome then
    let s := s.setFld (HP_INACK.addr n) HP_INACK.SEQ (s.fld (HP_INPROD.addr n) HP_INPROD.SEQ)
    (s.setFld (HP_STATUS.addr n) HP_STATUS.TCRST 1).report n 2
  else s.setPort n { Port.reset with twoWire := (s.port n).twoWire }

/-- What Topcoat does at a start about scrubbing, R520: with Float UNSET, or PASSDAY 330 days past, a new pass at once. -/
def State.scrubStart (s : State) : State :=
  if s.time.state = .unset ∨ 330 ≤ s.passDays then
    (s.setSec { s.sec with passNow := true, since := 0 }).writeJournal
      { s.journalNow with scrub := 0, passday := s.today % 65536 }
  else s.setSec { s.sec with since := 0 }

/-- Undercoat's work at a start of the core die, R510: it completes the journal, acts on a tamper latch (R525), boots a slot, and
Topcoat, or Undercoat in recovery, reports (R469) and sets up the rings. -/
def State.undercoat (s : State) : State :=
  let s := s.repairJournal
  let tampered := s.sec.tampered
  let s := if tampered then s.setSec { s.sec with domKeys := [], tampered := false } else s
  let s := s.boot false
  let s := if tampered && s.ohp.running then s.raiseFault 4 0x002A 0x1900 (s.fld SEC_TAMP.addr SEC_TAMP.PINS) else s
  let count := s.fld PWR_DOWNFAULT.addr PWR_DOWNFAULT.COUNT
  let s := if s.ohp.running then
      let s := (List.range (count - s.sup.reported)).foldl (fun s _ =>
        s.raiseFault 4 0x0026 0 (s.reg PWR_DOWNFAULT.addr).toNat) s
      s.scrubStart.setSup { s.sup with reported := count }
    else s
  (List.range 4).foldl (fun s n => s.rejoin n) s

end Sys2Proof.Machine
end

