-- ==== Sys2Proof/Machine/Bus.lean ====
section
/-! DEFINITION. The package address map as the Keeper and the Link processor meet it, R5 to R10 and R28 to R35: what a read
of each address returns and what a write does. -/

namespace Sys2Proof.Machine

/-! ## The map, R30 and R31 -/

/-- What lies at an address of the package map. A host port's register offsets that R334 does not list read 0. -/
inductive Place where
  | memory | mram | keepRam | rom | register | portGap | eio | unmapped
  deriving DecidableEq, Repr

/-- Whether a word address holds a register: those of the register tables, and TB_NOW and TB_PPSCAP, R75. -/
def isRegister (a : Nat) : Bool :=
  (fieldsAt a).isSome ||
    [0x40001010, 0x40001014, 0x40001018, 0x40001044, 0x40001048, 0x4000104C].contains a

/-- The content of an address, R30, R31 and R471. -/
def placeOf (a : Nat) : Place :=
  if a < 0x00800000 then .memory
  else if 0x08000000 ≤ a ∧ a < 0x08100000 then .memory
  else if 0x10000000 ≤ a ∧ a < 0x11000000 then .mram
  else if 0x20001800 ≤ a ∧ a < 0x20001818 then .register
  else if 0x20000000 ≤ a ∧ a < 0x20004000 then .keepRam
  else if 0x30000000 ≤ a ∧ a < 0x30010000 then .rom
  else if 0x42040000 ≤ a ∧ a < 0x42041000 then .eio
  else if isRegister (a / 4 * 4) then .register
  else if 0x40002000 ≤ a ∧ a < 0x40003000 then .portGap
  else .unmapped

/-! ## The cluster memory port, R34 and R35 -/

/-- The memory that CLn_MADDR selects: its base and the core whose program memory it is; none for the reserved SPACE. -/
def State.mdataAt (s : State) (n : Nat) : Option (Nat × Option Nat) :=
  let a := 4 * s.fld (CL_MADDR.addr n) CL_MADDR.ADDR
  match s.fld (CL_MADDR.addr n) CL_MADDR.SPACE with
  | 0 => some (dataMemBase n + a, none)
  | 1 => some (progMemBase (2 * n) + a % 0x10000, some (2 * n))
  | 2 => some (progMemBase (2 * n + 1) + a % 0x10000, some (2 * n + 1))
  | _ => none

/-- ADDR after an access through CLn_MDATA. -/
def State.mdataStep (s : State) (n : Nat) : State :=
  if s.fld (CL_MADDR.addr n) CL_MADDR.INC = 1 then
    s.setFld (CL_MADDR.addr n) CL_MADDR.ADDR (s.fld (CL_MADDR.addr n) CL_MADDR.ADDR + 1)
  else s

/-- A read of CLn_MDATA: the addressed word, or ones for the reserved SPACE. -/
def State.mdataLoad (s : State) (p : Side) (n : Nat) : State :=
  let w : Word := match s.mdataAt n with
    | some (a, _) => memReadWord s.mem a
    | none => 0xFFFFFFFF
  (s.mdataStep n).returns (sideKey p) w

/-- A write of CLn_MDATA: the word stored, or discarded with REFUSED for the program memory of a core not halted, or
discarded for the reserved SPACE. -/
def State.mdataStore (s : State) (n : Nat) (v : Word) : State :=
  let s := match s.mdataAt n with
    | some (a, none) => s.store a (leBytes 4 v.toNat)
    | some (a, some c) =>
      if (s.core c).halted then s.store a (leBytes 4 v.toNat) else s.setFld (CL_MADDR.addr n) CL_MADDR.REFUSED 1
    | none => s
  s.mdataStep n

/-- The cluster whose CLn_MDATA lies at an address. -/
def mdataCluster (a : Nat) : Option Nat := (List.range 8).find? (fun n => CL_MDATA.addr n = a)

/-- The domains that an access to an address reaches: that of its register or memory, and for CLn_MDATA that of the core
whose program memory is selected. -/
def State.domainsOf (s : State) (a : Nat) : List Nat :=
  (domainOf a).toList ++ match mdataCluster (a / 4 * 4) with
    | some n => match s.mdataAt n with
      | some (_, some c) => [coreBlock c]
      | _ => []
    | none => []

/-- The state once every domain that an access reaches is met, R445, or the first of them that is not powered. -/
def State.reach (s : State) (a : Nat) : Except AccessError State :=
  match (s.domainsOf a).find? (fun d => !s.isOn d) with
  | some d => .error (.waits d)
  | none => .ok ((s.domainsOf a).foldl (fun s d => s.withDomain d id) s)

/-! ## Registers as they read -/

/-- Registers of the TB as they read, R77 and R84. -/
def State.shownTb (s : State) (a : Nat) : Word :=
  let w := s.reg a
  if a = TB_STATUS.addr then
    fset (fset (fset w TB_STATUS.SRC s.sourceShown) TB_STATUS.STATE (floatCode s.time.state)) TB_STATUS.PLLLOCK
      (b2n (decide (s.time.pll = .locked)))
  else if a = TB_MODEL.addr then
    pack [(TB_MODEL.LEARNH, min 0xFFFF (s.time.learnMin / 60)), (TB_MODEL.REFBINS, s.learnedBins 0),
      (TB_MODEL.XKBINS, s.learnedBins 166)]
  else if a = TB_RATE.addr then BitVec.ofInt 32 (roundDiv (s.correction * 2 ^ 32) nominalStep.toNat)
  else w

/-- Registers of STP as they read, R180. -/
def State.shownStp (s : State) (a : Nat) : Word :=
  if a = STP_STATUS.addr then
    let w := fset (s.reg a) STP_STATUS.BUSY (b2n s.stp.running.isSome)
    let w := fset w STP_STATUS.PENDING (b2n !s.stp.pendingSlots.isEmpty)
    let w := fset w STP_STATUS.RUNSLOT ((s.stp.running.map (·.slot)).getD 0)
    fset w STP_STATUS.QLEVEL s.stp.waiting.length
  else s.reg a

/-- Registers of LOG as they read, R213 to R215. -/
def State.shownLog (s : State) (a : Nat) : Word :=
  let o := a - 0x4000A000
  let r := (o - 0x100) / 0x20
  if a = LOG_FSTAT.addr then
    let w := fset (s.reg a) LOG_FSTAT.BACKLOG (min 0xFFFF s.backlog.length)
    let w := fset w LOG_FSTAT.ERASING (b2n (decide (s.flusher.task = some .erase)))
    fset w LOG_FSTAT.PROG (b2n (match s.flusher.task with | some (.program ..) => true | some .index => true | _ => false))
  else if 0x100 ≤ o ∧ o < 0x600 ∧ o % 0x20 = 0x0C then Word.ofNat (s.seqShown r)
  else if 0x100 ≤ o ∧ o < 0x600 ∧ o % 0x20 = 0x10 then Word.ofNat (s.seqOldest r)
  else if 0x800 ≤ o then
    let h := (o - 0x800) / 8
    let x := s.handle h
    if o % 8 = 0 then
      pack [(LOG_BTA.STATE, stateCode x.st), (LOG_BTA.RING, x.ring), (LOG_BTA.SEGS, min 2047 (s.segsOf h))]
    else Word.ofNat x.first
  else s.reg a

/-- Registers of a tile as they read, R130 to R132. -/
def State.shownTile (s : State) (t a : Nat) : Word :=
  let x := s.tile t
  let w := s.reg a
  if a = TILE_STATUS.addr t then
    fset (fset (fset w TILE_STATUS.RUNNING (b2n x.running)) TILE_STATUS.PENDING (b2n x.pending.isSome))
      TILE_STATUS.BUFLVL x.buffer.length
  else if a = TILE_FIFOSTAT.addr t then fset w TILE_FIFOSTAT.LEVEL x.fifo.length
  else if TILE_TRKB.addr t 0 ≤ a ∧ a < TILE_TRKB.addr t 3 then
    BitVec.ofInt 32 (roundDiv (x.trk.b.getD ((a - TILE_TRKB.addr t 0) / 4) 0) 65536)
  else if a = TILE_TRKST.addr t then fset w TILE_TRKST.CONF x.trk.conf
  else w

/-- Registers of a slice as they read, R179. -/
def State.shownSlice (s : State) (n a : Nat) : Word :=
  if a = RS_STATUS.addr n then fset (s.reg a) RS_STATUS.PENDING (b2n (s.slice n).pending.isSome)
  else if a = RS_COALST.addr n then fset (s.reg a) RS_COALST.INUSE (s.slice n).coal.length
  else s.reg a

/-- Registers of a two-wire bus as they read, R383 and R384. -/
def State.shownTwb (s : State) (n a : Nat) : Word :=
  if a = TWB_STATUS.addr n then s.twbStatus n else if a = TWB_ALERT.addr n then s.alertWord n else s.reg a

/-- Registers of a clocked serial port as they read, R405 and R400. -/
def State.shownCsp (s : State) (n a : Nat) : Word :=
  if a = CSP_STATUS.addr n then s.cspStatus n
  else if a = CSP_DRAIN.addr n then pack [(CSP_DRAIN.NS, s.cspDrain n)]
  else s.reg a

/-- Registers of the cluster control, R314. -/
def State.shownCtl (s : State) (n a : Nat) : Word :=
  if a = CL_CORECTL.addr n 0 then s.coreCtlWord (2 * n)
  else if a = CL_CORECTL.addr n 1 then s.coreCtlWord (2 * n + 1)
  else s.reg a

/-- A register's word with the fields that the hardware shows. -/
def State.shown (s : State) (a : Nat) : Word :=
  if a < 0x40001000 then
    if a = PWR_ADMIT.addr then s.admitWord else if a = PWR_RSTAT.addr then s.rstatWord else s.reg a
  else if a < 0x40002000 then s.shownTb a
  else if a < 0x40003000 then
    let n := (a - 0x40002000) / 0x400
    if a = HP_STATUS.addr n then s.hpStatus n else if a = HP_ATTN.addr n then s.hpAttn n else s.reg a
  else if a < 0x40006000 then (if a = SEC_STATUS.addr then s.secStatus else s.reg a)
  else if a < 0x40009000 then
    if a = SCR_STATUS.addr then s.scrStatus
    else if a = SCR_NEIGH.addr then s.scrNeigh
    else if a = SCR_COAL.addr then s.scrCoal
    else s.reg a
  else if a < 0x4000A000 then s.shownStp a
  else if a < 0x4000B000 then s.shownLog a
  else if a < 0x4000C000 then (if a = FAULT_STATUS.addr then s.faultStatus else s.reg a)
  else if a < 0x42000000 then
    let n := (a - 0x41000000) / 0x10000
    let o := (a - 0x41000000) % 0x10000
    if o < 0x1000 then s.shownCtl n a
    else if o < 0x5000 then s.shownTile (4 * n + (o / 0x1000 - 1)) a
    else s.shownSlice n a
  else if a < 0x42010000 then s.shownTwb ((a - 0x42000000) / 0x1000) a
  else if a < 0x42020000 then s.shownCsp ((a - 0x42010000) / 0x1000) a
  else s.reg a

/-- A read without a behaviour of its own, R6: the word by the types of its fields; RC fields are cleared. To the Keeper
HPn_ERR is RO, R334. -/
def State.plainRead (s : State) (p : Side) (a : Nat) : State :=
  let fs := (fieldsAt a).getD []
  let s1 := if afterRead fs (s.reg a) = s.reg a ∨ (0x40002000 ≤ a ∧ a < 0x40003000) then s
    else s.setReg a (afterRead fs (s.reg a))
  s1.returns (sideKey p) (readWord fs (s.shown a))

/-- A later word of a snapshot, R79, R134, R178, R244 and R540; its reset value where the side has taken none (for the lane
registers, log entry 87). -/
def State.snapRead (s : State) (p : Side) (first k : Nat) : State :=
  s.returns (sideKey p) ((Tab.get [] s.snaps (snapKey p first)).getD k (regDefault (first + 4 * k)))

/-- A read of a tile's register. -/
def State.readTile (s : State) (p : Side) (t a : Nat) : State :=
  let o := a - tileBase t
  let l := (o - 0x400) / 0x80
  if 0x400 ≤ o ∧ 0x60 ≤ o % 0x80 then
    if o % 0x80 = 0x60 then tileLvalSnapshot p (Fin.ofNat 32 t) (Fin.ofNat 16 l) s
    else s.snapRead p (TILE_LVAL.addr t l) ((o % 0x80 - 0x60) / 4)
  else s.plainRead p a

/-- A read of a cluster's register. -/
def State.readCluster (s : State) (p : Side) (a : Nat) : State :=
  let n := (a - 0x41000000) / 0x10000
  let o := (a - 0x41000000) % 0x10000
  if o = 0x44 then s.mdataLoad p n
  else if o = 0x50 then ucdata0Read p (Fin.ofNat 8 n) s
  else if o = 0x54 then ucdata1Read p (Fin.ofNat 8 n) s
  else if 0x1000 ≤ o ∧ o < 0x5000 then s.readTile p (4 * n + (o / 0x1000 - 1)) a
  else if 0x8000 ≤ o ∧ o < 0xC000 ∧ o % 0x200 = 0x30 then
    rsEstateSnapshot p (Fin.ofNat 256 (32 * n + (o - 0x8000) / 0x200)) s
  else if 0x8000 ≤ o ∧ o < 0xC000 ∧ o % 0x200 = 0x34 then s.snapRead p (a - 4) 1
  else s.plainRead p a

/-- The sense block notes an access to its registers, R227. -/
def State.noteSense (s : State) (a : Nat) : State := if 0x40007000 ≤ a ∧ a < 0x40008000 then s.senseAsked else s

/-- A read of a register by a processor: what it returns is the processor's latest read result. -/
def State.readRegister (s : State) (p : Side) (a : Nat) : State :=
  let s := s.noteSense a
  if a = 0x40001010 then tbNowSnapshot p false s
  else if a = 0x40001044 then tbNowSnapshot p true s
  else if 0x40001014 ≤ a ∧ a < 0x4000101C then s.snapRead p 0x40001010 ((a - 0x40001010) / 4)
  else if 0x40001048 ≤ a ∧ a < 0x40001050 then s.snapRead p 0x40001044 ((a - 0x40001044) / 4)
  else if 0x40004000 ≤ a ∧ a < 0x40005000 then
    s.returns (sideKey p) (readWord ((fieldsAt a).getD []) (s.resReg p a))
  else if a = SNS_OWRUN.addr then snsOwrunSnapshot p s
  else if a = SNS_OWFIX.addr then s.snapRead p SNS_OWRUN.addr 1
  else if 0x40007100 ≤ a ∧ a < 0x40007220 then
    let k := (a - 0x40007100) / 0x10
    if a % 0x10 = 0 then snsEzSnapshot p (Fin.ofNat 18 k) s else s.snapRead p (a / 0x10 * 0x10) (a % 0x10 / 4)
  else if a = FAULT_REC.addr 0 then faultRecSnapshot p s
  else if FAULT_REC.addr 1 ≤ a ∧ a < FAULT_REC.addr 6 then s.snapRead p (FAULT_REC.addr 0) ((a - FAULT_REC.addr 0) / 4)
  else if 0x41000000 ≤ a ∧ a < 0x41080000 then s.readCluster p a
  else if 0x42020000 ≤ a ∧ a < 0x42020800 then
    match s.timerRead ((a - 0x42020000) / 0x40) ((a - 0x42020000) % 0x40) (sideCore p) with
    | some (w, s) => s.returns (sideKey p) w
    | none => s
  else s.plainRead p a

/-! ## Registers as they are written -/

/-- A write without a behaviour of its own, R6. -/
def State.plainWrite (s : State) (a : Nat) (v : Word) : State :=
  s.setReg a (writeWord ((fieldsAt a).getD []) (s.reg a) v)

/-- A write of a host port's register by a processor, R334: the fields that the host writes are RO to it. -/
def State.keeperPort (s : State) (a : Nat) (v : Word) : State :=
  let n := (a - 0x40002000) / 0x400
  match (a - 0x40002000) % 0x400 with
  | 0x04 =>
    let s := s.setFld a HP_STATUS.RINGS (fget v HP_STATUS.RINGS)
    if fget v HP_STATUS.TCRST = 1 then s.setFld a HP_STATUS.TCRST 1 else s
  | 0x0C => if fget v HP_CTL.ABORT = 0 then s.setFld (HP_CTL.addr n) HP_CTL.ABORT 0 else s
  | 0x18 => s.setFld a HP_INACK.SEQ (fget v HP_INACK.SEQ)
  | 0x1C => s.setFld a HP_OUTPROD.SEQ (fget v HP_OUTPROD.SEQ)
  | 0x28 => s.setReg a v
  | 0x2C => s.setReg a v
  | _ => s

/-- The KEEP alarm that a processor has written is the host's alarm of R520 (log entry 92). -/
def State.noteAlarm (s : State) : State :=
  let sec := (s.reg PWR_KALARM0.addr).toNat + 2 ^ 32 * s.fld PWR_KALARM1.addr PWR_KALARM1.SEC_HI
  s.setPwr { s.pwr with hostAlarm := if s.fld PWR_KALARM1.addr PWR_KALARM1.EN = 1 then some sec else none }

/-- A write of PWR's registers. -/
def State.writePwr (s : State) (a : Nat) (v : Word) : State :=
  if a = PWR_BASE.addr then s.writeBase (fget v PWR_BASE.MODE)
  else if a = PWR_FLOOR.addr then pwrFloorWrite v s
  else if a = PWR_COMMIT.addr then pwrCommit v s
  else if a = PWR_RESTORE.addr then pwrDiscard v (pwrRestore v s)
  else if a = PWR_KALARM0.addr ∨ a = PWR_KALARM1.addr then (s.plainWrite a v).noteAlarm
  else s.plainWrite a v

/-- A write of the TB's registers: each processor writes only its own bank of X registers, R83. -/
def State.writeTb (s : State) (p : Side) (a : Nat) (v : Word) : State :=
  if a = TB_CTL.addr then tbCtlWrite v s
  else if a = TB_COMMIT.addr then tbCommit v s
  else if a = TB_XK3.addr then claimSubmit p v s
  else if a = TB_XL3.addr then measurementSubmit p v s
  else if TB_XK0.addr ≤ a ∧ a < TB_XK3.addr then (if p = .keeper then s.plainWrite a v else s)
  else if TB_XL0.addr ≤ a ∧ a < TB_XL3.addr then (if p = .link then s.plainWrite a v else s)
  else if 0x40001100 ≤ a ∧ a < 0x40001140 then fictlWrite p (Fin.ofNat 16 ((a - 0x40001100) / 4)) v s
  else s.plainWrite a v

/-- A write of LOG's registers, R212 to R215. -/
def State.writeLog (s : State) (a : Nat) (v : Word) : State :=
  let o := a - 0x4000A000
  if a = LOG_RCOMMIT0.addr then logRcommit false v s
  else if a = LOG_RCOMMIT1.addr then logRcommit true v s
  else if a = LOG_BCMD.addr then
    let h := fget v LOG_BCMD.HANDLE
    match fget v LOG_BCMD.CMD with
    | 1 => s.batchArm (fget v LOG_BCMD.RING) h
    | 2 => s.batchOpen h none
    | 3 => s.batchClose h none
    | 4 => s.batchRelease h
    | _ => s
  else if a = LOG_FHEAD.addr ∨ a = LOG_FLSN.addr then
    (if s.fld LOG_CTL.addr LOG_CTL.FLEN = 1 then s
     else (s.plainWrite a v).setFlusher { s.flusher.idle with erased := none })
  else if 0x100 ≤ o ∧ o < 0x600 ∧ o % 0x20 = 0x10 then logRoldWrite (Fin.ofNat 40 ((o - 0x100) / 0x20)) v s
  else s.plainWrite a v

/-- A write of CLn_CORECTLc, R314 and R315: RST resets the core; RUN runs or halts it. How far a long instruction that the
halt abandons has come is free (R302). -/
def State.writeCorectl (s : State) (c : Nat) (v : Word) : State :=
  let s := if fget v CL_CORECTL.RST = 1 then s.rstCore c else s
  if fget v CL_CORECTL.RUN = 1 then s.resumeCore c else (s.haltCore (watchPort c) c (Config.freeNat s.free)).drawn

/-- A write of a cluster's registers. -/
def State.writeCluster (s : State) (a : Nat) (v : Word) : State :=
  let n := (a - 0x41000000) / 0x10000
  let o := (a - 0x41000000) % 0x10000
  if o = 0x44 then s.mdataStore n v
  else if o = 0x48 then isacfgWrite (Fin.ofNat 8 n) v s
  else if o = 0x50 then ucdata0Write (Fin.ofNat 8 n) v s
  else if o = 0x54 then ucdata1Write (Fin.ofNat 8 n) v s
  else if o = 0x60 then s.writeCorectl (2 * n) v
  else if o = 0x64 then s.writeCorectl (2 * n + 1) v
  else if o = 0x68 then pairWrite (Fin.ofNat 8 n) v s
  else if 0x1000 ≤ o ∧ o < 0x5000 ∧ o % 0x1000 = 8 then tileCommit (Fin.ofNat 32 (4 * n + (o / 0x1000 - 1))) v s
  else if o = 0xC004 then rsCommit (Fin.ofNat 8 n) v s
  else s.plainWrite a v

/-- A write of a two-wire bus or a clocked serial port. -/
def State.writeBus (s : State) (a : Nat) (v : Word) : State :=
  let n := a % 0x10000 / 0x1000
  let o := a % 0x1000
  if a < 0x42010000 then
    if o = 0x0C then twbCommit (Fin.ofNat 8 n) v s
    else if o = 0x18 then Machine.alertPop (Fin.ofNat 8 n) v s
    else if o = 0x20 then twbManGo (Fin.ofNat 8 n) v s
    else s.plainWrite a v
  else
    if o = 0x08 then cspCommit (Fin.ofNat 6 n) v s
    else if o = 0x14 then cspManGo (Fin.ofNat 6 n) v s
    else s.plainWrite a v

/-- A write of a register by a processor. A write of the supply registers is discarded, R471. -/
def State.writeRegister (s : State) (p : Side) (a : Nat) (v : Word) : State :=
  let s := s.noteSense a
  if a < 0x40000000 then s
  else if a < 0x40001000 then s.writePwr a v
  else if a < 0x40002000 then s.writeTb p a v
  else if a < 0x40003000 then s.keeperPort a v
  else if a = HWU_COMMIT.addr then hwuCommit v s
  else if a = HWU_INV.addr then hwuInv v s
  else if 0x40004000 ≤ a ∧ a < 0x40005000 then
    if a = RES_CMD.addr then s.resCommand p v
    else s.setResReg p a (writeWord ((fieldsAt a).getD []) (s.resReg p a) v)
  else if a = SEC_SCRUB.addr then secScrub v s
  else if a = SNS_COMMIT.addr then snsCommit v s
  else if a = STP_COMMIT.addr then stpCommit v s
  else if a = STP_TRIG.addr then stpTrig v s
  else if 0x4000A000 ≤ a ∧ a < 0x4000B000 then s.writeLog a v
  else if a = FAULT_POP.addr then faultPop v s
  else if 0x41000000 ≤ a ∧ a < 0x41080000 then s.writeCluster a v
  else if 0x42000000 ≤ a ∧ a < 0x42020000 then s.writeBus a v
  else if 0x42030000 ≤ a ∧ a < 0x42030020 then (s.latchWindow ((a - 0x42030000) / 4)).plainWrite a v
  else if 0x42020000 ≤ a ∧ a < 0x42020800 then
    let n := (a - 0x42020000) / 0x40
    let o := (a - 0x42020000) % 0x40
    s.timerBy (match p with | .keeper => .keeper | .link => .link) n o (fun s => (s.timerWrite n o v).getD s)
  else s.plainWrite a v

/-! ## Accesses -/

/-- Whether an access stops before it reaches its place: forbidden by the Link processor's memory protection unit or
outside the map (R28, R32), or not aligned to its size. -/
def accessCheck (p : Side) (a n : Nat) (write : Bool) : Option AccessError :=
  if p = .link ∧ !linkMay a write then some (.trap 3 a)
  else if placeOf a = .unmapped ∨ placeOf (a + n - 1) = .unmapped then some (.trap 3 a)
  else if a % n ≠ 0 then some (.trap 4 a)
  else if placeOf a = .eio then some .eio
  else none

/-- A read of n bytes by a processor, R10, R30 to R32: registers give the addressed bytes with the effects of a word
read. -/
def State.busRead (s : State) (p : Side) (a n : Nat) : Except AccessError (State × Nat) :=
  match accessCheck p a n false with
  | some e => .error e
  | none =>
    match s.reach a with
    | .error e => .error e
    | .ok s =>
      match placeOf a with
      | .register =>
        let s := s.readRegister p (a / 4 * 4)
        .ok (s, (Tab.get 0 s.rdata (sideKey p)).toNat / 2 ^ (8 * (a % 4)) % 2 ^ (8 * n))
      | .portGap => .ok (s.returns (sideKey p) 0, 0)
      | .mram => let s := s.mramRead a; .ok (s.returns (sideKey p) (Word.ofNat (ofLe (s.load a n))), ofLe (s.load a n))
      | _ => .ok (s.returns (sideKey p) (Word.ofNat (ofLe (s.load a n))), ofLe (s.load a n))

/-- Whether a processor may write a byte of KEEP RAM: only PWR writes the first 8 KiB (R448) and only the TB the last 4 KiB
(R64). -/
def keepWritable (a : Nat) : Bool := 0x20002000 ≤ a && a < 0x20003000

/-- A write of bytes by a processor, R10, R30 to R32: a register takes words only; the ROM, and the parts of KEEP RAM that
only hardware writes, discard it; an image slot outside SERVICE raises a bus error (R505). -/
def State.busWrite (s : State) (p : Side) (a : Nat) (b : List Byte) : Except AccessError State :=
  match accessCheck p a b.length true with
  | some e => .error e
  | none =>
    match s.reach a with
    | .error e => .error e
    | .ok s =>
      match placeOf a with
      | .register => .ok (if b.length = 4 then s.writeRegister p a (Word.ofNat (ofLe b)) else s)
      | .memory => .ok (s.store a b)
      | .mram =>
        if (slotOf a).isSome then (if s.mode = 7 then .ok (s.slotWrite p a b) else .error (.trap 3 a))
        else .ok (s.mramStore a b)
      | .keepRam => .ok (if keepWritable a then s.store a b else s)
      | _ => .ok s

/-- What an access that is not performed does to its processor: its exception, with ones for a read (R32); the wake of the
domain it waits for (log entry 16); or the stop of the EIO window. -/
def State.accessFails (s : State) (p : Side) (e : AccessError) (write : Bool) : Out :=
  match e with
  | .trap v a =>
    .next ((if write then s else s.returns (sideKey p) 0xFFFFFFFF).exception (sideCore p) v 0 0 a)
  | .waits d => .next (s.requestWake d)
  | .eio => .fault .eioRegister

end Sys2Proof.Machine
end

