-- ==== Sys2Proof/Machine/Flags.lean ====
section
/-! DEFINITION. The flag computations of GSI, R265, and the conditions of R266. FLAGS holds V, C, N and Z in bits 3 to 0
(R256). -/

namespace Sys2Proof.Machine

/-- FLAGS from its four bits, R256. -/
def packFlags (v c n z : Bool) : BitVec 4 := BitVec.ofNat 4 (8 * b2n v + 4 * b2n c + 2 * b2n n + b2n z)
/-- FLAGS.Z. -/
def flagZ (f : BitVec 4) : Bool := f.getLsbD 0
/-- FLAGS.N. -/
def flagN (f : BitVec 4) : Bool := f.getLsbD 1
/-- FLAGS.C. -/
def flagC (f : BitVec 4) : Bool := f.getLsbD 2
/-- FLAGS.V. -/
def flagV (f : BitVec 4) : Bool := f.getLsbD 3

/-- Z and N describe a result; C and V stay, R265. -/
def flagsZN (f : BitVec 4) (r : Word) : BitVec 4 := packFlags (flagV f) (flagC f) (r.getLsbD 31) (decide (r = 0))
/-- Z, N and a C; V stays. -/
def flagsZNC (f : BitVec 4) (r : Word) (c : Bool) : BitVec 4 := packFlags (flagV f) c (r.getLsbD 31) (decide (r = 0))

/-- An ADD-class result a + b + carry with its flags, R265: C the carry out of bit 31, V the signed overflow. -/
def addFlags (a b : Word) (carry : Bool) : Word × BitVec 4 :=
  let n := a.toNat + b.toNat + b2n carry
  let i := a.toInt + b.toInt + b2n carry
  let r := Word.ofNat n
  (r, packFlags (decide (r.toInt ≠ i)) (decide (2 ^ 32 ≤ n)) (r.getLsbD 31) (decide (r = 0)))

/-- A SUB-class result a − b − 1 + carry with its flags, R265: C is 1 when there is no borrow, V the signed overflow. SUB
takes carry as 1. -/
def subFlags (a b : Word) (carry : Bool) : Word × BitVec 4 :=
  let i := a.toInt - b.toInt - 1 + b2n carry
  let r := BitVec.ofInt 32 i
  (r, packFlags (decide (r.toInt ≠ i)) (decide (b.toNat + 1 ≤ a.toNat + b2n carry)) (r.getLsbD 31) (decide (r = 0)))

/-- A logical result: Z and N. -/
def znFlags (f : BitVec 4) (r : Word) : Word × BitVec 4 := (r, flagsZN f r)

/-- A shift by n & 31 with its flags: C is the last bit shifted out, unchanged for a count of 0, R265. -/
def shiftFlags (f : BitVec 4) (n : Nat) (r : Word) (last : Bool) : Word × BitVec 4 :=
  (r, flagsZNC f r (if n = 0 then flagC f else last))

/-- SHL, R271. -/
def shlFlags (f : BitVec 4) (a n : Word) : Word × BitVec 4 :=
  shiftFlags f (n.toNat % 32) (a <<< (n.toNat % 32)) (a.getLsbD (32 - n.toNat % 32))
/-- SHR, R271. -/
def shrFlags (f : BitVec 4) (a n : Word) : Word × BitVec 4 :=
  shiftFlags f (n.toNat % 32) (a >>> (n.toNat % 32)) (a.getLsbD (n.toNat % 32 - 1))
/-- SAR, R271. -/
def sarFlags (f : BitVec 4) (a n : Word) : Word × BitVec 4 :=
  shiftFlags f (n.toNat % 32) (a.sshiftRight (n.toNat % 32)) (a.getLsbD (n.toNat % 32 - 1))
/-- ROR, R271: C is result bit 31. -/
def rorFlags (f : BitVec 4) (a n : Word) : Word × BitVec 4 :=
  shiftFlags f (n.toNat % 32) (a.rotateRight (n.toNat % 32)) ((a.rotateRight (n.toNat % 32)).getLsbD 31)
/-- ABS, R271: Z, N and V, which is 1 only for −2^31. -/
def absFlags (f : BitVec 4) (a : Word) : Word × BitVec 4 :=
  (absW a, packFlags (decide (a = 0x80000000)) (flagC f) ((absW a).getLsbD 31) (decide (absW a = 0)))

/-- Whether the branch of condition cc is taken, R266. -/
def branchTaken (cc : Nat) (f : BitVec 4) : Bool :=
  match cc with
  | 1 => flagZ f
  | 2 => !flagZ f
  | 3 => flagN f != flagV f
  | 4 => flagN f == flagV f
  | 5 => !flagC f
  | 6 => flagC f
  | _ => true

end Sys2Proof.Machine
end

