-- ==== Sys2Proof/Machine/Operands.lean ====
section
/-! DEFINITION. Operand forms of GSI: the two encodings (R267 to R270), fetching and decoding at a processor's program
counter (R260), stack preparation (R252, R253), and the data accesses of the processors (R259, R304, R305). -/

namespace Sys2Proof.Machine

/-! ## Encodings -/

/-- A decoded instruction without its prefixes. Zero-operand and page-1 instructions are named by their numbers in R271;
a branch by its condition of R266 (7 is CALL); a load or store by the m of R271; its offset is unscaled. -/
inductive Op where
  | zero (o : Nat)
  | page1 (o : Nat)
  | pushi (i : Word)
  | branch (cc : Nat) (d : Int)
  | mem (m off : Nat)
  | rsr (n : Nat)
  | wsr (n : Nat)
  | ioIn (a : Nat)
  | ioOut (a : Nat)
  | loop (l : Nat)
  | custom (slot imm : Nat)
  deriving DecidableEq, Repr

/-- The prefixes that zero-operand instruction o allows, K and N, by the table of R271; none where o is unassigned. -/
def zeroPrefixes (o : Nat) : Option (Bool × Bool) :=
  if o ≤ 0x0C then some (false, false)
  else if 0x10 ≤ o ∧ o ≤ 0x1F then some (true, true)
  else if 0x20 ≤ o ∧ o ≤ 0x25 then some (true, false)
  else if 0x26 ≤ o ∧ o ≤ 0x28 then some (true, true)
  else if 0x2C ≤ o ∧ o ≤ 0x2D then some (true, false)
  else if 0x2E ≤ o ∧ o ≤ 0x2F then some (false, false)
  else if 0x30 ≤ o ∧ o ≤ 0x34 then some (true, false)
  else if 0x38 ≤ o ∧ o ≤ 0x42 then some (true, false)
  else if o = 0x43 then some (false, false)
  else if 0x48 ≤ o ∧ o ≤ 0x50 then some (false, false)
  else none

/-- The prefixes that page-1 instruction o allows, K and N, by the table of R271; none where o is unassigned. -/
def page1Prefixes (o : Nat) : Option (Bool × Bool) :=
  match o with
  | 0 => some (false, false)
  | 1 => some (true, true)
  | 2 => some (true, false)
  | 3 => some (true, true)
  | _ => none

/-- The prefixes that an instruction allows, K and N; CUSTOM allows KEEP if its slot does (R280). -/
def Op.prefixes (keepok : Nat → Bool) : Op → Option (Bool × Bool)
  | .zero o => zeroPrefixes o
  | .page1 o => page1Prefixes o
  | .mem _ _ => some (true, false)
  | .custom slot _ => some (keepok slot, false)
  | .pushi _ | .branch _ _ | .rsr _ | .wsr _ | .ioIn _ | .ioOut _ | .loop _ => some (false, false)

/-- Whether an instruction is assigned and allows the prefixes given, R268 and R269. -/
def Op.accepts (keepok : Nat → Bool) (o : Op) (keep nf : Bool) : Bool :=
  match o.prefixes keepok with
  | some (k, n) => (k || !keep) && (n || !nf)
  | none => false

/-- What the bytes or words at an address spell: an instruction with its length in units of the address, an encoding that
raises ILLEGAL, or too few to tell. -/
inductive Spelled where
  | op (o : Op) (keep nf : Bool) (len : Nat)
  | illegal
  | short
  deriving DecidableEq, Repr

/-- An instruction whose prefixes are checked. -/
def spelled (keepok : Nat → Bool) (o : Op) (keep nf : Bool) (len : Nat) : Spelled :=
  if o.accepts keepok keep nf then .op o keep nf len else .illegal

/-- The narrow instruction word w after k EXT words of payload x, R267 and R268; none where it raises ILLEGAL. -/
def narrowOp (x k w : Nat) : Option Op :=
  let u (f : Nat) : Nat := x * 2 ^ f + w % 2 ^ f
  if 0x2000 ≤ w then some (.pushi (BitVec.ofInt 32 (signed (10 * k + 13) (u 13))))
  else if 0x1000 ≤ w then some (.branch (w / 512 % 8) (signed (10 * k + 9) (u 9)))
  else if 0x0F00 ≤ w then some (.ioOut (u 8 * 4 % 2 ^ 16))
  else if 0x0E00 ≤ w then some (.ioIn (u 8 * 4 % 2 ^ 16))
  else if 0x0D00 ≤ w then some (.wsr (u 8))
  else if 0x0C00 ≤ w then some (.rsr (u 8))
  else if 0x0800 ≤ w then none
  else if 0x0740 ≤ w ∧ w ≤ 0x077F then (if k = 0 then some (.page1 (w % 64)) else none)
  else if 0x0700 ≤ w then none
  else if 0x0600 ≤ w then some (.loop (u 8))
  else if 0x0500 ≤ w then some (.custom (w / 8 % 32) (u 3))
  else if 0x0400 ≤ w then (if k = 0 then some (.zero (w % 256)) else none)
  else some (.mem (w / 128 % 8) (u 7))

/-- Whether a narrow word is a PFX word. -/
def isPfx (w : Nat) : Bool := decide (0x0700 ≤ w ∧ w ≤ 0x0703)
/-- Whether a narrow word is an EXT word. -/
def isExt (w : Nat) : Bool := decide (0x0800 ≤ w ∧ w ≤ 0x0BFF)

/-- A narrow instruction from its first word, R268: one PFX and up to two EXT words may precede the instruction word. -/
def decodeNarrow (keepok : Nat → Bool) (ws : List Nat) : Spelled :=
  let p := ws.headD 0
  let (keep, nf, n, ws) : Bool × Bool × Nat × List Nat :=
    if isPfx p then (decide (p / 2 % 2 = 1), decide (p % 2 = 1), 1, ws.drop 1) else (false, false, 0, ws)
  let (x, k, ws) : Nat × Nat × List Nat :=
    match ws with
    | a :: b :: r =>
      if isExt a then (if isExt b then (a % 1024 * 1024 + b % 1024, 2, r) else (a % 1024, 1, b :: r)) else (0, 0, ws)
    | _ => (0, 0, ws)
  match ws with
  | [] => .short
  | w :: _ =>
    match narrowOp x k w with
    | some o => spelled keepok o keep nf (n + k + 1)
    | none => .illegal

/-- How many operand bytes a byte opcode has, by the table of R271; none where it is unassigned. -/
def operandBytes (b : Nat) : Option Nat :=
  if b ≤ 0x50 then some 0
  else if b = 0x80 then some 1
  else if b = 0x81 then some 2
  else if b = 0x82 then some 4
  else if 0x88 ≤ b ∧ b ≤ 0x8F then some 1
  else if 0x90 ≤ b ∧ b ≤ 0x97 then some 2
  else if 0xA0 ≤ b ∧ b ≤ 0xA7 then some 1
  else if 0xA8 ≤ b ∧ b ≤ 0xAF then some 2
  else if b = 0xB0 ∨ b = 0xB1 ∨ b = 0xB4 then some 1
  else if b = 0xB2 ∨ b = 0xB3 ∨ b = 0xB5 then some 2
  else if 0xC0 ≤ b ∧ b ≤ 0xDF then some 1
  else none

/-- The instruction of byte opcode b with its n operand bytes of value v. -/
def byteOp (b n v : Nat) : Op :=
  if b ≤ 0x50 then .zero b
  else if b ≤ 0x82 then .pushi (BitVec.ofInt 32 (signed (8 * n) v))
  else if b ≤ 0x97 then .branch (b % 8) (signed (8 * n) v)
  else if b ≤ 0xAF then .mem (b % 8) v
  else if b = 0xB0 then .rsr v
  else if b = 0xB1 then .wsr v
  else if b = 0xB2 then .ioIn v
  else if b = 0xB3 then .ioOut v
  else if b ≤ 0xB5 then .loop v
  else .custom (b % 32) v

/-- A byte instruction, R269, after the prefixes seen: KEEP, NF, PAGE1. -/
def decodePrefixed (keepok : Nat → Bool) (k n p : Bool) : List Byte → Spelled
  | [] => .short
  | b :: r =>
    let seen := b2n k + b2n n + b2n p
    if 0xFC ≤ b.toNat then
      if seen = 2 then .illegal
      else match b.toNat with
        | 0xFC => if k then .illegal else decodePrefixed keepok true n p r
        | 0xFD => if n then .illegal else decodePrefixed keepok k true p r
        | 0xFE => if p then .illegal else decodePrefixed keepok k n true r
        | _ => .illegal
    else if p then spelled keepok (.page1 b.toNat) k n (seen + 1)
    else match operandBytes b.toNat with
      | none => .illegal
      | some m =>
        if 6 < seen + 1 + m then .illegal
        else if r.length < m then .short
        else spelled keepok (byteOp b.toNat m (ofLe (r.take m))) k n (seen + 1 + m)

/-- A byte instruction from its first byte, R269. -/
def decodeBytes (keepok : Nat → Bool) (b : List Byte) : Spelled := decodePrefixed keepok false false false b

/-! ## Encoding, by the same tables -/

/-- Whether the narrow encoding admits an instruction's operands, R267 and R268: two EXT words carry 20 bits more. -/
def Op.narrowWf : Op → Bool
  | .zero o => (zeroPrefixes o).isSome
  | .page1 o => (page1Prefixes o).isSome
  | .pushi _ => true
  | .branch cc d => decide (cc < 8 ∧ -(2 ^ 28) ≤ d ∧ d < 2 ^ 28)
  | .mem m off => decide (m < 8 ∧ off < 2 ^ 27)
  | .rsr n => decide (n < 2 ^ 28)
  | .wsr n => decide (n < 2 ^ 28)
  | .ioIn a => decide (a < 2 ^ 16 ∧ a % 4 = 0)
  | .ioOut a => decide (a < 2 ^ 16 ∧ a % 4 = 0)
  | .loop l => decide (l < 2 ^ 28)
  | .custom slot imm => decide (slot < 32 ∧ imm < 2 ^ 23)

/-- Whether the byte encoding admits an instruction's operands, R269 and R271. -/
def Op.byteWf : Op → Bool
  | .zero o => (zeroPrefixes o).isSome
  | .page1 o => (page1Prefixes o).isSome
  | .pushi _ => true
  | .branch cc d => decide (cc < 8 ∧ -(2 ^ 15) ≤ d ∧ d < 2 ^ 15)
  | .mem m off => decide (m < 8 ∧ off < 2 ^ 16)
  | .rsr n => decide (n < 2 ^ 8)
  | .wsr n => decide (n < 2 ^ 8)
  | .ioIn a => decide (a < 2 ^ 16)
  | .ioOut a => decide (a < 2 ^ 16)
  | .loop l => decide (l < 2 ^ 16)
  | .custom slot imm => decide (slot < 32 ∧ imm < 2 ^ 8)

/-- Two EXT words and an instruction word that carry an immediate of 20 + f bits above the pattern base, R268. -/
def extended (base f v : Nat) : List Nat :=
  [0x0800 + v / 2 ^ (f + 10) % 1024, 0x0800 + v / 2 ^ f % 1024, base + v % 2 ^ f]

/-- The narrow words of an instruction with its prefixes, R267 and R268: a PFX word, and two EXT words before a word with an
immediate. A PUSHI keeps its 32 bits in the 33 that these carry. -/
def encodeNarrow (o : Op) (keep nf : Bool) : List Nat :=
  (if keep || nf then [0x0700 + 2 * b2n keep + b2n nf] else []) ++
    match o with
    | .zero o => [0x0400 + o]
    | .page1 o => [0x0740 + o]
    | .pushi i => extended 0x2000 13 (wrap 33 i.toInt)
    | .branch cc d => extended (0x1000 + 512 * cc) 9 (wrap 29 d)
    | .mem m off => extended (128 * m) 7 off
    | .rsr n => extended 0x0C00 8 n
    | .wsr n => extended 0x0D00 8 n
    | .ioIn a => extended 0x0E00 8 (a / 4)
    | .ioOut a => extended 0x0F00 8 (a / 4)
    | .loop l => extended 0x0600 8 l
    | .custom slot imm => extended (0x0500 + 8 * slot) 3 imm

/-- A byte opcode and its operand of n bytes, R269. -/
def opBytes (b n v : Nat) : List Byte := BitVec.ofNat 8 b :: leBytes n v

/-- The bytes of an instruction with its prefixes, R269 and R271, in its longest form. -/
def encodeBytes (o : Op) (keep nf : Bool) : List Byte :=
  (if keep then [0xFC] else []) ++ (if nf then [0xFD] else []) ++
    match o with
    | .zero o => opBytes o 0 0
    | .page1 o => 0xFE :: opBytes o 0 0
    | .pushi i => opBytes 0x82 4 i.toNat
    | .branch cc d => opBytes (0x90 + cc) 2 (wrap 16 d)
    | .mem m off => opBytes (0xA8 + m) 2 off
    | .rsr n => opBytes 0xB0 1 n
    | .wsr n => opBytes 0xB1 1 n
    | .ioIn a => opBytes 0xB2 2 a
    | .ioOut a => opBytes 0xB3 2 a
    | .loop l => opBytes 0xB5 2 l
    | .custom slot imm => opBytes (0xC0 + slot) 1 imm

/-! ## Fetch, R260 -/

/-- The side of the fabric on which the Keeper (16) and the Link processor (17) access the package. -/
def coreSide (c : Nat) : Side := if c = 16 then .keeper else .link

/-- An instruction fetched at an address, with the address of the next one. -/
structure Decoded where
  op : Op
  keep : Bool
  nf : Bool
  here : Nat
  next : Nat
  deriving DecidableEq, Repr

/-- What a fetch gives: an instruction; ILLEGAL with the first 32 bits fetched (R298); or an access not performed. -/
inductive Fetch where
  | got (s : State) (d : Decoded)
  | illegal (s : State) (bits : Nat)
  | fails (e : AccessError)
  deriving DecidableEq, Repr

/-- The line of a watch core's instruction cache that holds a byte address, R289: one of 256, by bits 11:4. -/
def State.cached (s : State) (c a : Nat) : Option (List Byte) :=
  match Tab.find (Tab.get [] s.pipe.caches c) (a / 16 % 256) with
  | some (tag, b) => if tag = a / 4096 then some b else none
  | none => none

/-- The instruction byte at byte address a, R260: from the instruction cache where it holds it, in deterministic mode from
program memory (R307). -/
def State.byteAt (s : State) (c a : Nat) : Byte :=
  let a := a % 65536
  let mem : Byte := (s.load (progMemBase (s.ident c) + a) 1).headD 0
  if (s.core c).det then mem
  else match s.cached c a with
    | some b => b.getD (a % 16) 0
    | none => mem
/-- The half-word of narrow word w, R260. -/
def State.halfAt (s : State) (c w : Nat) : Nat := (s.byteAt c (2 * w)).toNat + 256 * (s.byteAt c (2 * w + 1)).toNat
/-- The 14-bit instruction word at narrow word address w: bits 15:14 are ignored, R260. -/
def State.narrowAt (s : State) (c w : Nat) : Nat := s.halfAt c w % 2 ^ 14

/-- A line of the cache filled from program memory where it does not hold a byte address, R289. -/
def State.fillLine (s : State) (c a : Nat) : State :=
  let a := a % 65536
  match s.cached c a with
  | some _ => s
  | none =>
    let line := (a / 4096, s.load (progMemBase (s.ident c) + a / 16 * 16) 16)
    let t := Tab.put (Tab.get [] s.pipe.caches c) (a / 16 % 256) line
    { s with pipe := { s.pipe with caches := Tab.put s.pipe.caches c t } }

/-- The lines of the 8 bytes of one decode (R288) at an address cached, which deterministic mode does not (R307). -/
def State.lined (s : State) (det : Bool) (c at_ : Nat) : State :=
  if 16 ≤ c ∨ det then s
  else
    let a := if (s.core c).enc then at_ else 2 * at_
    (s.fillLine c a).fillLine c (a + 7)

/-- Whether a slot of the core's own decode table allows KEEP, R280. -/
def Core.keepok (x : Core) (slot : Nat) : Bool := (slotDesc (Tab.get 0 x.desc slot)).keepok

/-- A fetch by the Keeper or the Link processor, byte by byte until the instruction is whole, R32 and R260; each aligned
word is read once. -/
def State.fetchBus (s0 : State) (p : Side) (keepok : Nat → Bool) (at_ : Nat) : Nat → List Byte → State → Fetch
  | 0, _, s => .illegal s 0
  | k + 1, b, s =>
    let a := (at_ + b.length) % 2 ^ 32
    match s.busRead p a 1 with
    | .error e => .fails e
    | .ok (s', v) =>
      let s := if b.isEmpty ∨ a % 4 = 0 then { s' with rdata := s0.rdata } else s
      let b := b ++ [BitVec.ofNat 8 v]
      match decodeBytes keepok b with
      | .op o keep nf len => .got s ⟨o, keep, nf, at_, (at_ + len) % 2 ^ 32⟩
      | .short => State.fetchBus s0 p keepok at_ k b s
      | .illegal =>
        let w (i : Nat) : Nat :=
          match b[i]? with
          | some v => v.toNat
          | none => match s.busRead p ((at_ + i) % 2 ^ 32) 1 with
            | .ok (_, v) => v
            | .error _ => 255
        .illegal s (w 0 + 256 * w 1 + 65536 * w 2 + 16777216 * w 3)

/-- The instruction at an address of a processor's instruction space, R260. -/
def State.fetch (s : State) (c at_ : Nat) : Fetch :=
  let x := s.core c
  if 16 ≤ c then s.fetchBus (coreSide c) x.keepok at_ 7 [] s
  else
    let r := if x.enc then decodeBytes x.keepok ((List.range 7).map (fun i => s.byteAt c (at_ + i)))
      else decodeNarrow x.keepok ((List.range 4).map (fun i => s.narrowAt c (at_ + i)))
    match r with
    | .op o keep nf len => .got s ⟨o, keep, nf, at_, (at_ + len) % x.space c⟩
    | _ => .illegal s (if x.enc then ofLe ((List.range 4).map (fun i => s.byteAt c (at_ + i)))
        else s.halfAt c at_ + 65536 * s.halfAt c (at_ + 1))

/-! ## How an instruction goes -/

/-- How far an instruction comes: it executes; it waits (for buffered stores, a long instruction, or a domain's wake),
what it has moved standing; it raises an exception; or it meets the EIO window (log entry 9). -/
inductive Ran (α : Type) where
  | ok (s : State) (v : α)
  | waits (s : State)
  | traps (s : State) (v sub stk eval : Nat)
  | eio

/-- What follows an execution. -/
def Ran.bind {α β : Type} (r : Ran α) (f : State → α → Ran β) : Ran β :=
  match r with
  | .ok s v => f s v
  | .waits s => .waits s
  | .traps s v sub stk eval => .traps s v sub stk eval
  | .eio => .eio

/-! ## Data space, R259, R304 and R305 -/

/-- Whether a long instruction in flight admits no data access in its shadow, R294. -/
def Core.noData (x : Core) : Bool :=
  match x.long with
  | some l => match l.kind with
    | .movb | .custom _ _ => true
    | _ => false
  | none => false

/-- An access error as what it does to the instruction; a read not performed gives ones on the package bus, R32. -/
def Ran.ofError {α : Type} (s : State) (c : Nat) (write : Bool) : AccessError → Ran α
  | .trap v a => .traps (if c < 16 || write then s else s.returns (sideKey (coreSide c)) 0xFFFFFFFF) v 0 0 a
  | .waits d => .waits (s.requestWake d)
  | .eio => .eio

/-- A load of n bytes of data space. -/
def State.dataLoad (s : State) (c a n : Nat) : Ran Nat :=
  if 16 ≤ c then
    match s.busRead (coreSide c) a n with
    | .ok (s, v) => .ok s v
    | .error e => .ofError s c false e
  else if (s.core c).noData then .waits s
  else match watchCheck a n with
    | some e => .ofError s c false e
    | none => match s.forwarded c a n with
      | some b => .ok s (ofLe b)
      | none => .waits s

/-- A store of bytes to data space: a watch core's enters the store buffer of four entries, R304, and in the shadow of a
long instruction it does not drain, R295. -/
def State.dataStore (s : State) (c a : Nat) (b : List Byte) : Ran Unit :=
  if 16 ≤ c then
    match s.busWrite (coreSide c) a b with
    | .ok s => .ok s ()
    | .error e => .ofError s c true e
  else
    let x := s.core c
    if x.noData then .waits s
    else match watchCheck a b.length with
      | some e => .ofError s c true e
      | none =>
        if x.stores.length < 4 then .ok (s.setCore c { x with stores := x.stores ++ [⟨a, b, x.long.isSome⟩] }) ()
        else .waits s

/-! ## Stack preparation, R251 to R253 -/

/-- The entries of a stack that are held in hardware: the data stack, or the return stack for ret. -/
def Core.held (x : Core) (ret : Bool) : Nat := if ret then x.rs.length else x.ds.length
/-- The pointer of a stack. -/
def Core.ptr (x : Core) (ret : Bool) : Word := if ret then x.rsp else x.dsp
/-- The base of a stack. -/
def Core.base (x : Core) (ret : Bool) : Word := if ret then x.rsbase else x.dsbase
/-- The limit of a stack. -/
def Core.lim (x : Core) (ret : Bool) : Word := if ret then x.rslim else x.dslim
/-- The bottom hardware entry; none where there is none or it is reserved. -/
def Core.bottom (x : Core) (ret : Bool) : Option Word :=
  if ret then x.rs.getLast? else x.ds.getLast?.join
/-- A stack after its bottom entry is spilled. -/
def Core.spilled (x : Core) (ret : Bool) : Core :=
  if ret then { x with rs := x.rs.dropLast, rsp := x.rsp - 4 } else { x with ds := x.ds.dropLast, dsp := x.dsp - 4 }
/-- A stack after an entry is filled. -/
def Core.filled (x : Core) (ret : Bool) (w : Word) : Core :=
  if ret then { x with rs := x.rs ++ [w], rsp := x.rsp + 4 } else { x with ds := x.ds ++ [some w], dsp := x.dsp + 4 }

/-- A stack move whose address lies outside data space raises STACK_FAULT with subcause BUS, R253. -/
def Ran.ofMove {α : Type} (stk a : Nat) : Ran α → Ran α
  | .traps s _ _ _ _ => .traps s 2 3 stk a
  | r => r

/-- One entry spilled, R251 and R253: OVER where the pointer less 4 is below the limit. -/
def State.spillOne (s : State) (c : Nat) (ret : Bool) : Ran Unit :=
  let x := s.core c
  let a := x.ptr ret - 4
  match x.bottom ret with
  | none => .waits s
  | some w =>
    if (x.ptr ret).toNat < (x.lim ret).toNat + 4 then .traps s 2 1 (b2n ret) a.toNat
    else (Ran.ofMove (b2n ret) a.toNat (s.dataStore c a.toNat (leBytes 4 w.toNat))).bind (fun s _ =>
      .ok (s.setCore c ((s.core c).spilled ret)) ())

/-- One entry filled, R251 and R253: UNDER where the pointer is at or above the base. -/
def State.fillOne (s : State) (c : Nat) (ret : Bool) : Ran Unit :=
  let x := s.core c
  let a := x.ptr ret
  if (x.base ret).toNat ≤ a.toNat then .traps s 2 2 (b2n ret) a.toNat
  else (Ran.ofMove (b2n ret) a.toNat (s.dataLoad c a.toNat 4)).bind (fun s v =>
    .ok (s.setCore c ((s.core c).filled ret (Word.ofNat v))) ())

/-- n entries spilled one by one. -/
def State.spills (c : Nat) (ret : Bool) : Nat → State → Ran Unit
  | 0, s => .ok s ()
  | n + 1, s => (s.spillOne c ret).bind (fun s _ => State.spills c ret n s)
/-- n entries filled one by one. -/
def State.fills (c : Nat) (ret : Bool) : Nat → State → Ran Unit
  | 0, s => .ok s ()
  | n + 1, s => (s.fillOne c ret).bind (fun s _ => State.fills c ret n s)

/-- One stack prepared for an instruction that pops inn entries and pushes out, R252. One that pushes none onto the stack
spills none of it, whatever an exception frame has left in the headroom (the example beside R254, R257). -/
def State.prepareOne (s : State) (c : Nat) (ret : Bool) (inn out : Nat) : Ran Unit :=
  (State.fills c ret (inn - (s.core c).held ret) s).bind (fun s _ =>
    State.spills c ret (if out = 0 then 0 else (s.core c).held ret - inn + out - 12) s)

/-- Both stacks prepared, the data stack first, R252. -/
def State.prepare (s : State) (c dIn dOut rIn rOut : Nat) : Ran Unit :=
  (s.prepareOne c false dIn dOut).bind (fun s _ => s.prepareOne c true rIn rOut)

/-- Entries of the data stack as values; none where one of them is reserved. -/
def allSome : List (Option Word) → Option (List Word)
  | [] => some []
  | none :: _ => none
  | some w :: r => (allSome r).map (w :: ·)

/-- An instruction on the two stacks: it pops n entries, topmost first, and pushes what f makes of them, topmost first, at
most m; rIn and rOut are its entries of the return stack. With KEEP the inputs stay in place, R269 and R252. -/
def State.onStacks (s : State) (c : Nat) (keep : Bool) (n m rIn rOut : Nat)
    (f : State → List Word → Ran (List Word)) : Ran Unit :=
  (s.prepare c n (if keep then n + m else m) rIn rOut).bind (fun s _ =>
    match allSome ((s.core c).ds.take n) with
    | none => .waits s
    | some ins => (f s ins).bind (fun s outs =>
        let x := s.core c
        .ok (s.setCore c { x with ds := outs.map some ++ x.ds.drop (if keep then 0 else n) }) ()))

end Sys2Proof.Machine
end

