-- ==== Sys2Proof/Machine/Gsi.lean ====
section
/-! DEFINITION. How a GSI instruction issues, executes and completes on a processor: what the commands of the GSI families
share, R277 and R294 to R297. -/

namespace Sys2Proof.Machine

/-- Whether an instruction may be in a shadow at all, R294. -/
def Op.shadowable : Op → Bool
  | .zero o => !([0x2C, 0x2D, 0x30, 0x31, 0x32, 0x33, 0x34, 0x41, 0x42, 0x43, 0x4B, 0x4C, 0x4D, 0x4E, 0x4F, 0x50].contains o)
  | .page1 o => o != 0
  | .pushi _ | .branch _ _ | .mem _ _ | .rsr _ => true
  | .wsr _ | .ioIn _ | .ioOut _ | .loop _ | .custom _ _ => false

/-- Whether a core issues an instruction while a long instruction is in flight, R294 and R307. The other conditions of
R294 make the instruction wait where they fail: a reserved entry needed or spilled, a data access beside MOVB or CUSTOM,
a full store buffer. The Keeper and the Link processor form no shadow (log entry 34). -/
def Core.admits (x : Core) (c : Nat) (d : Decoded) : Bool :=
  match x.long with
  | none => true
  | some l => decide (c < 16) && !x.det && d.op.shadowable && !x.loops.any (fun p => p.2.1 == d.here) && decide (l.shadow < 16)

/-- A GSI command: the processor issues the instruction at its pc if that is the command's own, R271. An unassigned
encoding raises ILLEGAL whichever instruction the command names. A shadow instruction that waits or raises an exception
stops issue with nothing done, R294 and R295. -/
def State.gsi (s : State) (c : Nat) (sel : Op → Bool) (body : Decoded → State → Ran Nat) : Out :=
  let x := s.core c
  if x.halted ∨ !s.works (coreBlock c) then .next s
  else match s.fetch c x.pc with
    | .fails e => s.accessFails (coreSide c) e false
    | .illegal s' bits => .next (if x.long.isSome then s else s'.exception c 1 0 0 bits)
    | .got s' d =>
      if sel d.op then
        match (if x.admits c d then body d s' else .waits s) with
        | .ok s' next => .next ((s'.setCore c ((s'.core c).completed d.here next x.long.isSome)).lined x.det c d.here)
        | .waits s' => .next (if x.long.isSome then s else s')
        | .traps s' v sub stk eval => .next (if x.long.isSome then s else s'.exception c v sub stk eval)
        | .eio => .fault .eioRegister
      else .next s

/-- An instruction on the stacks that goes on with the next one. -/
def State.plain (s : State) (c : Nat) (d : Decoded) (n m rIn rOut : Nat) (f : State → List Word → Ran (List Word)) :
    Ran Nat :=
  (s.onStacks c d.keep n m rIn rOut f).bind (fun s _ => .ok s d.next)

/-- An instruction that only moves data-stack entries or computes on them. -/
def State.pure (s : State) (c : Nat) (d : Decoded) (n m : Nat) (f : List Word → List Word) : Ran Nat :=
  s.plain c d n m 0 0 (fun s ins => .ok s (f ins))

/-- FLAGS of a processor set, unless the instruction has the NF prefix, R265. -/
def State.setFlags (s : State) (c : Nat) (nf : Bool) (f : BitVec 4) : State :=
  if nf then s else s.setCore c { s.core c with flags := f }

/-- ( a -- r ) with flags. -/
def State.unary (s : State) (c : Nat) (d : Decoded) (f : BitVec 4 → Word → Word × BitVec 4) : Ran Nat :=
  s.plain c d 1 1 0 0 (fun s ins =>
    let r := f (s.core c).flags (ins.getD 0 0)
    .ok (s.setFlags c d.nf r.2) [r.1])

/-- ( a b -- r ) with flags. -/
def State.binary (s : State) (c : Nat) (d : Decoded) (f : BitVec 4 → Word → Word → Word × BitVec 4) : Ran Nat :=
  s.plain c d 2 1 0 0 (fun s ins =>
    let r := f (s.core c).flags (ins.getD 1 0) (ins.getD 0 0)
    .ok (s.setFlags c d.nf r.2) [r.1])

/-- An address brought into the processor's instruction space, R260. -/
def State.inSpace (s : State) (c : Nat) (a : Int) : Nat := wrap 32 a % (s.core c).space c

end Sys2Proof.Machine
end

