-- ==== Sys2Proof/Machine/GsiFlow.lean ====
section
/-! DEFINITION. GSI: control flow, traps, waits and hardware loops, R266, R271, R276 to R279, R296, R301 and R303. -/

namespace Sys2Proof.Machine

/-- The displacement of a branch. -/
def Op.disp : Op → Int
  | .branch _ d => d
  | _ => 0

/-- Whether an instruction is the branch of condition cc. -/
def Op.isBranch (cc : Nat) : Op → Bool
  | .branch k _ => k == cc
  | _ => false

/-- The target of a branch: its displacement counts from the next instruction, modulo the space, R260 and R266. -/
def State.branchTarget (s : State) (c : Nat) (d : Decoded) : Nat := s.inSpace c (d.next + d.op.disp)

/-- A conditional branch: it consumes no entries. -/
def State.branchOp (s : State) (c : Nat) (d : Decoded) (cc : Nat) : Ran Nat :=
  .ok s (if branchTaken cc (s.core c).flags then s.branchTarget c d else d.next)

/-- BR. -/
def execBr (c : Fin 18) (s : State) : Out := s.gsi c (Op.isBranch 0) (fun d s => s.branchOp c d 0)
/-- BEQ. -/
def execBeq (c : Fin 18) (s : State) : Out := s.gsi c (Op.isBranch 1) (fun d s => s.branchOp c d 1)
/-- BNE. -/
def execBne (c : Fin 18) (s : State) : Out := s.gsi c (Op.isBranch 2) (fun d s => s.branchOp c d 2)
/-- BLT. -/
def execBlt (c : Fin 18) (s : State) : Out := s.gsi c (Op.isBranch 3) (fun d s => s.branchOp c d 3)
/-- BGE. -/
def execBge (c : Fin 18) (s : State) : Out := s.gsi c (Op.isBranch 4) (fun d s => s.branchOp c d 4)
/-- BLTU. -/
def execBltu (c : Fin 18) (s : State) : Out := s.gsi c (Op.isBranch 5) (fun d s => s.branchOp c d 5)
/-- BGEU. -/
def execBgeu (c : Fin 18) (s : State) : Out := s.gsi c (Op.isBranch 6) (fun d s => s.branchOp c d 6)

/-- A return address pushed on the return stack. -/
def State.pushReturn (s : State) (c a : Nat) : State :=
  s.setCore c { s.core c with rs := Word.ofNat a :: (s.core c).rs }

/-- CALL ( R: -- r ). -/
def State.callOp (s : State) (c : Nat) (d : Decoded) : Ran Nat :=
  (s.prepare c 0 0 0 1).bind (fun s _ => .ok (s.pushReturn c d.next) (s.branchTarget c d))
/-- CALL. -/
def execCall (c : Fin 18) (s : State) : Out := s.gsi c (Op.isBranch 7) (fun d s => s.callOp c d)

/-- CALLS ( a -- ; R: -- r ). -/
def State.callsOp (s : State) (c : Nat) (d : Decoded) : Ran Nat :=
  (s.prepare c 1 0 0 1).bind (fun s _ =>
    match (s.core c).ds with
    | some a :: r => .ok ((s.setCore c { s.core c with ds := r }).pushReturn c d.next) (s.inSpace c a.toNat)
    | _ => .waits s)
/-- CALLS. -/
def execCalls (c : Fin 18) (s : State) : Out := s.gsi c (· == .zero 0x4A) (fun d s => s.callsOp c d)

/-- JMPS ( a -- ). -/
def State.jmpsOp (s : State) (c : Nat) : Ran Nat :=
  (s.prepare c 1 0 0 0).bind (fun s _ =>
    match (s.core c).ds with
    | some a :: r => .ok (s.setCore c { s.core c with ds := r }) (s.inSpace c a.toNat)
    | _ => .waits s)
/-- JMPS. -/
def execJmps (c : Fin 18) (s : State) : Out := s.gsi c (· == .zero 0x49) (fun _ s => s.jmpsOp c)

/-- RET ( R: a -- ). -/
def State.retOp (s : State) (c : Nat) : Ran Nat :=
  (s.prepare c 0 0 1 0).bind (fun s _ =>
    let x := s.core c
    .ok (s.setCore c { x with rs := x.rs.drop 1 }) (s.inSpace c (x.rs.headD 0).toNat))
/-- RET. -/
def execRet (c : Fin 18) (s : State) : Out := s.gsi c (· == .zero 0x48) (fun _ s => s.retOp c)

/-- A core as the status word of a frame restores it, R303 and R279: FLAGS, IE and the masked depth; loops beyond the
LDEPTH at entry are discarded. -/
def Core.restoredBy (x : Core) (w : Word) : Core :=
  let n := w.toNat
  { x with flags := w.extractLsb' 0 4, ie := w.getLsbD 30, masked := n / 2 ^ 27 % 8
           loops := x.loops.drop (x.loops.length - n / 2 ^ 24 % 8) }

/-- RETI pops the status word and the return address, R303. -/
def State.retiOp (s : State) (c : Nat) : Ran Nat :=
  (s.prepare c 0 0 2 0).bind (fun s _ =>
    let x := s.core c
    .ok (s.setCore c { x.restoredBy (x.rs.headD 0) with rs := x.rs.drop 2 }) (s.inSpace c (x.rs.getD 1 0).toNat))
/-- RETI. -/
def execReti (c : Fin 18) (s : State) : Out := s.gsi c (· == .zero 0x4B) (fun _ s => s.retiOp c)

/-- BARRIER waits until no long instruction is in flight and the store buffer is empty, R296 and R306. -/
def State.barrierOp (s : State) (c : Nat) (d : Decoded) : Ran Nat :=
  let x := s.core c
  if x.long.isNone ∧ x.stores = [] then .ok s d.next else .waits s
/-- BARRIER. -/
def execBarrier (c : Fin 18) (s : State) : Out := s.gsi c (· == .zero 0x4C) (fun d s => s.barrierOp c d)

/-- WAIT completes when a source enabled in CORE_IEN is pending, whatever IE holds, R301. -/
def State.waitOp (s : State) (c : Nat) (d : Decoded) : Ran Nat :=
  match s.interruptOf c with
  | some _ => .ok s d.next
  | none => .waits (s.setCore c { s.core c with waiting := true })
/-- WAIT. -/
def execWait (c : Fin 18) (s : State) : Out := s.gsi c (· == .zero 0x4D) (fun d s => s.waitOp c d)

/-- TRAP ( n -- ) raises TRAP with n, R271; the exception is precise (R297). -/
def State.trapOp (s : State) (c : Nat) (d : Decoded) : Ran Nat :=
  s.plain c d 1 0 0 0 (fun s i => .traps s 6 0 0 (i.getD 0 0).toNat)
/-- TRAP. -/
def execTrap (c : Fin 18) (s : State) : Out := s.gsi c (· == .zero 0x4E) (fun d s => s.trapOp c d)
/-- BREAK ( -- ) raises BREAK. -/
def execBreak (c : Fin 18) (s : State) : Out := s.gsi c (· == .zero 0x4F) (fun _ s => .traps s 7 0 0 0)

/-! ## Hardware loops, R276 to R279 -/

/-- LEXIT pops the innermost loop; at or below the masked depth it acts as NOP. -/
def State.lexitOp (s : State) (c : Nat) (d : Decoded) : Ran Nat :=
  let x := s.core c
  .ok (if x.masked < x.loops.length then s.setCore c { x with loops := x.loops.drop 1 } else s) d.next
/-- LEXIT. -/
def execLexit (c : Fin 18) (s : State) : Out := s.gsi c (· == .zero 0x50) (fun d s => s.lexitOp c d)

/-- The end offset of LOOP. -/
def Op.endOffset : Op → Nat
  | .loop l => l
  | _ => 0

/-- The address after the instruction at E, which is decoded for its length, R276; E itself where it spells none. -/
def State.after (s : State) (c e : Nat) : Nat :=
  match s.fetch c e with
  | .got _ d => d.next
  | _ => e

/-- The first 32 bits of the instruction at an address, as fetched, R298. -/
def State.bitsAt (s : State) (c a : Nat) : Nat :=
  if 16 ≤ c then
    ofLe ((List.range 4).map (fun i =>
      match s.busRead (coreSide c) ((a + i) % 2 ^ 32) 1 with
      | .ok (_, v) => BitVec.ofNat 8 v
      | .error _ => 0xFF))
  else if (s.core c).enc then ofLe ((List.range 4).map (fun i => s.byteAt c (a + i)))
  else s.halfAt c a + 65536 * s.halfAt c (a + 1)

/-- LOOP ( n -- ) pushes a loop from the next instruction to E; for n of 0 execution goes on after the instruction at E; with
four loops active it raises ILLEGAL, R276. -/
def State.loopOp (s : State) (c : Nat) (d : Decoded) : Ran Nat :=
  if 4 ≤ (s.core c).loops.length then .traps s 1 0 0 (s.bitsAt c d.here)
  else
    let e := s.inSpace c (d.next + d.op.endOffset)
    (s.prepare c 1 0 0 0).bind (fun s _ =>
      let x := s.core c
      match x.ds with
      | some n :: r =>
        if n.toNat = 0 then .ok (s.setCore c { x with ds := r }) (s.after c e)
        else .ok (s.setCore c { x with ds := r, loops := (d.next, e, n.toNat) :: x.loops }) d.next
      | _ => .waits s)
/-- LOOP. -/
def execLoop (c : Fin 18) (s : State) : Out :=
  s.gsi c (fun o => match o with | .loop _ => true | _ => false) (fun d s => s.loopOp c d)

end Sys2Proof.Machine
end

