-- ==== Sys2Proof/Machine/GsiLong.lean ====
section
/-! DEFINITION. GSI: the long instructions, their issue and their retirement, R273, R274, R281, R293 to R297. -/

namespace Sys2Proof.Machine

/-- A long instruction issues, R293: it pops n inputs and reserves m outputs on top of the data stack; the core keeps the
state from which it issued. -/
def State.issueLong (s : State) (c : Nat) (d : Decoded) (kind : LongKind) (n m : Nat) : Ran Nat :=
  if (s.core c).long.isSome then .waits s
  else (s.prepare c n (if d.keep then n + m else m) 0 0).bind (fun s _ =>
    let x := s.core c
    match allSome (x.ds.take n) with
    | none => .waits s
    | some ins =>
      .ok (s.setCore c { x with
        ds := List.replicate m none ++ x.ds.drop (if d.keep then 0 else n)
        long := some { kind, ins, outs := m, shadow := 0
                       saved := { pc := d.here, ds := x.ds, rs := x.rs, dsp := x.dsp, rsp := x.rsp, flags := x.flags
                                  loops := x.loops } } }) d.next)

/-- DIV ( a b -- q ). -/
def execDiv (c : Fin 18) (s : State) : Out := s.gsi c (· == .zero 0x30) (fun d s => s.issueLong c d .div 2 1)
/-- DIVU ( a b -- q ). -/
def execDivu (c : Fin 18) (s : State) : Out := s.gsi c (· == .zero 0x31) (fun d s => s.issueLong c d .divu 2 1)
/-- REM ( a b -- r ). -/
def execRem (c : Fin 18) (s : State) : Out := s.gsi c (· == .zero 0x32) (fun d s => s.issueLong c d .rem 2 1)
/-- REMU ( a b -- r ). -/
def execRemu (c : Fin 18) (s : State) : Out := s.gsi c (· == .zero 0x33) (fun d s => s.issueLong c d .remu 2 1)
/-- SQRT ( a -- r ). -/
def execSqrt (c : Fin 18) (s : State) : Out := s.gsi c (· == .zero 0x34) (fun d s => s.issueLong c d .sqrt 1 1)
/-- MOVB ( s d n -- ). -/
def execMovb (c : Fin 18) (s : State) : Out := s.gsi c (· == .zero 0x43) (fun d s => s.issueLong c d .movb 3 0)

/-- CUSTOM: the slot's microcode as a long instruction; a slot not valid raises ILLEGAL, R280 and R281. -/
def State.customOp (s : State) (c : Nat) (d : Decoded) : Ran Nat :=
  match d.op with
  | .custom slot imm =>
    let e := slotDesc (Tab.get 0 (s.core c).desc slot)
    if e.valid then s.issueLong c d (.custom slot imm) e.nin e.nout else .traps s 1 0 0 (s.bitsAt c d.here)
  | _ => .waits s
/-- CUSTOM. -/
def execCustom (c : Fin 18) (s : State) : Out :=
  s.gsi c (fun o => match o with | .custom _ _ => true | _ => false) (fun d s => s.customOp c d)

/-! ## Retirement -/

/-- What a long instruction comes to at its end: its outputs, topmost first; an exception; or an access that waits or meets
the EIO window. -/
inductive LongEnd where
  | outs (s : State) (l : List Word)
  | traps (s : State) (v eval : Nat)
  | waits (dom : Nat)
  | eio

/-- An access error as the end of a long instruction. -/
def LongEnd.ofError (s : State) : AccessError → LongEnd
  | .trap v a => .traps s v a
  | .waits d => .waits d
  | .eio => .eio

/-- The memory of a processor for MOVB and micro-ops. -/
def memPort (c : Nat) : MemPort :=
  if c < 16 then watchPort c
  else { load := fun s a n => s.busRead (coreSide c) a n, store := fun s a b => s.busWrite (coreSide c) a b }

/-- A quotient or remainder; a divisor of 0 raises DIVZERO, R274. -/
def divided (s : State) (b r : Word) : LongEnd := if b = 0 then .traps s 5 0 else .outs s [r]

/-- The end of a long instruction, R271, R273 and R281. -/
def State.longEnd (s : State) (c : Nat) (l : LongOp) : LongEnd :=
  let a := l.ins.getD 1 0
  let b := l.ins.getD 0 0
  match l.kind with
  | .div => divided s b (BitVec.ofInt 32 (Int.tdiv a.toInt b.toInt))
  | .divu => divided s b (Word.ofNat (a.toNat / b.toNat))
  | .rem => divided s b (BitVec.ofInt 32 (Int.tmod a.toInt b.toInt))
  | .remu => divided s b (Word.ofNat (a.toNat % b.toNat))
  | .sqrt => .outs s [Word.ofNat (isqrt b.toNat)]
  | .movb =>
    match copyBytes (memPort c) b.toNat (l.ins.getD 2 0).toNat a.toNat s with
    | (s, _, none) => .outs s []
    | (s, _, some e) => .ofError s e
  | .custom slot imm =>
    let x := s.core c
    match runMicro (memPort c) x.micro 1024 (slotDesc (Tab.get 0 x.desc slot)).entry (setupU l.ins imm) s with
    | (s, .done u) => .outs s (u.take l.outs)
    | (s, .fault e) => .ofError s e
    | (s, .spent) => .traps s 1 (s.bitsAt c l.saved.pc)

/-- The reserved entries of the data stack take the outputs, topmost first. -/
def fillReserved : List (Option Word) → List Word → List (Option Word)
  | none :: r, w :: l => some w :: fillReserved r l
  | none :: r, [] => some 0 :: fillReserved r []
  | some v :: r, l => some v :: fillReserved r l
  | [], _ => []

/-- The long instruction in flight retires with its outputs, and its shadow commits, R295. -/
def State.retire (s : State) (c : Nat) (outs : List Word) : State :=
  let x := s.core c
  s.setCore c { x with ds := fillReserved x.ds outs, long := none, stores := x.stores.map (fun e => { e with shadow := false }) }

/-- LONG_RETIRE: the long instruction in flight ends; one that ends in an exception pushes its outputs as 0 and raises it,
with the next instruction not yet issued as the return address, R274 and R297. -/
def longRetire (c : Fin 18) (s : State) : Out :=
  let x := s.core c
  match x.long with
  | none => .next s
  | some l =>
    if !s.works (coreBlock c) then .next s
    else
      match s.longEnd c l with
      | .outs s' o => .next (s'.retire c o)
      | .traps s' v eval =>
        let s' := s'.retire c []
        let imp := decide (0 < l.shadow)
        .next (s'.enter c v (s'.core c).pc (causeWord v 0 0 imp) (Word.ofNat l.saved.pc) (Word.ofNat eval) imp)
      | .waits d => .next (s.requestWake d)
      | .eio => .fault .eioRegister
/-- LONG_RETIRE. -/
def execLongRetire (c : Fin 18) (s : State) : Out := longRetire c s

/-! ## Interrupt entry, R301 and R302 -/

/-- INTERRUPT_ENTRY: with IE 1 and a source pending and enabled, the lowest vector is entered; a WAIT has completed, with the
return address after it, and a long instruction in flight is abandoned after done bytes or micro-ops. -/
def State.interrupt (s : State) (c done : Nat) : State :=
  let x := s.core c
  if x.halted ∨ !s.works (coreBlock c) ∨ !x.ie then s
  else match s.interruptOf c with
    | none => s
    | some v =>
      let s := if x.waiting then s.setCore c (x.completed x.pc (s.after c x.pc) false) else s.abandon (memPort c) c done
      let x := s.core c
      let s := s.setCore c { x with soft := if v = 12 then false else x.soft, bell := if v = 11 then false else x.bell }
      s.enter c v (s.core c).pc (causeWord v 0 0 false) (Word.ofNat (s.core c).pc) 0 false
/-- INTERRUPT_ENTRY. -/
def interruptEntry (c : Fin 18) (done : Nat) (s : State) : State := s.interrupt c done
/-- INTERRUPT_ENTRY. -/
def execInterruptEntry (c : Fin 18) (done : Nat) (s : State) : Out := .next (interruptEntry c done s)

end Sys2Proof.Machine
end

