-- ==== Sys2Proof/Machine/OhpConfig.lean ====
section
/-! DEFINITION. The OHP messages that configure and load, open batches, map windows and read the log, R345 to R351. Topcoat
writes the registers as the Keeper does. -/

namespace Sys2Proof.Machine

/-- A refusal: a status and the fields that go with it, R341. -/
abbrev Refuse := Nat × List Byte

/-- NO_RESOURCE. -/
def noResource : Refuse := (stNoResource, [])

/-- A message executed once nothing that it needs holds it back: names says which message it is, waits what holds it back
and the state while it waits. -/
def State.serveWhen (s : State) (n : Nat) (names : Msg → Bool) (waits : Nat → Msg → State → Option State)
    (f : Nat → Msg → State → State) : State :=
  let t := if s.served then s.afterMessage n else s
  match (t.port n).taken with
  | m :: _ =>
    if t.served ∧ names m ∧ t.refusalOf n m = 0 ∧ !t.portBusy n then
      match waits ((t.port n).session.getD 0) m t with
      | some w => w
      | none => t.serve n names f
    else t
  | [] => t

/-- The wake of the first domain of a list that is not powered, R445 (log entry 16). -/
def State.wakeFirst (s : State) (doms : List Nat) : Option State := (doms.find? (fun d => !s.isOn d)).map s.requestWake

/-- The cluster that a message acts on, R344: that of its unit, or with BYROLE, of version 2.0, the one that holds the role,
where the epoch is that of its assignment. -/
def State.byRole (s : State) (v flags role epoch cluster : Nat) : Except Refuse Nat :=
  if flags.testBit 1 ∧ 0x20 ≤ v then
    match (s.role role).cluster with
    | some c => if epoch = (s.role role).epoch then .ok c else .error (stStaleRole, s.roleFields role)
    | none => .error (stStaleRole, s.roleFields role)
  else .ok cluster

/-- Whether a unit is one that Topcoat may claim for a tile or LOG in a message of port n: free, already its, or the port's
own; the refusal where it is another's, R530. -/
def State.mayClaimFor (s : State) (n cls inst owner : Nat) : Option Refuse :=
  let o := s.ownerOf cls inst
  if o = 0 ∨ o = owner ∨ o = hostOwner n then none else some (stConflict, conflictFields cls inst o)
/-- A unit claimed for a tile or LOG, for which port n answers, R530. -/
def State.claimFor (s : State) (n cls inst owner : Nat) : State :=
  let s := s.setOwner cls inst owner
  { s with ohp := { s.ohp with claimedFor := Tab.put s.ohp.claimedFor (unitKey cls inst) n } }

/-- A commit tried: the state after it, and whether it was refused. The REFUSED bit of the status register at a, if it was
set before, stays set. -/
def State.tried (s : State) (a : Nat) (refused : Fld) (commit : State → State) : State × Bool :=
  let t := commit (s.setFld a refused 0)
  if t.fld a refused = 1 then (t, true) else (t.setFld a refused (s.fld a refused), false)

/-! ## LANE_CONFIG, R347 -/

/-- A configuration whose checks have passed: its register writes, what Topcoat claims first (a port for a tile, a CSP for
LOG), the commit with its CERR and unit where it is refused, manual transactions of a two-wire bus, the status register of
the reply, and SUBS for the session block. -/
structure Plan where
  writes : List (Nat × Word)
  claim : Option (Nat × Nat × Nat) := none
  commit : Option (State → State × Option (Nat × Nat)) := none
  manual : Option (Nat × List Nat) := none
  status : Option Nat := none
  subs : Option Word := none

/-- The writes of a LANE_CONFIG: offset and value. -/
def laneWrites (b : List Byte) : Nat → List (Nat × Word)
  | 0 => []
  | k + 1 => (leAt b 0 2, Word.ofNat (leAt b 2 4)) :: laneWrites (b.drop 6) k

/-- The latest value written to an offset. -/
def written (ws : List (Nat × Word)) (o : Nat) : Option Word := (ws.reverse.find? (fun w => w.1 = o)).map (·.2)

/-- Whether an offset of a tile is accepted: TILE_CFG, TILE_PERIOD, the tracker registers and the lane registers to lane
offset 0x50. -/
def tileOffset (o : Nat) : Bool :=
  o % 4 == 0 && (o == 0 || o == 4 || (decide (0x20 ≤ o) && decide (o < 0x38)) ||
    (decide (0x400 ≤ o) && decide (o < 0xC00) && decide (o % 0x80 ≤ 0x50) && (tileFields o).isSome))

/-- The commit of tile t, and its CERR where it is refused. -/
def State.commitTile (s : State) (t : Nat) : State × Option (Nat × Nat) :=
  let (s, bad) := s.tried (TILE_STATUS.addr t) TILE_STATUS.REFUSED (tileCommit (Fin.ofNat 32 t) 1)
  (s, if bad then some (s.fld (TILE_STATUS.addr t) TILE_STATUS.CERR, 0) else none)

/-- The plan of a tile's writes, R343 and R530: the port holds the tile; the crossbar port that TILE_CFG names is claimed for
the tile where TILE_CFG is written or committed. -/
def State.tilePlan (s : State) (n t : Nat) (ws : List (Nat × Word)) (commit : Bool) : Except Refuse Plan :=
  match s.notHeld n 2 t with
  | some r => .error r
  | none =>
    let cfg := (written ws 0).getD (s.reg (TILE_CFG.addr t))
    let port := fget cfg TILE_CFG.PORT
    let needs := port < 32 ∧ (commit ∨ (written ws 0).isSome)
    match if needs then s.mayClaimFor n 3 port (0x1200 + t) else none with
    | some r => .error r
    | none =>
      .ok { writes := ws.map (fun w => (tileBase t + w.1, w.2))
            claim := if needs then some (3, port, 0x1200 + t) else none
            commit := if commit then some (fun s => s.commitTile t) else none
            status := some (TILE_STATUS.addr t) }

/-- The first of some units that port n does not hold. -/
def State.firstNotHeld (s : State) (n : Nat) (l : List (Nat × Nat)) : Option Refuse :=
  l.findSome? (fun u => s.notHeld n u.1 u.2)

/-- BLOCK 0x02: each converter is held as its crossbar port. -/
def State.analogPlan (s : State) (n : Nat) (ws : List (Nat × Word)) : Except Refuse Plan :=
  if ws.all (fun w => (adcFields w.1).isSome && w.1 % 4 == 0) then
    match s.firstNotHeld n (ws.map (fun w => (3, if w.1 < 0x40 then w.1 / 4 else 8 + (w.1 - 0x40) / 4))) with
    | some r => .error r
    | none => .ok { writes := ws.map (fun w => (0x42030000 + w.1, w.2)) }
  else .error noResource

/-- BLOCK 0x03: the time configuration; a change of the EN of an engine that the port does not hold is a CONFLICT. -/
def State.timePlan (s : State) (n : Nat) (ws : List (Nat × Word)) (commit : Bool) : Except Refuse Plan :=
  let fi (o : Nat) : Bool := 0x100 ≤ o && o < 0x140 && o % 4 == 0
  if ws.all (fun w => [0x000, 0x020, 0x024, 0x028, 0x030, 0x040].contains w.1 || fi w.1) then
    let ppsEn := ws.any (fun w => w.1 == 0x040 && decide (fget w.2 TB_PPSCFG.EN ≠ s.fld TB_PPSCFG.addr TB_PPSCFG.EN))
    let only := !commit && ws.all (fun w => fi w.1 && (s.notHeld n 6 ((w.1 - 0x100) / 4)).isNone)
    match if only then none else s.notHeld n 10 0 with
    | some r => .error (if ppsEn then (stConflict, conflictFields 10 0 (s.ownerOf 10 0)) else r)
    | none =>
      let engines := (ws.filter (fun w => fi w.1 &&
        decide (fget w.2 TB_FICTL.EN ≠ s.fld (0x40001000 + w.1) TB_FICTL.EN))).map (fun w => (w.1 - 0x100) / 4)
      match engines.find? (fun e => (s.notHeld n 6 e).isSome) with
      | some e => .error (stConflict, conflictFields 6 e (s.ownerOf 6 e))
      | none =>
        .ok { writes := ws.map (fun w => (0x40001000 + w.1, w.2))
              commit := if commit then some (fun s => (tbCommit 1 s, none)) else none
              status := some TB_STATUS.addr }
  else .error noResource

/-- BLOCK 0x04: the sense die. -/
def State.sensePlan (s : State) (n : Nat) (ws : List (Nat × Word)) (commit : Bool) : Except Refuse Plan :=
  let ok (o : Nat) : Bool := [0x20, 0x24, 0x28, 0x48, 0x50, 0x54, 0x58].contains o || (0x80 ≤ o && o < 0xC4 && o % 4 == 0)
  if ws.all (fun w => ok w.1) then
    match s.notHeld n 11 0 with
    | some r => .error r
    | none =>
      .ok { writes := ws.map (fun w => (0x40007000 + w.1, w.2))
            commit := if commit then some (fun s =>
                let (s, bad) := s.tried SNS_STATUS.addr SNS_STATUS.REFUSED (snsCommit 1)
                (s, if bad then some (s.fld SNS_STATUS.addr SNS_STATUS.CERR, 0) else none))
              else none
            status := some SNS_STATUS.addr }
  else .error noResource

/-- The words of descriptor d of 10 to 14 that Topcoat writes from a flash configuration, R203 and R397: DCMD, DADR, DFMT and DPOLL
for Write Enable, Page Program, Sector Erase, Read Status and Read in 8D-8D-8D or 1S-1S-1S (log entry 24). -/
def flashDesc (cfg : Word) (d : Nat) : List Word :=
  let octal : Bool := fget cfg LOG_FCFG.MODE = 0
  let lanes := if octal then 3 else 0
  let ddr := b2n octal
  let op := [0x06, 0x12, 0xDC, 0x05, 0xEE].getD (d - 10) 0
  let page := if fget cfg LOG_FCFG.PAGE = 1 then 512 else 256
  let abits := if d = 10 ∨ (d = 13 ∧ !octal) then 0 else 32
  let dummy := if d = 14 ∨ (d = 13 ∧ octal) then Config.flashDummy d % 32 else 0
  [ pack [(CSP_DCMD.EN, 1), (CSP_DCMD.DIR, if d = 11 then 2 else if 13 ≤ d then 1 else 0),
      (CSP_DCMD.CBITS, if octal then 16 else 8), (CSP_DCMD.CLANES, lanes), (CSP_DCMD.CDDR, ddr),
      (CSP_DCMD.CVAL, if octal then op * 256 + (255 - op) else op)],
    0,
    pack [(CSP_DFMT.ABITS, abits), (CSP_DFMT.ALANES, lanes), (CSP_DFMT.ADDR_DDR, ddr), (CSP_DFMT.DUMMY, dummy),
      (CSP_DFMT.DLANES, lanes), (CSP_DFMT.DDDR, ddr),
      (CSP_DFMT.DLEN, if d = 11 then page else if d = 13 then 1 + ddr else if d = 14 then 4096 else 0)],
    if d = 13 then pack [(CSP_DPOLL.POLL, 1), (CSP_DPOLL.MASK, 1), (CSP_DPOLL.INTERVAL, 5)] else 0 ]

/-- The register writes that put the descriptors of a flash configuration into clocked serial port n. -/
def flashDescWrites (cfg : Word) (n : Nat) : List (Nat × Word) :=
  [10, 11, 12, 13, 14].flatMap (fun d =>
    (flashDesc cfg d).zipIdx.map (fun x => (CSP_DCMD.addr n d + 4 * x.2, x.1)))

/-- BLOCK 0x05: the log. Each ring written is held by the port; where the flash set is committed the CSP is claimed for LOG and its
descriptors 10 to 14 are written and committed first (R397). -/
def State.logPlan (s : State) (n : Nat) (ws : List (Nat × Word)) (commit : Bool) : Except Refuse Plan :=
  let ring (o : Nat) : Bool := 0x100 ≤ o && o < 0x600 && [0, 4, 8, 0x10].contains (o % 0x20)
  if ws.all (fun w => [0x000, 0x014, 0x018, 0x020, 0x024, 0x028].contains w.1 || ring w.1) then
    match s.firstNotHeld n ((ws.filter (fun w => ring w.1)).map (fun w => (7, (w.1 - 0x100) / 0x20))) with
    | some r => .error r
    | none =>
      let rings := ((ws.filter (fun w => ring w.1 && w.1 % 0x20 != 0x10)).map (fun w => (w.1 - 0x100) / 0x20))
      let flash := ws.any (fun w => decide (0x20 ≤ w.1) && decide (w.1 ≤ 0x28))
      let cfg := (written ws 0x20).getD (s.reg LOG_FCFG.addr)
      let port := flashCsp cfg
      let csp := 20 + port
      match if flash ∧ commit then s.mayClaimFor n 3 csp 0x1300 else none with
      | some r => .error r
      | none =>
        .ok { writes := ws.map (fun w => (0x4000A000 + w.1, w.2)) ++ (if flash ∧ commit then flashDescWrites cfg port else [])
              claim := if flash ∧ commit then some (3, csp, 0x1300) else none
              commit := if commit then some (fun s =>
                  let s := if flash then s.cspCommitGo port else s
                  let (s, bad) := s.tried LOG_STATUS.addr LOG_STATUS.REFUSED (fun s => s.logCommit (fun r => rings.contains r) flash)
                  (s, if bad then some (s.fld LOG_STATUS.addr LOG_STATUS.CERR, s.fld LOG_STATUS.addr LOG_STATUS.CRING) else none))
                else none
              status := some LOG_STATUS.addr }
  else .error noResource

/-- BLOCK 0x06: a two-wire bus, R386. Writes of TWBn_MAN run after the commit. -/
def State.twbPlan (s : State) (n u : Nat) (ws : List (Nat × Word)) (commit : Bool) : Except Refuse Plan :=
  let ok (o : Nat) : Bool := [0x00, 0x04, 0x08, 0x1C, 0x20].contains o ||
    (o % 4 == 0 && ((0x80 ≤ o && o < 0xC0) || (0x100 ≤ o && o < 0x200)))
  if u < 8 ∧ ws.all (fun w => ok w.1) then
    match s.notHeld n 3 (12 + u) with
    | some r => .error r
    | none =>
      let mans := (ws.filter (fun w => w.1 = 0x20 ∧ fget w.2 TWB_MAN.GO = 1)).map (fun w => fget w.2 TWB_MAN.DESC)
      .ok { writes := (ws.filter (fun w => w.1 ≠ 0x20)).map (fun w => (twbBase u + w.1, w.2))
            commit := if commit then some (fun s =>
                let (s, bad) := s.tried (TWB_STATUS.addr u) TWB_STATUS.REFUSED (fun s => s.twbCommitGo u)
                (s, if bad then some (s.fld (TWB_STATUS.addr u) TWB_STATUS.CERR, 0) else none))
              else none
            manual := some (u, mans)
            status := some (TWB_STATUS.addr u) }
  else .error noResource

/-- BLOCK 0x07: a clocked serial port, R404. -/
def State.cspPlan (s : State) (n u : Nat) (ws : List (Nat × Word)) (commit : Bool) : Except Refuse Plan :=
  let ok (o : Nat) : Bool := o == 0 || o == 4 || (o % 4 == 0 && ((0x40 ≤ o && o < 0xC0) || (0x100 ≤ o && o < 0x200)))
  if u < 6 ∧ ws.all (fun w => ok w.1) then
    match s.notHeld n 3 (20 + u) with
    | some r => .error r
    | none =>
      .ok { writes := ws.map (fun w => (cspBase u + w.1, w.2))
            commit := if commit then some (fun s =>
                let (s, bad) := s.tried (CSP_STATUS.addr u) CSP_STATUS.REFUSED (fun s => s.cspCommitGo u)
                (s, if bad then some (s.fld (CSP_STATUS.addr u) CSP_STATUS.CERR, 0) else none))
              else none
            status := some (CSP_STATUS.addr u) }
  else .error noResource

/-- The commit of STP, with CERR and CSLOT where it is refused. -/
def State.commitStp (s : State) : State × Option (Nat × Nat) :=
  let (s, bad) := s.tried STP_STATUS.addr STP_STATUS.REFUSED (fun s => s.stpCommitGo)
  (s, if bad then some (s.fld STP_STATUS.addr STP_STATUS.CERR, s.fld STP_STATUS.addr STP_STATUS.CSLOT) else none)

/-- BLOCK 0x09: Stipple; each slot written is held by the port. -/
def State.stpPlan (s : State) (n : Nat) (ws : List (Nat × Word)) (commit : Bool) : Except Refuse Plan :=
  let slotReg (o : Nat) : Bool := 0x40 ≤ o && o < 0x140 && [0x0, 0xC, 0x10].contains (o % 0x20)
  if ws.all (fun w => w.1 == 0 || slotReg w.1) then
    match s.firstNotHeld n ((ws.filter (fun w => slotReg w.1)).map (fun w => (9, (w.1 - 0x40) / 0x20))) with
    | some r => .error r
    | none =>
      .ok { writes := ws.map (fun w => (0x40009000 + w.1, w.2))
            commit := if commit then some (fun s => s.commitStp) else none
            status := some STP_STATUS.addr }
  else .error noResource

/-- The checked plan of a LANE_CONFIG, R347: a unit or an offset outside the block's list is NO_RESOURCE. The EIO
configuration registers of BLOCK 0x08 are defined nowhere, so every offset is outside its list (log entry 9). RS_CTL lies at
offset 0x4000 of a slice's base (log entry 48). -/
def State.lanePlan (s : State) (n v : Nat) (m : Msg) : Except Refuse Plan :=
  let unit := m.at 1 1
  let flags := m.at 2 1
  let commit := flags.testBit 0
  let ws := laneWrites (m.payload.drop 8) ((m.len - 8) / 6)
  let role (c : Nat) : Except Refuse Nat := s.byRole v flags (m.at 4 1) (m.at 6 2) c
  match m.at 0 1 with
  | 0x01 =>
    if unit < 32 ∧ ws.all (fun w => tileOffset w.1) then
      match role (unit / 4) with
      | .error r => .error r
      | .ok c => s.tilePlan n (4 * c + unit % 4) ws commit
    else .error noResource
  | 0x02 => if unit = 0 then s.analogPlan n ws else .error noResource
  | 0x03 => if unit = 0 then s.timePlan n ws commit else .error noResource
  | 0x04 => if unit = 0 then s.sensePlan n ws commit else .error noResource
  | 0x05 => if unit = 0 then s.logPlan n ws commit else .error noResource
  | 0x06 => s.twbPlan n unit ws commit
  | 0x07 => s.cspPlan n unit ws commit
  | 0x09 => if unit = 0 then s.stpPlan n ws commit else .error noResource
  | 0x0A =>
    if unit < 8 ∧ ws.all (fun w => w.1 = 0x4000) then
      match role unit with
      | .error r => .error r
      | .ok c =>
        match s.notHeld n 1 c with
        | some r => .error r
        | none => .ok { writes := ws.map (fun w => (RS_CTL.addr c, w.2)), status := some (RS_STATUS.addr c) }
    else .error noResource
  | 0x0B => if unit = 0 ∧ ws.all (fun w => w.1 = 0) then .ok { writes := [], subs := written ws 0 } else .error noResource
  | _ => .error noResource

/-- The domains that a plan's registers lie in. -/
def planDomains : Except Refuse Plan → List Nat
  | .error _ => []
  | .ok p => (p.writes.map (·.1) ++ p.status.toList).filterMap domainOf

/-- A checked plan carried out: the claim, the register writes, the commit, the manual transactions, the reply. -/
def State.runPlan (s : State) (n : Nat) (m : Msg) (p : Plan) : State :=
  let s := match p.claim with
    | some (c, i, o) => s.claimFor n c i o
    | none => s
  let s := match p.subs with
    | some w => s.setPort n { s.port n with subs := w &&& 0x07FFFFFF }
    | none => s
  let s := p.writes.foldl (fun s w => s.writeRegister .keeper w.1 w.2) s
  let (s, bad) := match p.commit with
    | some f => f s
    | none => (s, none)
  match bad with
  | some (c, u) => s.reply n m stVerifyFail (leBytes 1 c ++ leBytes 1 u)
  | none =>
    let show_ (s : State) : List Byte := match p.status with
      | some a => leBytes 4 (readWord ((fieldsAt a).getD []) (s.shown a)).toNat
      | none => [0, 0, 0, 0]
    match p.manual with
    | some (u, d :: ds) =>
      s.setBus u { s.bus u with manual := (s.bus u).manual ++ d :: ds, manReply := some { port := n, seq := m.seq, mode := m.op } }
    | _ => s.reply n m stOk ([0, 0] ++ show_ s)

/-- A message whose plan is checked: refused, or carried out once the domains that it writes are powered. -/
def State.configure (s : State) (n op : Nat) (plan : Nat → Msg → State → Except Refuse Plan) : State :=
  s.serveWhen n (named op) (fun v m s => s.wakeFirst (planDomains (plan v m s))) (fun v m s =>
    match plan v m s with
    | .error r => s.reply n m r.1 r.2
    | .ok p => s.runPlan n m p)

/-- LANE_CONFIG, R343, R344 and R347. -/
def laneConfig (port : Fin 4) (s : State) : State := s.configure port 0x20 (fun v m s => s.lanePlan port v m)
/-- LANE_CONFIG. -/
def execLaneConfig (port : Fin 4) (s : State) : Out := .next (laneConfig port s)

/-! ## SCHEDULE_LOAD, R345 and R347 -/

/-- The entries of a SCHEDULE_LOAD as register writes, numbered from an entry. -/
def scheduleWrites (b : List Byte) : Nat → Nat → List (Nat × Word)
  | _, 0 => []
  | e, k + 1 =>
    (0x100 + 8 * e, Word.ofNat (leAt b 0 4)) :: (0x104 + 8 * e, Word.ofNat (leAt b 4 4)) ::
      scheduleWrites (b.drop 8) (e + 1) k

/-- The checked plan of a SCHEDULE_LOAD. -/
def State.schedulePlan (s : State) (n v : Nat) (m : Msg) : Except Refuse Plan :=
  let unit := m.at 0 1
  let flags := m.at 1 1
  let count := (m.len - 16) / 8
  if unit < 32 ∧ (count = 0 ∨ m.at 2 1 + count ≤ 64) then
    match s.byRole v flags (m.at 4 1) (m.at 6 2) (unit / 4) with
    | .error r => .error r
    | .ok c =>
      let ws := (if flags.testBit 3 then [(4, Word.ofNat (m.at 8 4))] else []) ++
        (if flags.testBit 2 then [(0, Word.ofNat (m.at 12 4))] else []) ++
        scheduleWrites (m.payload.drop 16) (m.at 2 1) count
      s.tilePlan n (4 * c + unit % 4) ws (flags.testBit 0)
  else .error noResource

/-- SCHEDULE_LOAD. -/
def scheduleLoad (port : Fin 4) (s : State) : State := s.configure port 0x21 (fun v m s => s.schedulePlan port v m)
/-- SCHEDULE_LOAD. -/
def execScheduleLoad (port : Fin 4) (s : State) : Out := .next (scheduleLoad port s)

/-! ## RULE_LOAD, R153 -/

/-- The register writes of the engines of an image: of each engine's 192 bytes the nine words of offsets 0x000 to 0x020 and
the 32 transition words; words for RO or unmapped offsets are ignored. -/
def imageWrites (cluster : Nat) (body : List Byte) : List Nat → Nat → List (Nat × Word)
  | [], _ => []
  | e :: r, k =>
    let w (i : Nat) : Word := Word.ofNat (leAt body (192 * k + 4 * i) 4)
    (List.range 9).map (fun i => (engBase (32 * cluster + e) + 4 * i, w i)) ++
      (List.range 32).map (fun j => (RS_TRANS.addr (32 * cluster + e) j, w (16 + j))) ++ imageWrites cluster body r (k + 1)

/-- The checked plan of a RULE_LOAD: its cluster, its holding, then the image in the order of R153. -/
def State.rulePlan (s : State) (n v : Nat) (m : Msg) : Except Refuse (Nat × Word × List (Nat × Word)) :=
  match s.byRole v (m.at 1 1) (m.at 2 1) (m.at 4 2) (m.at 0 1) with
  | .error r => .error r
  | .ok c =>
    match s.notHeld n 1 c with
    | some r => .error r
    | none =>
      let image := m.payload.drop 8
      let body := image.drop 32
      let mask := Word.ofNat (leAt image 8 4)
      let engines := (List.range 32).filter (fun e => mask.getLsbD e)
      if leAt image 0 4 ≠ 0x4D495247 ∨ leAt image 4 2 ≠ 1 then .error (stBadVersion, [])
      else if leAt image 12 4 ≠ 192 * engines.length ∨ body.length ≠ leAt image 12 4 then .error (stBadLength, [])
      else if crc32 body ≠ leAt image 16 4 then .error (stVerifyFail, [0, 0])
      else .ok (c, mask, imageWrites c body engines 0)

/-- RULE_LOAD: a commit is held while a set of the slice is pending (R151), so the message waits for it. -/
def ruleLoad (port : Fin 4) (s : State) : State :=
  s.serveWhen port (named 0x22)
    (fun v m s =>
      match s.rulePlan port v m with
      | .error _ => none
      | .ok (c, _, _) => if (s.slice c).pending.isSome then some s else s.wakeFirst [0x0300 + c])
    (fun v m s =>
      match s.rulePlan port v m with
      | .error r => s.reply port m r.1 r.2
      | .ok (c, mask, ws) =>
        let s := ws.foldl (fun s w => s.writeRegister .keeper w.1 w.2) s
        let (s, bad) := s.tried (RS_STATUS.addr c) RS_STATUS.REFUSED (fun s => s.ruleCommit c mask)
        if bad then
          s.reply port m stVerifyFail (leBytes 1 (s.fld (RS_STATUS.addr c) RS_STATUS.CERR) ++
            leBytes 1 (s.fld (RS_STATUS.addr c) RS_STATUS.CENG))
        else s.reply port m stOk [0, 0])
/-- RULE_LOAD. -/
def execRuleLoad (port : Fin 4) (s : State) : Out := .next (ruleLoad port s)

/-! ## MODEL_LOAD, R348 -/

/-- The refusal of a MODEL_LOAD before anything is written. -/
def State.modelRefusal (s : State) (n : Nat) (m : Msg) : Option Refuse :=
  match s.notHeld n 9 (m.at 0 1) with
  | some r => some r
  | none =>
    let last := m.at 12 4 + (m.payload.length - 16)
    if m.at 8 4 < last ∨ 0x100000 < m.at 4 4 + last then some (stBadLength, []) else none

/-- MODEL_LOAD: the bytes go to BASE + OFFSET in weight SRAM; at COMMIT the slot's region is set and the set is committed. -/
def modelLoad (port : Fin 4) (s : State) : State :=
  s.serveWhen port (named 0x23)
    (fun _ m s => if (s.modelRefusal port m).isSome then none else s.wakeFirst [stpBlock])
    (fun _ m s =>
      match s.modelRefusal port m with
      | some r => s.reply port m r.1 r.2
      | none =>
        let slot := m.at 0 1
        let s := s.store (weightBase + m.at 4 4 + m.at 12 4) (m.payload.drop 16)
        if (m.at 1 1).testBit 0 then
          let s := s.writeRegister .keeper (STP_SBASE.addr slot) (Word.ofNat (m.at 4 4))
          let s := s.writeRegister .keeper (STP_SLEN.addr slot) (Word.ofNat (m.at 8 4))
          match s.commitStp with
          | (s, some (c, k)) => s.reply port m stVerifyFail (leBytes 1 c ++ leBytes 1 k)
          | (s, none) => s.reply port m stOk [0, 0]
        else s.reply port m stOk [0, 0])
/-- MODEL_LOAD. -/
def execModelLoad (port : Fin 4) (s : State) : Out := .next (modelLoad port s)

/-! ## Batches, R349 -/

/-- The fields of a batch's reply, R345. -/
def State.batchFields (s : State) (h : Nat) : List Byte :=
  leBytes 1 (stateCode (s.handle h).st) ++ [0] ++ leBytes 4 (s.handle h).first ++ leBytes 2 (s.segsOf h)

/-- BATCH_OPEN. -/
def batchOpen (port : Fin 4) (s : State) : State :=
  s.serveWhen port (named 0x30) (fun _ _ s => s.wakeFirst [logBlock]) (fun _ m s =>
    let h := m.at 0 1
    let r := m.at 1 1
    let o := s.ownerOf 8 h
    if o ≠ 0 ∧ o ≠ hostOwner port then s.reply port m stConflict (conflictFields 8 h o)
    else if (s.handle h).st ≠ .free then
      (s.batchArm r h).reply port m stConflict (conflictFields 8 h (hostOwner port))
    else if 39 < r ∨ s.rcfg r LOG_RCFG.EN = 0 then s.reply port m stNoResource []
    else
      let s := (s.setOwner 8 h (hostOwner port)).batchArm r h
      let s := if (m.at 2 1).testBit 0 then s else s.batchOpen h none
      s.reply port m stOk (s.batchFields h))
/-- BATCH_OPEN. -/
def execBatchOpen (port : Fin 4) (s : State) : Out := .next (batchOpen port s)

/-- BATCH_CLOSE. -/
def batchClose (port : Fin 4) (s : State) : State :=
  s.serveWhen port (named 0x31) (fun _ _ s => s.wakeFirst [logBlock]) (fun _ m s =>
    let h := m.at 0 1
    match s.notHeld port 8 h with
    | some (st, f) => s.reply port m st f
    | none =>
      let s := if (m.at 1 1).testBit 0 then (s.batchRelease h).freeUnit (8, h) else s.batchClose h none
      s.reply port m stOk (s.batchFields h))
/-- BATCH_CLOSE. -/
def execBatchClose (port : Fin 4) (s : State) : Out := .next (batchClose port s)

/-! ## Windows, R350 and R568 -/

/-- The pages of a ring in SSEQ order across its wrap, from the page of its oldest segment. -/
def State.ringPages (s : State) (r : Nat) : List Nat :=
  let n := s.rsize r
  let first := match (s.ring r).segs.head? with
    | some g => g.page - s.rbase r
    | none => (s.ring r).nextPage
  (List.range n).map (fun i => s.rbase r + (first + i) % n)

/-- The pages of a batch: those of its segments from FIRST as they stand. -/
def State.batchPages (s : State) (h : Nat) : List Nat :=
  let x := s.handle h
  (((s.ring x.ring).segs.filter (fun g => x.first ≤ g.sseq)).take (s.segsOf h)).map (·.page)

/-- The pages that a WINDOW_MAP maps; none where it names nothing that can be mapped. -/
def State.mapPages (s : State) (m : Msg) : Option (List Nat) :=
  let i := m.at 1 1
  match m.at 0 1 with
  | 1 => if 39 < i ∨ s.rcfg i LOG_RCFG.EN = 0 then none else some (s.ringPages i)
  | 2 => match (s.handle i).st with
    | .opened => some (s.batchPages i)
    | .closed => some (s.batchPages i)
    | _ => none
  | 3 => if 16384 < m.at 12 4 then none else some ((List.range (m.at 12 4)).map (fun k => m.at 8 4 + k))
  | _ => none

/-- The level-1 table of port n. -/
def level1 (n : Nat) : Nat := 0x00780000 + 0x40 * n
/-- Level-2 table k of port n. -/
def level2 (n k : Nat) : Nat := 0x00781000 + 0x10000 * n + 0x1000 * k

/-- One window page of port n mapped to a page: a level-2 table that the level-1 table does not name yet begins empty. -/
def State.mapPage (s : State) (n page target : Nat) : State :=
  let k := page / 1024
  let a := level1 n + 4 * k
  let s := if memRead s.mem a &&& 1 = 1 then s
    else { s with mem := memWriteWord (memLose s.mem (level2 n k) (level2 n k + 0x1000)) a (Word.ofNat (level2 n k + 1)) }
  s.store (level2 n k + 4 * (page % 1024)) (leBytes 4 (target % 2 ^ 20 * 0x1000 + 1))

/-- Port n's window given a size, committed, and its cache emptied. -/
def State.setWindow (s : State) (n pages : Nat) : State :=
  let s := (s.setReg (HWU_TBASE.addr n) (Word.ofNat (level1 n))).setReg (HWU_WSIZE.addr n) (pack [(HWU_WSIZE.PAGES, pages)])
  hwuInv (Word.ofNat (2 ^ n)) (hwuCommit (Word.ofNat (2 ^ n)) s)

/-- WINDOW_MAP: pages are added to the port's map from the first window page on; an empty map begins with an empty level-1
table. KIND 0 sets PAGES to 0. -/
def windowMap (port : Fin 4) (s : State) : State :=
  s.serveWhen port (named 0x32) (fun _ _ s => s.wakeFirst [hwuBlock, 0x163C]) (fun _ m s =>
    let first := m.at 4 4
    if m.at 0 1 = 0 then (s.setWindow port 0).reply port m stOk ([0, 0] ++ leBytes 4 first ++ leBytes 4 0)
    else
      match s.mapPages m with
      | none => s.reply port m stNoResource []
      | some l =>
        if 16384 < first + l.length then s.reply port m stNoResource []
        else
          let s := if s.wpages port = 0 then { s with mem := memLose s.mem (level1 port) (level1 port + 64) } else s
          let s := ((List.range l.length).zip l).foldl (fun s e => s.mapPage port (first + e.1) e.2) s
          (s.setWindow port (max (s.wpages port) (first + l.length))).reply port m stOk
            ([0, 0] ++ leBytes 4 first ++ leBytes 4 l.length))
/-- WINDOW_MAP. -/
def execWindowMap (port : Fin 4) (s : State) : Out := .next (windowMap port s)

/-! ## LOG_READ, R351 -/

/-- LOG_READ: data is the block with the LSN as the flash returns it with its sector, none where the log holds no such block;
BUSY while the flusher erases that sector. -/
def logRead (port : Fin 4) (data : Option (Nat × List (BitVec 8))) (s : State) : State :=
  s.serveWhen port (named 0x33) (fun _ _ s => s.wakeFirst [logBlock, cspBlock (flashCsp (s.cword LOG_FCFG.addr))])
    (fun _ m s =>
      let o := m.at 4 2
      let count := m.at 6 2
      let log := s.cfld LOG_FSIZE.addr LOG_FSIZE.SECTORS ≠ 0 ∧ s.ownerOf 3 (20 + flashCsp (s.cword LOG_FCFG.addr)) = 0x1300
      match data with
      | some (sec, b) =>
        if log ∧ s.flusher.task = some .erase ∧ s.fsector = sec then s.reply port m stBusy []
        else if log ∧ o ≤ 4095 ∧ 1 ≤ count ∧ count ≤ 48 ∧ o + count ≤ 4096 then
          let bad := blockCrc (slice b 0 48) (slice b 48 (usedOf b)) ≠ leAt b 28 4
          s.reply port m stOk (leBytes 1 (b2n bad) ++ [0] ++ leBytes 4 (m.at 0 4) ++ slice b o count)
        else s.reply port m stNoResource []
      | none => s.reply port m stNoResource [])
/-- LOG_READ. -/
def execLogRead (port : Fin 4) (data : Option (Nat × List (BitVec 8))) (s : State) : Out := .next (logRead port data s)

end Sys2Proof.Machine
end

