-- ==== Sys2Proof/Machine/General.lean ====
section
/-! DEFINITION. Accesses to the package map, resets, the merge points of the fabric and the debug port, R5 to R10, R20 to
R38 and R545. -/

namespace Sys2Proof.Machine

/-! ## Accesses, R5 to R10 and R32 to R35 -/

/-- The bytes of an access. -/
def accBytes : AccSize → Nat
  | .byte => 1
  | .half => 2
  | .word => 4

/-- A read by a processor, as a command's outcome. -/
def State.readOut (s : State) (p : Side) (a n : Nat) : Out :=
  match s.busRead p a n with
  | .ok (s, _) => .next s
  | .error e => s.accessFails p e false
/-- A write by a processor, as a command's outcome. -/
def State.writeOut (s : State) (p : Side) (a : Nat) (b : List Byte) : Out :=
  match s.busWrite p a b with
  | .ok s => .next s
  | .error e => s.accessFails p e true

/-- REGISTER_WRITE: an access of a processor to an address of the package map: a write of v, or with none a read. -/
def execRegisterWrite (p : Side) (a : BitVec 32) (size : AccSize) (v : Option Word) (s : State) : Out :=
  match v with
  | none => s.readOut p a.toNat (accBytes size)
  | some v => s.writeOut p a.toNat (leBytes (accBytes size) v.toNat)

/-- MDATA_READ: a read of CLn_MDATA, R35. -/
def execMdataRead (p : Side) (n : Fin 8) (s : State) : Out := s.readOut p (CL_MDATA.addr n) 4
/-- MDATA_WRITE: a write of CLn_MDATA, R35. -/
def execMdataWrite (p : Side) (n : Fin 8) (v : Word) (s : State) : Out :=
  s.writeOut p (CL_MDATA.addr n) (leBytes 4 v.toNat)

/-! ## Resets, R38 and R545 -/

/-- CORE_DIE_RESET: everything that the core die holds is lost, and it starts in SAMPLE with Undercoat, R38; in KEEP the die
is cleared already, and what KEEP preserves stays. -/
def coreDieReset (s : State) : State := if s.mode = 1 then s.startCore 1 else (s.coreLost false).startCore 0
/-- CORE_DIE_RESET. -/
def execCoreDieReset (s : State) : Out := .next (coreDieReset s)

/-- PORST: PORST_N low for 1 µs and its rise, a power-on reset: both dies reset, every session ends (R336), the HPn_SEL
straps are sampled (R318), and the core die starts where VMAIN is good. The always-on set and KEEP RAM stay. -/
def porst (sel : BitVec 4) (s : State) : State :=
  let t := if s.fld PWR_SUPPLY.addr PWR_SUPPLY.MAINOK = 1 then (s.coreLost false).startCore 0
    else { ({ s with regs := Tab.clearRange s.regs (TB_FICTL.addr 0) (TB_FICTL.addr 16) }.inKeep false) with rings := [], copies := [] }
  (List.range 4).foldl (fun s n => s.setPort n { s.port n with twoWire := sel.getLsbD n }) t
/-- PORST. -/
def execPorst (sel : BitVec 4) (s : State) : Out := .next (porst sel s)

/-! ## The merge points, R20 to R22 -/

/-- The waiting packet or flit that a merge point grants next: an event packet before any flit; on a channel the source whose
index follows the last one granted, with wrap-around; of a source the first offered. With what else waits. -/
def Merge.next (m : Merge) : Option (Waiting × List Waiting) :=
  let ch : Channel := if m.wait.any (fun w => w.ch = .event) then .event else .data
  let last := if ch = .event then m.lastEvent else m.lastData
  let least (p : Nat → Bool) : Option Nat :=
    (m.wait.filter (fun w => w.ch = ch && p w.src)).foldl (fun (b : Option Nat) w =>
      match b with
      | some k => some (min k w.src)
      | none => some w.src) none
  let src := match least (fun k => decide (last < k)) with
    | some k => some k
    | none => least (fun _ => true)
  src.bind (fun k => takeFirst (fun (w : Waiting) => w.ch = ch && w.src == k) m.wait)

/-- A merge point after a grant at the instant el to w: its last flit goes with it, a record with flits left keeps its place. -/
def Merge.granted (m : Merge) (w : Waiting) (rest : List Waiting) (el : Nat) : Merge :=
  let m := if w.ch = .event then { m with lastEvent := w.src } else { m with lastData := w.src }
  { m with lastAt := el, wait := if w.flits ≤ 1 then rest else { w with flits := w.flits - 1 } :: rest }

/-- The key of a merge point in State.merges. -/
def mergeKey : MergePoint → Nat
  | .edge n => n
  | .hub d => 8 + d
  | .slice n => 51 + n

/-- The ring that a record goes to, where a packet is one. -/
def Packet.ring : Packet → Option Nat
  | .laneRecord r _ => some r
  | .event n _ => some (32 + n)
  | _ => none

/-- The island that receives what a merge point grants, by level and unit, R535: the cluster's edge; its slice; from the hub a
cluster's edge, or the block that the packet is bound for: the bank of its ring, the lowest host port that it names. -/
def State.receiver (s : State) (m : MergePoint) (p : Packet) : Nat × Nat :=
  match m with
  | .edge n => (2, n * 65536 + 0x0500)
  | .slice n => (2, n * 65536 + 0x0300)
  | .hub d =>
    if d.val < 8 then (2, d * 65536 + 0x0500)
    else match p with
      | .attention b _ => (4, 0x1100 + ctz (b.setWidth 32) % 4)
      | .stpTrigger .. => (4, 0x1400)
      | .bopen .. => (4, 0x1300)
      | .bclose .. => (4, 0x1300)
      | .laneRecord r _ => (4, bankOf (((s.ring r).open_.map (·.page)).getD (s.rbase r)))
      | .event n _ => (4, bankOf (((s.ring (32 + n)).open_.map (·.page)).getD (s.rbase (32 + n))))
      | _ => (4, 0)

/-- Whether a receiving island is powered and awake, R26: an edge with its cluster, which passes the packets of a WATCH or SKIM
slice in retention too (R164). -/
def State.awake (s : State) (l u : Nat) : Bool :=
  if l = 2 then
    if u / 256 % 256 = 5 then s.isOn (0x0100 + u / 65536) || s.keptSlice (u / 65536) else s.sliceTakes (u / 65536)
  else s.isOn u

/-- The island that sends what a merge point grants, R565 and R566, as its level encodes it. -/
def senderUnit (m : MergePoint) (src : Nat) : Nat :=
  match m with
  | .edge n =>
    if src = 0 then n * 65536 else if src < 5 then 4 * n + (src - 1) else if src < 7 then n * 65536 + 0x0100 + (src - 5)
    else if src = 7 then n * 65536 + 0x0300 else n * 65536 + 0x0400
  | .slice n => n * 65536 + 0x0500
  | .hub _ => if src < 8 then src * 65536 + 0x0500 else sourceBlock src

/-- A record discarded at the ring writer, R196 and R539: counted in DROP; a tile's credit goes back. -/
def State.dropRecord (s : State) (r : Nat) : State :=
  let s := s.bump (LOG_RSTAT.addr r) LOG_RSTAT.DROP 1
  if r < 32 then s.setTile r { s.tile r with returning := (s.tile r).returning + 1 } else s

/-- A record staged at the ring writer, R196 and R570. -/
def State.stage (s : State) (r : Nat) (x : Staged) : State :=
  s.setRing r { s.ring r with staged := (s.ring r).staged ++ [x] }

/-- A packet or a record's last flit arrives at its destination from the hub: a signal at the edge island of its cluster,
which offers it to the slice (R25). -/
def State.arrive (s : State) (p : Packet) : State :=
  match p with
  | .signal _ dst _ => s.sendTo (51 + dst / 32) 8 0 .event p
  | .fault r => s.atFault r
  | .laneRecord r x => if s.rcfg r LOG_RCFG.EN = 0 then s.dropRecord r else s.stage r (.lane x)
  | .event n x =>
    if s.rcfg (32 + n) LOG_RCFG.EN = 0 ∨ !s.canAppend (32 + n) then s.dropRecord (32 + n) else s.stage (32 + n) (.event x)
  | p => { s with arrived := s.arrived ++ [p] }

/-- What a merge point has granted whole goes on: from a cluster's edge to the hub's output that its destination names, from
the hub to its destination, from the edge to the slice. -/
def State.passOn (s : State) (m : MergePoint) (w : Waiting) : State :=
  match m with
  | .edge n => s.sendHub n w.dst w.ch w.pkt
  | .hub _ => s.arrive w.pkt
  | .slice _ =>
    match w.pkt with
    | .signal src dst g => s.signalTo src dst (s.sliceCycle s.el) g
    | _ => s

/-- MERGE_POINT_GRANT: a merge point grants one waiting packet or flit. An island that has failed acknowledges nothing (R539);
for a cluster that is not awake the packet waits, and its wake is asked for (R24). -/
def mergePointGrant (m : MergePoint) (s : State) : State :=
  let x := s.merge (mergeKey m)
  match x.next with
  | none => s
  | some (w, rest) =>
    let (l, u) := s.receiver m w.pkt
    if !s.islandUp l u then s
    else if l = 2 ∧ u / 256 % 256 = 5 ∧ !s.awake l u then s.requestWake (0x0100 + u / 65536)
    else
      let s := s.setMerge (mergeKey m) (x.granted w rest s.el)
      if w.flits ≤ 1 then s.passOn m w else s
/-- MERGE_POINT_GRANT. -/
def execMergePointGrant (m : MergePoint) (s : State) : Out := .next (mergePointGrant m s)

/-- CROSSING_TIMEOUT: the handshake of what a merge point would grant next has gone 2 µs without an acknowledgement of an
island that is powered and awake: the packet or flit is discarded and FAULT has a report that names the receiving island, with
the sending island as its detail, R26; a record is discarded whole by the ring writer (R539). -/
def crossingTimeout (m : MergePoint) (s : State) : State :=
  let x := s.merge (mergeKey m)
  match x.next with
  | none => s
  | some (w, rest) =>
    let (l, u) := s.receiver m w.pkt
    if s.awake l u ∧ max w.since x.lastAt + 2000 ≤ s.el then
      let s := (s.setMerge (mergeKey m) (x.granted { w with flits := 1 } rest s.el)).atFault
        { level := l, cause := 0x0001, unit := u, gts := s.stamp pathCoarse, detail := senderUnit m w.src }
      match w.pkt.ring with
      | some r => s.dropRecord r
      | none => s
    else s
/-- CROSSING_TIMEOUT. -/
def execCrossingTimeout (m : MergePoint) (s : State) : Out := .next (crossingTimeout m s)

/-! ## The debug port, R545 -/

/-- DEBUG_PORT_HALT: in SERVICE the debug port halts or resumes a processor; elsewhere its inputs are ignored. -/
def debugPortHalt (c : Fin 18) (run : Bool) (done : Nat) (s : State) : State :=
  if s.mode ≠ 7 then s
  else if !run then s.haltCore (memPort c) c done
  else if c.val < 16 then s.resumeCore c
  else s.setCore c { s.core c with run := true, halted := false }
/-- DEBUG_PORT_HALT. -/
def execDebugPortHalt (c : Fin 18) (run : Bool) (done : Nat) (s : State) : Out := .next (debugPortHalt c run done s)

end Sys2Proof.Machine
end

