-- ==== Sys2Proof/Machine/GsiArith.lean ====
section
/-! DEFINITION. GSI: arithmetic, logic and the exposed multiplier, R265, R271 and R272. -/

namespace Sys2Proof.Machine

/-- ADD ( a b -- a+b ). -/
def execAdd (c : Fin 18) (s : State) : Out :=
  s.gsi c (· == .zero 0x10) (fun d s => s.binary c d (fun _ a b => addFlags a b false))
/-- SUB ( a b -- a−b ). -/
def execSub (c : Fin 18) (s : State) : Out :=
  s.gsi c (· == .zero 0x11) (fun d s => s.binary c d (fun _ a b => subFlags a b true))
/-- ADC ( a b -- a+b+C ). -/
def execAdc (c : Fin 18) (s : State) : Out :=
  s.gsi c (· == .zero 0x12) (fun d s => s.binary c d (fun f a b => addFlags a b (flagC f)))
/-- SBC ( a b -- a−b−1+C ). -/
def execSbc (c : Fin 18) (s : State) : Out :=
  s.gsi c (· == .zero 0x13) (fun d s => s.binary c d (fun f a b => subFlags a b (flagC f)))
/-- NEG ( a -- −a ), as 0 − a. -/
def execNeg (c : Fin 18) (s : State) : Out :=
  s.gsi c (· == .zero 0x14) (fun d s => s.unary c d (fun _ a => subFlags 0 a true))
/-- INC ( a -- a+1 ). -/
def execInc (c : Fin 18) (s : State) : Out :=
  s.gsi c (· == .zero 0x15) (fun d s => s.unary c d (fun _ a => addFlags a 1 false))
/-- DEC ( a -- a−1 ). -/
def execDec (c : Fin 18) (s : State) : Out :=
  s.gsi c (· == .zero 0x16) (fun d s => s.unary c d (fun _ a => subFlags a 1 true))
/-- ABS ( a -- |a| ). -/
def execAbs (c : Fin 18) (s : State) : Out :=
  s.gsi c (· == .zero 0x17) (fun d s => s.unary c d absFlags)
/-- AND ( a b -- a&b ). -/
def execAnd (c : Fin 18) (s : State) : Out :=
  s.gsi c (· == .zero 0x18) (fun d s => s.binary c d (fun f a b => znFlags f (a &&& b)))
/-- OR ( a b -- a|b ). -/
def execOr (c : Fin 18) (s : State) : Out :=
  s.gsi c (· == .zero 0x19) (fun d s => s.binary c d (fun f a b => znFlags f (a ||| b)))
/-- XOR ( a b -- a^b ). -/
def execXor (c : Fin 18) (s : State) : Out :=
  s.gsi c (· == .zero 0x1A) (fun d s => s.binary c d (fun f a b => znFlags f (a ^^^ b)))
/-- NOT ( a -- ~a ). -/
def execNot (c : Fin 18) (s : State) : Out :=
  s.gsi c (· == .zero 0x1B) (fun d s => s.unary c d (fun f a => znFlags f (~~~a)))
/-- SHL ( a n -- r ). -/
def execShl (c : Fin 18) (s : State) : Out := s.gsi c (· == .zero 0x1C) (fun d s => s.binary c d shlFlags)
/-- SHR ( a n -- r ). -/
def execShr (c : Fin 18) (s : State) : Out := s.gsi c (· == .zero 0x1D) (fun d s => s.binary c d shrFlags)
/-- SAR ( a n -- r ). -/
def execSar (c : Fin 18) (s : State) : Out := s.gsi c (· == .zero 0x1E) (fun d s => s.binary c d sarFlags)
/-- ROR ( a n -- r ). -/
def execRor (c : Fin 18) (s : State) : Out := s.gsi c (· == .zero 0x1F) (fun d s => s.binary c d rorFlags)

/-- CMP ( a b -- ), the flags of a − b. -/
def State.cmp (s : State) (c : Nat) (d : Decoded) : Ran Nat :=
  s.plain c d 2 0 0 0 (fun s i => .ok (s.setFlags c d.nf (subFlags (i.getD 1 0) (i.getD 0 0) true).2) [])
/-- CMP. -/
def execCmp (c : Fin 18) (s : State) : Out := s.gsi c (· == .zero 0x20) (fun d s => s.cmp c d)
/-- TST ( a -- ), the flags of a. -/
def State.tst (s : State) (c : Nat) (d : Decoded) : Ran Nat :=
  s.plain c d 1 0 0 0 (fun s i => .ok (s.setFlags c d.nf (flagsZN (s.core c).flags (i.getD 0 0))) [])
/-- TST. -/
def execTst (c : Fin 18) (s : State) : Out := s.gsi c (· == .zero 0x21) (fun d s => s.tst c d)

/-- MIN ( a b -- r ), signed. -/
def execMin (c : Fin 18) (s : State) : Out :=
  s.gsi c (· == .zero 0x22) (fun d s => s.pure c d 2 1 (fun i => [minS (i.getD 1 0) (i.getD 0 0)]))
/-- MAX ( a b -- r ), signed. -/
def execMax (c : Fin 18) (s : State) : Out :=
  s.gsi c (· == .zero 0x23) (fun d s => s.pure c d 2 1 (fun i => [maxS (i.getD 1 0) (i.getD 0 0)]))
/-- MINU ( a b -- r ), unsigned. -/
def execMinu (c : Fin 18) (s : State) : Out :=
  s.gsi c (· == .zero 0x24) (fun d s =>
    s.pure c d 2 1 (fun i => [if (i.getD 1 0).toNat ≤ (i.getD 0 0).toNat then i.getD 1 0 else i.getD 0 0]))
/-- MAXU ( a b -- r ), unsigned. -/
def execMaxu (c : Fin 18) (s : State) : Out :=
  s.gsi c (· == .zero 0x25) (fun d s =>
    s.pure c d 2 1 (fun i => [if (i.getD 1 0).toNat ≤ (i.getD 0 0).toNat then i.getD 0 0 else i.getD 1 0]))

/-- SEXTB ( a -- r ), bits 7:0 sign-extended. -/
def execSextb (c : Fin 18) (s : State) : Out :=
  s.gsi c (· == .zero 0x26) (fun d s => s.unary c d (fun f a => znFlags f ((a.setWidth 8).signExtend 32)))
/-- SEXTH ( a -- r ), bits 15:0 sign-extended. -/
def execSexth (c : Fin 18) (s : State) : Out :=
  s.gsi c (· == .zero 0x27) (fun d s => s.unary c d (fun f a => znFlags f ((a.setWidth 16).signExtend 32)))
/-- CLZ ( a -- n ), 0 to 32. -/
def execClz (c : Fin 18) (s : State) : Out :=
  s.gsi c (· == .zero 0x28) (fun d s => s.unary c d (fun f a => znFlags f (Word.ofNat (clz a))))
/-- POPCNT ( a -- n ). -/
def execPopcnt (c : Fin 18) (s : State) : Out :=
  s.gsi c (· == .page1 1) (fun d s => s.unary c d (fun f a => znFlags f (Word.ofNat (popcnt a))))
/-- The bytes of a word in reverse order. -/
def bswap (a : Word) : Word := Word.ofNat (ofLe (leBytes 4 a.toNat).reverse)
/-- BSWAP ( a -- r ). -/
def execBswap (c : Fin 18) (s : State) : Out :=
  s.gsi c (· == .page1 2) (fun d s => s.pure c d 1 1 (fun i => [bswap (i.getD 0 0)]))
/-- CTZ ( a -- n ), 0 to 32. -/
def execCtz (c : Fin 18) (s : State) : Out :=
  s.gsi c (· == .page1 3) (fun d s => s.unary c d (fun f a => znFlags f (Word.ofNat (ctz a))))

/-! ## The exposed multiplier, R272 -/

/-- A product enters the multiplier: its high and low words, after those in flight. -/
def State.multiply (s : State) (c : Nat) (d : Decoded) (f : Word → Word → BitVec 64) : Ran Nat :=
  s.plain c d 2 0 0 0 (fun s i =>
    let p := f (i.getD 1 0) (i.getD 0 0)
    let x := s.core c
    .ok (s.setCore c { x with products := x.products ++ [(p.extractLsb' 32 32, p.extractLsb' 0 32)] }) [])
/-- MUL ( a b -- ), signed. -/
def execMul (c : Fin 18) (s : State) : Out :=
  s.gsi c (· == .zero 0x2C) (fun d s => s.multiply c d (fun a b => BitVec.ofInt 64 (a.toInt * b.toInt)))
/-- MULU ( a b -- ), unsigned. -/
def execMulu (c : Fin 18) (s : State) : Out :=
  s.gsi c (· == .zero 0x2D) (fun d s => s.multiply c d (fun a b => BitVec.ofNat 64 (a.toNat * b.toNat)))

/-- PRODUCT_LAND: the oldest product in flight is written to PH and PL. -/
def productLand (c : Fin 18) (s : State) : State :=
  let x := s.core c
  match x.products with
  | (h, l) :: r => s.setCore c { x with ph := h, pl := l, products := r }
  | [] => s
/-- PRODUCT_LAND. -/
def execProductLand (c : Fin 18) (s : State) : Out := .next (productLand c s)

/-- MFPH ( -- x ). -/
def execMfph (c : Fin 18) (s : State) : Out :=
  s.gsi c (· == .zero 0x2E) (fun d s => s.plain c d 0 1 0 0 (fun s _ => .ok s [(s.core c).ph]))
/-- MFPL ( -- x ). -/
def execMfpl (c : Fin 18) (s : State) : Out :=
  s.gsi c (· == .zero 0x2F) (fun d s => s.plain c d 0 1 0 0 (fun s _ => .ok s [(s.core c).pl]))

end Sys2Proof.Machine
end

