-- ==== Sys2Proof/Machine/GsiMem.lean ====
section
/-! DEFINITION. GSI: loads, stores, instruction-space reads and I/O, R259 to R264, R271 and R304 to R306. -/

namespace Sys2Proof.Machine

/-- The bytes that load or store m of R271 moves. -/
def memSize (m : Nat) : Nat :=
  match m with
  | 0 | 5 => 4
  | 1 | 2 | 6 => 2
  | _ => 1

/-- What a load of form m leaves of the bytes read: H and B zero-extend, HS and BS sign-extend. -/
def loadValue (m v : Nat) : Word :=
  match m with
  | 2 => BitVec.ofInt 32 (signed 16 v)
  | 4 => BitVec.ofInt 32 (signed 8 v)
  | _ => Word.ofNat v

/-- The address of a load or store: the address popped plus an unsigned offset scaled by the access size. -/
def memAddr (m off : Nat) (a : Word) : Nat := (a + Word.ofNat (off * memSize m)).toNat

/-- ( a -- x ), a load of form m. -/
def State.loadOp (s : State) (c : Nat) (d : Decoded) (m off : Nat) : Ran Nat :=
  s.plain c d 1 1 0 0 (fun s i =>
    (s.dataLoad c (memAddr m off (i.getD 0 0)) (memSize m)).bind (fun s v => .ok s [loadValue m v]))
/-- ( x a -- ), a store of form m. -/
def State.storeOp (s : State) (c : Nat) (d : Decoded) (m off : Nat) : Ran Nat :=
  s.plain c d 2 0 0 0 (fun s i =>
    (s.dataStore c (memAddr m off (i.getD 0 0)) (leBytes (memSize m) (i.getD 1 0).toNat)).bind (fun s _ => .ok s []))

/-- LDW ( a -- x ). -/
def execLdw (c : Fin 18) (s : State) : Out := s.gsi c (· == .zero 0x38) (fun d s => s.loadOp c d 0 0)
/-- LDH ( a -- x ). -/
def execLdh (c : Fin 18) (s : State) : Out := s.gsi c (· == .zero 0x39) (fun d s => s.loadOp c d 1 0)
/-- LDHS ( a -- x ). -/
def execLdhs (c : Fin 18) (s : State) : Out := s.gsi c (· == .zero 0x3A) (fun d s => s.loadOp c d 2 0)
/-- LDB ( a -- x ). -/
def execLdb (c : Fin 18) (s : State) : Out := s.gsi c (· == .zero 0x3B) (fun d s => s.loadOp c d 3 0)
/-- LDBS ( a -- x ). -/
def execLdbs (c : Fin 18) (s : State) : Out := s.gsi c (· == .zero 0x3C) (fun d s => s.loadOp c d 4 0)
/-- STW ( x a -- ). -/
def execStw (c : Fin 18) (s : State) : Out := s.gsi c (· == .zero 0x3D) (fun d s => s.storeOp c d 5 0)
/-- STH ( x a -- ). -/
def execSth (c : Fin 18) (s : State) : Out := s.gsi c (· == .zero 0x3E) (fun d s => s.storeOp c d 6 0)
/-- STB ( x a -- ). -/
def execStb (c : Fin 18) (s : State) : Out := s.gsi c (· == .zero 0x3F) (fun d s => s.storeOp c d 7 0)

/-- The form and offset of a load or store with offset. -/
def Op.memForm : Op → Nat × Nat
  | .mem m off => (m, off)
  | _ => (0, 0)

/-- LD_OFF, LDx off ( a -- x ), m 0 to 4. -/
def execLdOff (c : Fin 18) (s : State) : Out :=
  s.gsi c (fun o => match o with | .mem m _ => decide (m < 5) | _ => false) (fun d s =>
    s.loadOp c d d.op.memForm.1 d.op.memForm.2)
/-- ST_OFF, STx off ( x a -- ), m 5 to 7. -/
def execStOff (c : Fin 18) (s : State) : Out :=
  s.gsi c (fun o => match o with | .mem m _ => decide (5 ≤ m) | _ => false) (fun d s =>
    s.storeOp c d d.op.memForm.1 d.op.memForm.2)

/-- The word that LDP reads, R261: the 14-bit word of a narrow core, an aligned word of program memory of a byte-encoding
watch core, and a data-space word on the Keeper and the Link processor. It reads program memory itself, not the
instruction cache (log entry 90). -/
def State.ldp (s : State) (c : Nat) (a : Word) : Ran Word :=
  if 16 ≤ c then (s.dataLoad c a.toNat 4).bind (fun s v => .ok s (Word.ofNat v))
  else if (s.core c).enc then
    if a.toNat % 4 = 0 then .ok s (Word.ofNat (ofLe (s.load (progMemBase (s.ident c) + a.toNat % 65536) 4)))
    else .traps s 4 0 0 a.toNat
  else .ok s (Word.ofNat (ofLe (s.load (progMemBase (s.ident c) + 2 * (a.toNat % 32768)) 2) % 2 ^ 14))
/-- LDP ( a -- x ). -/
def execLdp (c : Fin 18) (s : State) : Out :=
  s.gsi c (· == .zero 0x40) (fun d s =>
    s.plain c d 1 1 0 0 (fun s i => (s.ldp c (i.getD 0 0)).bind (fun s v => .ok s [v])))

/-! ## I/O space, R262 and R306 -/

/-- An I/O read: ALIGN, the wait for an empty store buffer, BUS_ERROR. -/
def State.ioLoad (s : State) (c a : Nat) : Ran Word :=
  if a % 4 ≠ 0 then .traps s 4 0 0 a
  else if (s.core c).stores ≠ [] then .waits s
  else match s.ioRead c a with
    | some (w, s) => .ok s w
    | none => .traps s 3 0 0 a
/-- An I/O write. -/
def State.ioStore (s : State) (c a : Nat) (w : Word) : Ran Unit :=
  if a % 4 ≠ 0 then .traps s 4 0 0 a
  else if (s.core c).stores ≠ [] then .waits s
  else match s.ioWrite c a w with
    | some s => .ok s ()
    | none => .traps s 3 0 0 a

/-- The I/O address of IN and OUT. -/
def Op.ioAddr : Op → Nat
  | .ioIn a | .ioOut a => a
  | _ => 0

/-- INS ( a -- x ). I/O addresses have 16 bits; one beyond them is unmapped. -/
def execIns (c : Fin 18) (s : State) : Out :=
  s.gsi c (· == .zero 0x41) (fun d s =>
    s.plain c d 1 1 0 0 (fun s i => (s.ioLoad c (i.getD 0 0).toNat).bind (fun s v => .ok s [v])))
/-- OUTS ( x a -- ). -/
def execOuts (c : Fin 18) (s : State) : Out :=
  s.gsi c (· == .zero 0x42) (fun d s =>
    s.plain c d 2 0 0 0 (fun s i => (s.ioStore c (i.getD 0 0).toNat (i.getD 1 0)).bind (fun s _ => .ok s [])))
/-- IN ( -- x ). -/
def execIoIn (c : Fin 18) (s : State) : Out :=
  s.gsi c (fun o => match o with | .ioIn _ => true | _ => false) (fun d s =>
    s.plain c d 0 1 0 0 (fun s _ => (s.ioLoad c d.op.ioAddr).bind (fun s v => .ok s [v])))
/-- OUT ( x -- ). -/
def execIoOut (c : Fin 18) (s : State) : Out :=
  s.gsi c (fun o => match o with | .ioOut _ => true | _ => false) (fun d s =>
    s.plain c d 1 0 0 0 (fun s i => (s.ioStore c d.op.ioAddr (i.getD 0 0)).bind (fun s _ => .ok s [])))

end Sys2Proof.Machine
end

