-- ==== Sys2Proof/Machine/GsiStack.lean ====
section
/-! DEFINITION. GSI: stack, special-register and immediate instructions, R255 to R258 and R271. -/

namespace Sys2Proof.Machine

/-- NOP ( -- ). -/
def execNop (c : Fin 18) (s : State) : Out :=
  s.gsi c (· == .zero 0x00) (fun d s => s.pure c d 0 0 (fun _ => []))
/-- DUP ( a -- a a ). -/
def execDup (c : Fin 18) (s : State) : Out :=
  s.gsi c (· == .zero 0x01) (fun d s => s.pure c d 1 2 (fun i => [i.getD 0 0, i.getD 0 0]))
/-- DROP ( a -- ). -/
def execDrop (c : Fin 18) (s : State) : Out :=
  s.gsi c (· == .zero 0x02) (fun d s => s.pure c d 1 0 (fun _ => []))
/-- SWAP ( a b -- b a ). -/
def execSwap (c : Fin 18) (s : State) : Out :=
  s.gsi c (· == .zero 0x03) (fun d s => s.pure c d 2 2 (fun i => [i.getD 1 0, i.getD 0 0]))
/-- OVER ( a b -- a b a ). -/
def execOver (c : Fin 18) (s : State) : Out :=
  s.gsi c (· == .zero 0x04) (fun d s => s.pure c d 2 3 (fun i => [i.getD 1 0, i.getD 0 0, i.getD 1 0]))
/-- ROT ( a b c -- b c a ). -/
def execRot (c : Fin 18) (s : State) : Out :=
  s.gsi c (· == .zero 0x05) (fun d s => s.pure c d 3 3 (fun i => [i.getD 2 0, i.getD 0 0, i.getD 1 0]))
/-- NIP ( a b -- b ). -/
def execNip (c : Fin 18) (s : State) : Out :=
  s.gsi c (· == .zero 0x06) (fun d s => s.pure c d 2 1 (fun i => [i.getD 0 0]))
/-- TUCK ( a b -- b a b ). -/
def execTuck (c : Fin 18) (s : State) : Out :=
  s.gsi c (· == .zero 0x07) (fun d s => s.pure c d 2 3 (fun i => [i.getD 0 0, i.getD 1 0, i.getD 0 0]))
/-- DUP2 ( a b -- a b a b ). -/
def execDup2 (c : Fin 18) (s : State) : Out :=
  s.gsi c (· == .zero 0x08) (fun d s => s.pure c d 2 4 (fun i => [i.getD 0 0, i.getD 1 0, i.getD 0 0, i.getD 1 0]))
/-- DROP2 ( a b -- ). -/
def execDrop2 (c : Fin 18) (s : State) : Out :=
  s.gsi c (· == .zero 0x09) (fun d s => s.pure c d 2 0 (fun _ => []))

/-- TOR ( a -- ; R: -- a ). -/
def State.tor (s : State) (c : Nat) (d : Decoded) : Ran Nat :=
  s.plain c d 1 0 0 1 (fun s i => .ok (s.setCore c { s.core c with rs := i.getD 0 0 :: (s.core c).rs }) [])
/-- TOR. -/
def execTor (c : Fin 18) (s : State) : Out := s.gsi c (· == .zero 0x0A) (fun d s => s.tor c d)
/-- FROMR ( -- a ; R: a -- ). -/
def State.fromr (s : State) (c : Nat) (d : Decoded) : Ran Nat :=
  s.plain c d 0 1 1 0 (fun s _ =>
    .ok (s.setCore c { s.core c with rs := (s.core c).rs.drop 1 }) [(s.core c).rs.headD 0])
/-- FROMR. -/
def execFromr (c : Fin 18) (s : State) : Out := s.gsi c (· == .zero 0x0B) (fun d s => s.fromr c d)
/-- RFETCH ( -- a ; R: a -- a ). -/
def execRfetch (c : Fin 18) (s : State) : Out :=
  s.gsi c (· == .zero 0x0C) (fun d s => s.plain c d 0 1 1 1 (fun s _ => .ok s [(s.core c).rs.headD 0]))

/-- PUSHI ( -- i ). -/
def execPushi (c : Fin 18) (s : State) : Out :=
  s.gsi c (fun o => match o with | .pushi _ => true | _ => false) (fun d s =>
    s.pure c d 0 1 (fun _ => match d.op with | .pushi i => [i] | _ => [0]))

/-! ## Special registers, R255 to R258 -/

/-- CORE, R256: the encoding, kind, cluster and number of the core whose program runs (R310). -/
def State.coreWord (s : State) (c : Nat) : Word :=
  let id := s.ident c
  Word.ofNat (256 * b2n (s.core c).enc + 64 * (if c = 16 then 1 else if c = 17 then 2 else 0) +
    (if 16 ≤ c then 0 else 8 * (id / 2) + id % 2))

/-- Special register n as it reads, R255 and R256; an unassigned number reads 0. -/
def State.special (s : State) (c n : Nat) : Word :=
  let x := s.core c
  match n with
  | 0 => Word.ofNat x.flags.toNat
  | 1 => x.ph
  | 2 => x.pl
  | 3 => x.dsp
  | 4 => x.dsbase
  | 5 => x.dslim
  | 6 => x.rsp
  | 7 => x.rsbase
  | 8 => x.rslim
  | 9 => Word.ofNat (256 * x.rs.length + x.ds.length)
  | 10 => Word.ofNat (x.loops.headD (0, 0, 0)).1
  | 11 => Word.ofNat (x.loops.headD (0, 0, 0)).2.1
  | 12 => Word.ofNat (x.loops.headD (0, 0, 0)).2.2
  | 13 => Word.ofNat x.loops.length
  | 14 => s.coreWord c
  | _ => 0

/-- The number of the special register that RSR or WSR names. -/
def Op.special : Op → Nat
  | .rsr n | .wsr n => n
  | _ => 15

/-- RSR n ( -- x ). -/
def execRsr (c : Fin 18) (s : State) : Out :=
  s.gsi c (fun o => match o with | .rsr _ => true | _ => false) (fun d s =>
    s.plain c d 0 1 0 0 (fun s _ => .ok s [s.special c d.op.special]))

/-- A core with a special register other than a stack pointer written, R256: RO fields and unassigned numbers discard the
write. An LC of 0 acts as 1, as the test of R277 takes it. -/
def Core.writeSpecial (x : Core) (n : Nat) (w : Word) : Core :=
  let a := w &&& 0xFFFFFFFC
  match n with
  | 0 => { x with flags := w.extractLsb' 0 4 }
  | 1 => { x with ph := w }
  | 2 => { x with pl := w }
  | 3 => { x with dsp := a }
  | 4 => { x with dsbase := a }
  | 5 => { x with dslim := a }
  | 6 => { x with rsp := a }
  | 7 => { x with rsbase := a }
  | 8 => { x with rslim := a }
  | 12 => { x with loops := match x.loops with
              | (st, e, _) :: r => (st, e, w.toNat) :: r
              | [] => [] }
  | _ => x

/-- WSR n ( x -- ), R257: a write of DSP or RSP first spills every entry held of that stack, the input of WSR apart. -/
def State.wsr (s : State) (c : Nat) (d : Decoded) : Ran Nat :=
  let n := d.op.special
  s.plain c d 1 0 0 0 (fun s i =>
    (if n = 3 then State.spills c false ((s.core c).ds.length - 1) s
     else if n = 6 then State.spills c true (s.core c).rs.length s
     else .ok s ()).bind (fun s _ => .ok (s.setCore c ((s.core c).writeSpecial n (i.getD 0 0))) []))
/-- WSR. -/
def execWsr (c : Fin 18) (s : State) : Out :=
  s.gsi c (fun o => match o with | .wsr _ => true | _ => false) (fun d s => s.wsr c d)

/-- SPILLALL ( -- ) spills every hardware entry of both stacks, the data stack first. -/
def State.spillAll (s : State) (c : Nat) (d : Decoded) : Ran Nat :=
  (State.spills c false (s.core c).ds.length s).bind (fun s _ =>
    (State.spills c true (s.core c).rs.length s).bind (fun s _ => .ok s d.next))
/-- SPILLALL. -/
def execSpillall (c : Fin 18) (s : State) : Out := s.gsi c (· == .page1 0) (fun d s => s.spillAll c d)

end Sys2Proof.Machine
end

