-- ==== Sys2Proof/Machine/Reload.lean ====
section
/-! DEFINITION. Topcoat's reload of the configuration of the domains that were off, R426 and R449, with the two commands it
follows: DOMAIN_READY and UNDERCOAT_BOOT. -/

namespace Sys2Proof.Machine

/-- The engines of cluster n that a copy's words configure, as RS_COMMIT names them. -/
def Copy.engines (x : Copy) (n : Nat) : Nat :=
  (List.range 32).foldl (fun m k =>
    if x.words.any (fun w => decide (engBase (32 * n + k) ≤ w.1) && decide (w.1 < engBase (32 * n + k) + 0x200)) then m + 2 ^ k
    else m) 0

/-- The rings that a copy's words enable, from ring k on, as LOG_RCOMMIT0 and LOG_RCOMMIT1 name them. -/
def Copy.ringMask (x : Copy) (k count : Nat) : Nat :=
  (List.range count).foldl (fun m r =>
    if fget (Tab.get 0 x.words (LOG_RCFG.addr (k + r))) LOG_RCFG.EN = 1 then m + 2 ^ r else m) 0

/-- Whether a copy's words hold the flash set. -/
def Copy.flash (x : Copy) : Bool := x.words.any (fun w => decide (LOG_FCFG.addr ≤ w.1) && decide (w.1 < LOG_FHEAD.addr))

/-- The write with which a block of a class commits the words reloaded, and its checks are made again: LOG has two. -/
def State.commitReload (s : State) (d : Nat) (x : Copy) : State :=
  let n := d % 256
  match d / 256 with
  | 0x00 => pwrCommit 1 s
  | 0x02 => tileCommit (Fin.ofNat 32 n) 1 s
  | 0x03 => rsCommit (Fin.ofNat 8 n) (Word.ofNat (x.engines n)) s
  | 0x13 =>
    logRcommit true (Word.ofNat (x.ringMask 32 8 + (if x.flash then 2 ^ 31 else 0)))
      (logRcommit false (Word.ofNat (x.ringMask 0 32)) s)
  | 0x14 => stpCommit 1 s
  | 0x15 => snsCommit 1 s
  | 0x18 => tbCommit 1 s
  | 0x1A => hwuCommit 0xF s
  | 0x20 => twbCommit (Fin.ofNat 8 n) 1 s
  | 0x21 => cspCommit (Fin.ofNat 6 n) 1 s
  | _ => s

/-- Domain d reloaded from its copy: register words, bytes and decode tables, and the commit of the words. -/
def State.reload (s : State) (d : Nat) (x : Copy) : State :=
  let s := { s with copies := Tab.del s.copies d }
  let s := x.words.foldl (fun s w => s.setReg w.1 w.2) s
  let s := x.cells.foldl (fun s c => s.store c.1 [c.2]) s
  let s := if d / 256 = 0x04 then s.setCore (d % 256) { s.core (d % 256) with desc := x.desc, micro := x.micro } else s
  if x.words.isEmpty then s else s.commitReload d x

/-- Whether Topcoat runs and its processor is awake. -/
def State.topcoatUp (s : State) : Bool := s.ohp.running && s.isOn 0x1000

/-- Topcoat reloads the domains of which it holds copies: a powered one at once, an unpowered one when the wake it asks for is
over (log entry 93). -/
def State.topcoatReloads (s : State) : State :=
  if s.topcoatUp then
    s.copies.foldl (fun s x => if s.isOn x.1 then s.reload x.1 x.2 else s.requestWake x.1) s
  else s

/-- A granted domain awake, its credits free again: a cluster that wakes from off holds its cores (R449); a slice's held timers
resume (R429); a two-wire bus waits for BFREE (R373). -/
def State.nowAwake (s : State) (d : Nat) : State :=
  let s := s.setPwr { s.pwr with grants := s.pwr.grants.filter (fun g => g.dom ≠ d) }
  let s := if d / 256 = 0x01 ∧ s.domState d = .off then
      s.setPwr { s.pwr with held := s.pwr.held.filter (· ≠ d % 256) ++ [d % 256] }
    else s
  let s := if d / 256 = 0x03 then s.resumeTimers (d % 256) else s
  ((s.setDom d .on).busPowered d).wakeOver

/-- DOMAIN_READY: the wake delay of a granted domain has passed, R445; Topcoat reloads what was off (R426). -/
def domainReady (d : Fin 65536) (s : State) : State :=
  match s.pwr.grants.find? (fun g => g.dom = d.val) with
  | none => s
  | some g => if s.el < g.ready then s else (s.nowAwake d).topcoatReloads
/-- DOMAIN_READY. -/
def execDomainReady (d : Fin 65536) (s : State) : Out := .next (domainReady d s)

/-- UNDERCOAT_BOOT, R510: at a start of the core die; its first accesses to SEC and MRAM wake them (R38), and after KEEP Topcoat
reloads the configuration (R426). -/
def undercoatBoot (s : State) : State :=
  if s.isOn 0x1000 && !s.ohp.running && !s.ohp.recovery && decide (4 ≤ s.mode) then
    s.withDomain 0x1900 (fun s => s.withDomain 0x1700 (fun s => s.undercoat.topcoatReloads))
  else s
/-- UNDERCOAT_BOOT. -/
def execUndercoatBoot (s : State) : Out := .next (undercoatBoot s)

end Sys2Proof.Machine
end

