-- ==== Sys2Proof/Machine/Dispatch.lean ====
section
/-! DEFINITION. The dispatch: one arm per command. -/

namespace Sys2Proof.Machine

/-- The effect of a command on everything but the queue. -/
def exec (i : Instr) (s : State) : Host.Outcome State Fault Refusal :=
  match i with
  | .registerWrite p a size v => Sys2Proof.Machine.execRegisterWrite p a size v s
  | .coreDieReset => Sys2Proof.Machine.execCoreDieReset s
  | .porst sel => Sys2Proof.Machine.execPorst sel s
  | .crossingTimeout m => Sys2Proof.Machine.execCrossingTimeout m s
  | .mergePointGrant m => Sys2Proof.Machine.execMergePointGrant m s
  | .mdataRead p n => Sys2Proof.Machine.execMdataRead p n s
  | .mdataWrite p n v => Sys2Proof.Machine.execMdataWrite p n v s
  | .refSettleDone => Sys2Proof.Machine.execRefSettleDone s
  | .pllLock => Sys2Proof.Machine.execPllLock s
  | .handoverToKeep => Sys2Proof.Machine.execHandoverToKeep s
  | .handoverFromKeep => Sys2Proof.Machine.execHandoverFromKeep s
  | .fiEdgeCapture pin rise bin => Sys2Proof.Machine.execFiEdgeCapture pin rise bin s
  | .coarseEdgeCapture pin rise => Sys2Proof.Machine.execCoarseEdgeCapture pin rise s
  | .ringStart pin rise => Sys2Proof.Machine.execRingStart pin rise s
  | .ringStop ring count => Sys2Proof.Machine.execRingStop ring count s
  | .slowEdgeStamp pin rise => Sys2Proof.Machine.execSlowEdgeStamp pin rise s
  | .ringCalibration ring periodFs => Sys2Proof.Machine.execRingCalibration ring periodFs s
  | .crystalTempRead temp => Sys2Proof.Machine.execCrystalTempRead temp s
  | .floatLearn ref xk temp span => Sys2Proof.Machine.execFloatLearn ref xk temp span s
  | .ppsEdge rise bin => Sys2Proof.Machine.execPpsEdge rise bin s
  | .sourceTimeout src => Sys2Proof.Machine.execSourceTimeout src s
  | .claimSubmit p v => Sys2Proof.Machine.execClaimSubmit p v s
  | .measurementSubmit p v => Sys2Proof.Machine.execMeasurementSubmit p v s
  | .claimExpiry port => Sys2Proof.Machine.execClaimExpiry port s
  | .tbCommit p v => Sys2Proof.Machine.execTbCommit p v s
  | .tbCtlWrite p v => Sys2Proof.Machine.execTbCtlWrite p v s
  | .tbNowSnapshot p cap => Sys2Proof.Machine.execTbNowSnapshot p cap s
  | .fictlWrite p n v => Sys2Proof.Machine.execFictlWrite p n v s
  | .tileCommit p t v => Sys2Proof.Machine.execTileCommit p t v s
  | .tileSetSwitch t => Sys2Proof.Machine.execTileSetSwitch t s
  | .acquisitionSend t entry can => Sys2Proof.Machine.execAcquisitionSend t entry can s
  | .sdConversionDone k code => Sys2Proof.Machine.execSdConversionDone k code s
  | .afsHold k code => Sys2Proof.Machine.execAfsHold k code s
  | .eioGroupSnapshot g => Sys2Proof.Machine.execEioGroupSnapshot g s
  | .laneInput t => Sys2Proof.Machine.execLaneInput t s
  | .creditReturn t => Sys2Proof.Machine.execCreditReturn t s
  | .tfifoRead c t => Sys2Proof.Machine.execTfifoRead c t s
  | .tileLvalSnapshot p t l => Sys2Proof.Machine.execTileLvalSnapshot p t l s
  | .engineInput e parity => Sys2Proof.Machine.execEngineInput e parity s
  | .bLaneRecord e => Sys2Proof.Machine.execBLaneRecord e s
  | .engineTimerExpiry e parity => Sys2Proof.Machine.execEngineTimerExpiry e parity s
  | .attentionPacket => Sys2Proof.Machine.execAttentionPacket s
  | .coalesceWindowClose n => Sys2Proof.Machine.execCoalesceWindowClose n s
  | .lostSummary n => Sys2Proof.Machine.execLostSummary n s
  | .rsCommit p n v => Sys2Proof.Machine.execRsCommit p n v s
  | .ruleSetSwitch n => Sys2Proof.Machine.execRuleSetSwitch n s
  | .rsEstateSnapshot p e => Sys2Proof.Machine.execRsEstateSnapshot p e s
  | .sliceRetentionIdle n => Sys2Proof.Machine.execSliceRetentionIdle n s
  | .stpTrigger => Sys2Proof.Machine.execStpTrigger s
  | .stpTrig p v => Sys2Proof.Machine.execStpTrig p v s
  | .stpPeriod slot => Sys2Proof.Machine.execStpPeriod slot s
  | .stpRunStart => Sys2Proof.Machine.execStpRunStart s
  | .stpRunComplete corrected double => Sys2Proof.Machine.execStpRunComplete corrected double s
  | .stpCommit p v => Sys2Proof.Machine.execStpCommit p v s
  | .stpIdle => Sys2Proof.Machine.execStpIdle s
  | .ringAppend r => Sys2Proof.Machine.execRingAppend r s
  | .segmentAgeClose r => Sys2Proof.Machine.execSegmentAgeClose r s
  | .armBatch ring handle => Sys2Proof.Machine.execArmBatch ring handle s
  | .openBatch handle => Sys2Proof.Machine.execOpenBatch handle s
  | .closeBatch handle => Sys2Proof.Machine.execCloseBatch handle s
  | .releaseBatch handle => Sys2Proof.Machine.execReleaseBatch handle s
  | .bopen => Sys2Proof.Machine.execBopen s
  | .bclose => Sys2Proof.Machine.execBclose s
  | .logRcommit p hi v => Sys2Proof.Machine.execLogRcommit p hi v s
  | .ringSetSwitch r => Sys2Proof.Machine.execRingSetSwitch r s
  | .flashSetSwitch => Sys2Proof.Machine.execFlashSetSwitch s
  | .logRoldWrite p r v => Sys2Proof.Machine.execLogRoldWrite p r v s
  | .logBlockWrite ans => Sys2Proof.Machine.execLogBlockWrite ans s
  | .logBlockReadback data => Sys2Proof.Machine.execLogBlockReadback data s
  | .indexBlockWrite ans => Sys2Proof.Machine.execIndexBlockWrite ans s
  | .sectorErase ans => Sys2Proof.Machine.execSectorErase ans s
  | .logHeadRecovery found => Sys2Proof.Machine.execLogHeadRecovery found s
  | .windowRead port a words => Sys2Proof.Machine.execWindowRead port a words s
  | .windowFaultReport port => Sys2Proof.Machine.execWindowFaultReport port s
  | .hwuCommit p v => Sys2Proof.Machine.execHwuCommit p v s
  | .hwuInv p v => Sys2Proof.Machine.execHwuInv p v s
  | .senseFrameReceive good => Sys2Proof.Machine.execSenseFrameReceive good s
  | .senseResend => Sys2Proof.Machine.execSenseResend s
  | .senseRetrain ok dieReset => Sys2Proof.Machine.execSenseRetrain ok dieReset s
  | .linkTraining ok dieReset => Sys2Proof.Machine.execLinkTraining ok dieReset s
  | .senseStart cell therm => Sys2Proof.Machine.execSenseStart cell therm s
  | .senseWindowClose cell codes => Sys2Proof.Machine.execSenseWindowClose cell codes s
  | .senseResult lost => Sys2Proof.Machine.execSenseResult lost s
  | .owtestStart => Sys2Proof.Machine.execOwtestStart s
  | .owtestWindowAClose codes => Sys2Proof.Machine.execOwtestWindowAClose codes s
  | .owtestVerdict codes => Sys2Proof.Machine.execOwtestVerdict codes s
  | .senseVerdict => Sys2Proof.Machine.execSenseVerdict s
  | .owtestRecoveryEnd => Sys2Proof.Machine.execOwtestRecoveryEnd s
  | .senseLatCalibrate lat => Sys2Proof.Machine.execSenseLatCalibrate lat s
  | .snsCommit p v => Sys2Proof.Machine.execSnsCommit p v s
  | .snsOwrunSnapshot p => Sys2Proof.Machine.execSnsOwrunSnapshot p s
  | .snsEzSnapshot p k => Sys2Proof.Machine.execSnsEzSnapshot p k s
  | .nop c => Sys2Proof.Machine.execNop c s
  | .dup c => Sys2Proof.Machine.execDup c s
  | .drop c => Sys2Proof.Machine.execDrop c s
  | .swap c => Sys2Proof.Machine.execSwap c s
  | .over c => Sys2Proof.Machine.execOver c s
  | .rot c => Sys2Proof.Machine.execRot c s
  | .nip c => Sys2Proof.Machine.execNip c s
  | .tuck c => Sys2Proof.Machine.execTuck c s
  | .dup2 c => Sys2Proof.Machine.execDup2 c s
  | .drop2 c => Sys2Proof.Machine.execDrop2 c s
  | .tor c => Sys2Proof.Machine.execTor c s
  | .fromr c => Sys2Proof.Machine.execFromr c s
  | .rfetch c => Sys2Proof.Machine.execRfetch c s
  | .add c => Sys2Proof.Machine.execAdd c s
  | .sub c => Sys2Proof.Machine.execSub c s
  | .adc c => Sys2Proof.Machine.execAdc c s
  | .sbc c => Sys2Proof.Machine.execSbc c s
  | .neg c => Sys2Proof.Machine.execNeg c s
  | .inc c => Sys2Proof.Machine.execInc c s
  | .dec c => Sys2Proof.Machine.execDec c s
  | .abs c => Sys2Proof.Machine.execAbs c s
  | .and c => Sys2Proof.Machine.execAnd c s
  | .or c => Sys2Proof.Machine.execOr c s
  | .xor c => Sys2Proof.Machine.execXor c s
  | .not c => Sys2Proof.Machine.execNot c s
  | .shl c => Sys2Proof.Machine.execShl c s
  | .shr c => Sys2Proof.Machine.execShr c s
  | .sar c => Sys2Proof.Machine.execSar c s
  | .ror c => Sys2Proof.Machine.execRor c s
  | .cmp c => Sys2Proof.Machine.execCmp c s
  | .tst c => Sys2Proof.Machine.execTst c s
  | .min c => Sys2Proof.Machine.execMin c s
  | .max c => Sys2Proof.Machine.execMax c s
  | .minu c => Sys2Proof.Machine.execMinu c s
  | .maxu c => Sys2Proof.Machine.execMaxu c s
  | .sextb c => Sys2Proof.Machine.execSextb c s
  | .sexth c => Sys2Proof.Machine.execSexth c s
  | .clz c => Sys2Proof.Machine.execClz c s
  | .mul c => Sys2Proof.Machine.execMul c s
  | .mulu c => Sys2Proof.Machine.execMulu c s
  | .productLand c => Sys2Proof.Machine.execProductLand c s
  | .mfph c => Sys2Proof.Machine.execMfph c s
  | .mfpl c => Sys2Proof.Machine.execMfpl c s
  | .div c => Sys2Proof.Machine.execDiv c s
  | .divu c => Sys2Proof.Machine.execDivu c s
  | .rem c => Sys2Proof.Machine.execRem c s
  | .remu c => Sys2Proof.Machine.execRemu c s
  | .sqrt c => Sys2Proof.Machine.execSqrt c s
  | .longRetire c => Sys2Proof.Machine.execLongRetire c s
  | .ldw c => Sys2Proof.Machine.execLdw c s
  | .ldh c => Sys2Proof.Machine.execLdh c s
  | .ldhs c => Sys2Proof.Machine.execLdhs c s
  | .ldb c => Sys2Proof.Machine.execLdb c s
  | .ldbs c => Sys2Proof.Machine.execLdbs c s
  | .stw c => Sys2Proof.Machine.execStw c s
  | .sth c => Sys2Proof.Machine.execSth c s
  | .stb c => Sys2Proof.Machine.execStb c s
  | .ldOff c => Sys2Proof.Machine.execLdOff c s
  | .stOff c => Sys2Proof.Machine.execStOff c s
  | .ldp c => Sys2Proof.Machine.execLdp c s
  | .ins c => Sys2Proof.Machine.execIns c s
  | .outs c => Sys2Proof.Machine.execOuts c s
  | .ioIn c => Sys2Proof.Machine.execIoIn c s
  | .ioOut c => Sys2Proof.Machine.execIoOut c s
  | .movb c => Sys2Proof.Machine.execMovb c s
  | .ret c => Sys2Proof.Machine.execRet c s
  | .jmps c => Sys2Proof.Machine.execJmps c s
  | .calls c => Sys2Proof.Machine.execCalls c s
  | .reti c => Sys2Proof.Machine.execReti c s
  | .barrier c => Sys2Proof.Machine.execBarrier c s
  | .wait c => Sys2Proof.Machine.execWait c s
  | .trap c => Sys2Proof.Machine.execTrap c s
  | .break_ c => Sys2Proof.Machine.execBreak c s
  | .lexit c => Sys2Proof.Machine.execLexit c s
  | .pushi c => Sys2Proof.Machine.execPushi c s
  | .br c => Sys2Proof.Machine.execBr c s
  | .beq c => Sys2Proof.Machine.execBeq c s
  | .bne c => Sys2Proof.Machine.execBne c s
  | .blt c => Sys2Proof.Machine.execBlt c s
  | .bge c => Sys2Proof.Machine.execBge c s
  | .bltu c => Sys2Proof.Machine.execBltu c s
  | .bgeu c => Sys2Proof.Machine.execBgeu c s
  | .call c => Sys2Proof.Machine.execCall c s
  | .rsr c => Sys2Proof.Machine.execRsr c s
  | .wsr c => Sys2Proof.Machine.execWsr c s
  | .loop c => Sys2Proof.Machine.execLoop c s
  | .custom c => Sys2Proof.Machine.execCustom c s
  | .spillall c => Sys2Proof.Machine.execSpillall c s
  | .popcnt c => Sys2Proof.Machine.execPopcnt c s
  | .bswap c => Sys2Proof.Machine.execBswap c s
  | .ctz c => Sys2Proof.Machine.execCtz c s
  | .interruptEntry c done => Sys2Proof.Machine.execInterruptEntry c done s
  | .storeDrain c => Sys2Proof.Machine.execStoreDrain c s
  | .watchdogExpiry c => Sys2Proof.Machine.execWatchdogExpiry c s
  | .coreClock c => Sys2Proof.Machine.execCoreClock c s
  | .coreDetWrite c v => Sys2Proof.Machine.execCoreDetWrite c v s
  | .coreRing c v => Sys2Proof.Machine.execCoreRing c v s
  | .coreWdogWrite c v => Sys2Proof.Machine.execCoreWdogWrite c v s
  | .corectlRun p c run done => Sys2Proof.Machine.execCorectlRun p c run done s
  | .corectlRst p c => Sys2Proof.Machine.execCorectlRst p c s
  | .isacfgWrite p n v => Sys2Proof.Machine.execIsacfgWrite p n v s
  | .ucdata0Write p n v => Sys2Proof.Machine.execUcdata0Write p n v s
  | .ucdata0Read p n => Sys2Proof.Machine.execUcdata0Read p n s
  | .ucdata1Write p n v => Sys2Proof.Machine.execUcdata1Write p n v s
  | .ucdata1Read p n => Sys2Proof.Machine.execUcdata1Read p n s
  | .pairWrite p n v => Sys2Proof.Machine.execPairWrite p n v s
  | .mbxSend c v => Sys2Proof.Machine.execMbxSend c v s
  | .coreMessage c => Sys2Proof.Machine.execCoreMessage c s
  | .read port a words late => Sys2Proof.Machine.execRead port a words late s
  | .write port a words part => Sys2Proof.Machine.execWrite port a words part s
  | .twoWireHostAccess port target b count => Sys2Proof.Machine.execTwoWireHostAccess port target b count s
  | .inprodWrite port v => Sys2Proof.Machine.execInprodWrite port v s
  | .slotTake => Sys2Proof.Machine.execSlotTake s
  | .outackWrite port v => Sys2Proof.Machine.execOutackWrite port v s
  | .abort port v => Sys2Proof.Machine.execAbort port v s
  | .attnClear port v => Sys2Proof.Machine.execAttnClear port v s
  | .hpnCfgWrite port v => Sys2Proof.Machine.execHpnCfgWrite port v s
  | .hwakeTaken port => Sys2Proof.Machine.execHwakeTaken port s
  | .hwakeRelease port => Sys2Proof.Machine.execHwakeRelease port s
  | .hello port => Sys2Proof.Machine.execHello port s
  | .identify port => Sys2Proof.Machine.execIdentify port s
  | .stateReport port => Sys2Proof.Machine.execStateReport port s
  | .timeSet port => Sys2Proof.Machine.execTimeSet port s
  | .timeGet port => Sys2Proof.Machine.execTimeGet port s
  | .modeSet port => Sys2Proof.Machine.execModeSet port s
  | .laneConfig port => Sys2Proof.Machine.execLaneConfig port s
  | .scheduleLoad port => Sys2Proof.Machine.execScheduleLoad port s
  | .ruleLoad port => Sys2Proof.Machine.execRuleLoad port s
  | .modelLoad port => Sys2Proof.Machine.execModelLoad port s
  | .batchOpen port => Sys2Proof.Machine.execBatchOpen port s
  | .batchClose port => Sys2Proof.Machine.execBatchClose port s
  | .windowMap port => Sys2Proof.Machine.execWindowMap port s
  | .logRead port data => Sys2Proof.Machine.execLogRead port data s
  | .alarm port => Sys2Proof.Machine.execAlarm port s
  | .resourceClaim port => Sys2Proof.Machine.execResourceClaim port s
  | .resourceRelease port => Sys2Proof.Machine.execResourceRelease port s
  | .roleSetQuery port => Sys2Proof.Machine.execRoleSetQuery port s
  | .roleSetAssign port => Sys2Proof.Machine.execRoleSetAssign port s
  | .roleSetClear port => Sys2Proof.Machine.execRoleSetClear port s
  | .roleSetMesh port => Sys2Proof.Machine.execRoleSetMesh port s
  | .meshSendNode port => Sys2Proof.Machine.execMeshSendNode port s
  | .meshSendRole port => Sys2Proof.Machine.execMeshSendRole port s
  | .meshSendLocal port => Sys2Proof.Machine.execMeshSendLocal port s
  | .meshSendGang port => Sys2Proof.Machine.execMeshSendGang port s
  | .meshSendReport port => Sys2Proof.Machine.execMeshSendReport port s
  | .updateBegin port => Sys2Proof.Machine.execUpdateBegin port s
  | .updateChunk port => Sys2Proof.Machine.execUpdateChunk port s
  | .updateVerify port => Sys2Proof.Machine.execUpdateVerify port s
  | .updateActivate port => Sys2Proof.Machine.execUpdateActivate port s
  | .updateConfirm port => Sys2Proof.Machine.execUpdateConfirm port s
  | .activateRestart => Sys2Proof.Machine.execActivateRestart s
  | .event => Sys2Proof.Machine.execEvent s
  | .faultReport => Sys2Proof.Machine.execFaultReport s
  | .topcoatRestart => Sys2Proof.Machine.execTopcoatRestart s
  | .twbTransactionStart n lost => Sys2Proof.Machine.execTwbTransactionStart n lost s
  | .twbTransactionEnd n r => Sys2Proof.Machine.execTwbTransactionEnd n r s
  | .twbTargetWrite n bytes ok => Sys2Proof.Machine.execTwbTargetWrite n bytes ok s
  | .twbTargetRead n count => Sys2Proof.Machine.execTwbTargetRead n count s
  | .twbTimeout n => Sys2Proof.Machine.execTwbTimeout n s
  | .busClear n r => Sys2Proof.Machine.execBusClear n r s
  | .busClearRetry n r => Sys2Proof.Machine.execBusClearRetry n r s
  | .alertResponse n r => Sys2Proof.Machine.execAlertResponse n r s
  | .alertPop p n v => Sys2Proof.Machine.execAlertPop p n v s
  | .twbManGo p n v => Sys2Proof.Machine.execTwbManGo p n v s
  | .twbCommit p n v => Sys2Proof.Machine.execTwbCommit p n v s
  | .twbSetSwitch n => Sys2Proof.Machine.execTwbSetSwitch n s
  | .cspFrameStart n => Sys2Proof.Machine.execCspFrameStart n s
  | .cspFrameEnd n data => Sys2Proof.Machine.execCspFrameEnd n data s
  | .nostrobe n => Sys2Proof.Machine.execNostrobe n s
  | .pollRetry n => Sys2Proof.Machine.execPollRetry n s
  | .ptimeout n => Sys2Proof.Machine.execPtimeout n s
  | .cspManGo p n v => Sys2Proof.Machine.execCspManGo p n v s
  | .cspResume n => Sys2Proof.Machine.execCspResume n s
  | .cspTargetWrite n index bytes => Sys2Proof.Machine.execCspTargetWrite n index bytes s
  | .cspTargetRead n index count => Sys2Proof.Machine.execCspTargetRead n index count s
  | .cspCommit p n v => Sys2Proof.Machine.execCspCommit p n v s
  | .cspSetSwitch n => Sys2Proof.Machine.execCspSetSwitch n s
  | .tmrArm u n v => Sys2Proof.Machine.execTmrArm u n v s
  | .tmrStop u n v => Sys2Proof.Machine.execTmrStop u n v s
  | .tmrExpiry n => Sys2Proof.Machine.execTmrExpiry n s
  | .tmrCapture n rise => Sys2Proof.Machine.execTmrCapture n rise s
  | .tmrCapRead u n => Sys2Proof.Machine.execTmrCapRead u n s
  | .pwrBaseWrite p v => Sys2Proof.Machine.execPwrBaseWrite p v s
  | .pwrFloorWrite p v => Sys2Proof.Machine.execPwrFloorWrite p v s
  | .blockAnswer d accept moved => Sys2Proof.Machine.execBlockAnswer d accept moved s
  | .delayOverrun d => Sys2Proof.Machine.execDelayOverrun d s
  | .powerDownComplete => Sys2Proof.Machine.execPowerDownComplete s
  | .entryRetry => Sys2Proof.Machine.execEntryRetry s
  | .wakeReplay => Sys2Proof.Machine.execWakeReplay s
  | .demandLapse => Sys2Proof.Machine.execDemandLapse s
  | .wakeGrant rail => Sys2Proof.Machine.execWakeGrant rail s
  | .domainReady d => Sys2Proof.Machine.execDomainReady d s
  | .keepWakePin k rise => Sys2Proof.Machine.execKeepWakePin k rise s
  | .keepAlarm => Sys2Proof.Machine.execKeepAlarm s
  | .pwrCommit p v => Sys2Proof.Machine.execPwrCommit p v s
  | .pwrRestore p v => Sys2Proof.Machine.execPwrRestore p v s
  | .pwrDiscard p v => Sys2Proof.Machine.execPwrDiscard p v s
  | .vmainWarn => Sys2Proof.Machine.execVmainWarn s
  | .forcedDescentDone records => Sys2Proof.Machine.execForcedDescentDone records s
  | .railFail rail step records => Sys2Proof.Machine.execRailFail rail step records s
  | .railFailRunning rail => Sys2Proof.Machine.execRailFailRunning rail s
  | .safeEndRestart => Sys2Proof.Machine.execSafeEndRestart s
  | .vmainRise => Sys2Proof.Machine.execVmainRise s
  | .vmainValidated => Sys2Proof.Machine.execVmainValidated s
  | .supplySourceChange low dead => Sys2Proof.Machine.execSupplySourceChange low dead s
  | .vcoreStep => Sys2Proof.Machine.execVcoreStep s
  | .vcoreStepDone => Sys2Proof.Machine.execVcoreStepDone s
  | .vioLevelSet bank v33 => Sys2Proof.Machine.execVioLevelSet bank v33 s
  | .vpackChange ok => Sys2Proof.Machine.execVpackChange ok s
  | .flxFrameReceive b ago => Sys2Proof.Machine.execFlxFrameReceive b ago s
  | .train => Sys2Proof.Machine.execTrain s
  | .flxLinkDown a => Sys2Proof.Machine.execFlxLinkDown a s
  | .lead => Sys2Proof.Machine.execLead s
  | .chainHeadLead => Sys2Proof.Machine.execChainHeadLead s
  | .leadLost => Sys2Proof.Machine.execLeadLost s
  | .sync => Sys2Proof.Machine.execSync s
  | .rdyEchoCapture round => Sys2Proof.Machine.execRdyEchoCapture round s
  | .mbxResend => Sys2Proof.Machine.execMbxResend s
  | .scrimStart => Sys2Proof.Machine.execScrimStart s
  | .beacon => Sys2Proof.Machine.execBeacon s
  | .scrimFrameReceive f ago => Sys2Proof.Machine.execScrimFrameReceive f ago s
  | .neighbourSweep => Sys2Proof.Machine.execNeighbourSweep s
  | .timeExchange => Sys2Proof.Machine.execTimeExchange s
  | .roleReflood => Sys2Proof.Machine.execRoleReflood s
  | .meshResend => Sys2Proof.Machine.execMeshResend s
  | .reportWindowClose => Sys2Proof.Machine.execReportWindowClose s
  | .reportSend => Sys2Proof.Machine.execReportSend s
  | .undercoatBoot => Sys2Proof.Machine.execUndercoatBoot s
  | .mramSlotWrite p a v => Sys2Proof.Machine.execMramSlotWrite p a v s
  | .secScrub p v => Sys2Proof.Machine.execSecScrub p v s
  | .scrubHourly => Sys2Proof.Machine.execScrubHourly s
  | .scrubCatchup => Sys2Proof.Machine.execScrubCatchup s
  | .tamper k high => Sys2Proof.Machine.execTamper k high s
  | .claim p v => Sys2Proof.Machine.execClaim p v s
  | .resRelease p v => Sys2Proof.Machine.execResRelease p v s
  | .query p v => Sys2Proof.Machine.execQuery p v s
  | .faultArrive => Sys2Proof.Machine.execFaultArrive s
  | .faultRecSnapshot p => Sys2Proof.Machine.execFaultRecSnapshot p s
  | .faultPop p v => Sys2Proof.Machine.execFaultPop p v s
  | .islandClock island => Sys2Proof.Machine.execIslandClock island s
  | .islandRestart island => Sys2Proof.Machine.execIslandRestart island s
  | .engineRecommit e => Sys2Proof.Machine.execEngineRecommit e s
  | .alwaysOnSetLost => Sys2Proof.Machine.execAlwaysOnSetLost s
  | .scrubDone corrected bad => Sys2Proof.Machine.execScrubDone corrected bad s
  | .debugPortHalt c run done => Sys2Proof.Machine.execDebugPortHalt c run done s
  | .flxSenderUp => Sys2Proof.Machine.execFlxSenderUp s

end Sys2Proof.Machine
end

