-- ==== Sys2Proof/Machine/Step.lean ====
section
/-! DEFINITION. One step: the command at the front of the queue, or with none waiting a nanosecond of time. -/

namespace Sys2Proof.Machine

/-- The command at the front of the queue runs with the queue's rest; an empty queue lets a nanosecond pass (log entry 2). -/
def step (s : State) : Host.Outcome State Fault Refusal :=
  match s.pending with
  | [] => .next (tick s)
  | i :: r => exec i { s with pending := r }

/-- The state with the command that a table word spells put at the front of its queue; no word spells one (log entry 11). -/
def State.withFetchWord (s : State) (nbits w : Nat) : State :=
  match decodeTableWord nbits w with
  | some i => { s with pending := i :: s.pending }
  | none => s

end Sys2Proof.Machine
end

