-- ==== Sys2Proof/Safety.lean ====
section
/-! DEFINITION. The terms that the statements use: what a command answers, what it leaves alone, when a processor issues an
instruction, and the invariant of memory. -/

namespace Sys2Proof.Machine

/-- Memory in its canonical form: addresses strictly rising, no entry equal to what an unlisted address reads as. -/
abbrev State.memOk (s : State) : Prop := memWf s.mem = true

/-- Two states differ at most in processor c. -/
def OnlyCore (s t : State) (c : Nat) : Prop := t = { s with cores := t.cores } ∧ ∀ k, k ≠ c → t.core k = s.core k

/-- Two states differ at most in processor c and in memory. -/
def OnlyCoreMem (s t : State) (c : Nat) : Prop :=
  t = { s with cores := t.cores, mem := t.mem } ∧ ∀ k, k ≠ c → t.core k = s.core k

/-- A command answers a next state in which processor c is x and nothing else has changed. -/
def Turns (s : State) (i : Instr) (c : Nat) (x : Core) : Prop :=
  ∃ t, exec i s = .next t ∧ OnlyCore s t c ∧ t.core c = x

/-- A processor issues d by command i and is x after it; beside it only the lines of its instruction cache that the fetch has
brought in change, R289. -/
def Runs (s : State) (i : Instr) (c : Nat) (d : Decoded) (x : Core) : Prop :=
  ∃ t, exec i s = .next (t.lined (s.core c).det c d.here) ∧ OnlyCore s t c ∧ t.core c = x

/-- A processor issues d: it is not halted, its domain is powered, no long instruction is in flight, and its pc spells d. -/
abbrev Issues (s : State) (c : Nat) (d : Decoded) : Prop :=
  (s.core c).halted = false ∧ s.works (coreBlock c) = true ∧ (s.core c).long = none ∧
    s.fetch c (s.core c).pc = .got s d

/-- No spill and no fill is due on either stack for dIn entries popped and dOut pushed on the data stack, rIn and rOut on
the return stack, R252: none is spilled of a stack that is not pushed. -/
abbrev Fits (x : Core) (dIn dOut rIn rOut : Nat) : Prop :=
  dIn ≤ x.ds.length ∧ (dOut = 0 ∨ x.ds.length - dIn + dOut ≤ 12) ∧ rIn ≤ x.rs.length ∧
    (rOut = 0 ∨ x.rs.length - rIn + rOut ≤ 12)

/-- A processor issues d, whose operation is o, with ins on top of its data stack (topmost first) and room for outs more;
with KEEP the inputs stay. -/
abbrev Ready (s : State) (c : Nat) (d : Decoded) (o : Op) (ins : List Word) (outs : Nat) : Prop :=
  Issues s c d ∧ d.op = o ∧ (s.core c).ds.take ins.length = ins.map some ∧
    Fits (s.core c) ins.length (if d.keep then ins.length + outs else outs) 0 0

/-- A core after an instruction that pops n entries and pushes outs, topmost first, with FLAGS f: it completes at d, R277. -/
def Core.pushed (x : Core) (d : Decoded) (n : Nat) (outs : List Word) (f : BitVec 4) : Core :=
  ({ x with ds := outs.map some ++ x.ds.drop (if d.keep then 0 else n), flags := f }).completed d.here d.next false

/-- A core after entry to vector v with return address ret and no loss of frame, R299: the frame's two entries, the status
word on top; IE 0; the handler's masked depth; the products in flight landed (R272). -/
def Core.framed (x : Core) (c v ret : Nat) (cause eaddr eval : Word) (imprecise : Bool) : Core :=
  let y := x.landed
  { y with
    rs := Word.ofNat (b2n imprecise * 2 ^ 31 + b2n x.ie * 2 ^ 30 + x.masked % 8 * 2 ^ 27 + x.loops.length % 8 * 2 ^ 24 +
      v % 256 * 2 ^ 16 + x.flags.toNat) :: Word.ofNat ret :: x.rs
    ie := false, masked := x.loops.length, waiting := false, ecause := cause, eaddr := eaddr, eval := eval
    pc := (x.vbase.toNat / 16 * 16 + 16 * v) % x.space c }

/-- FLAGS with a V and a C and the Z and N of a result. -/
def flagsOf (v c : Bool) (w : Word) : BitVec 4 := packFlags v c (w.getLsbD 31) (decide (w = 0))

/-- The domain that holds an address is powered and no mode entry is in progress: an access to it is performed at once. -/
abbrev Reached (s : State) (a : Nat) : Prop := s.pwr.entry = none ∧ (domainOf a).all (fun d => s.isOn d) = true

/-- What a command answers, where it is a next state. -/
def Answers (s : State) (i : Instr) (P : State → Prop) : Prop := ∃ t, exec i s = .next t ∧ P t

/-- Every byte of memory reads as before. -/
def SameMem (s t : State) : Prop := ∀ a, memRead t.mem a = memRead s.mem a

/-- Every byte of memory outside lo ≤ a < hi reads as before. -/
def SameMemOutside (s t : State) (lo hi : Nat) : Prop := ∀ a, a < lo ∨ hi ≤ a → memRead t.mem a = memRead s.mem a

/-- Port n has one message taken, m, and nothing keeps Topcoat from executing it now, R336, R337 and R342. -/
abbrev Serves (s : State) (n : Nat) (m : Msg) : Prop :=
  s.served = true ∧ (s.port n).taken = [m] ∧ s.portBusy n = false ∧ s.refusalOf n m = 0

/-- The state with port n's message taken from its queue. -/
def State.tookFrom (s : State) (n : Nat) : State := s.setPort n { s.port n with taken := [] }

/-- A command answers the reply to message m of port n, with a status and fields, on a state u. -/
def Replies (s : State) (i : Instr) (n : Nat) (m : Msg) (status : Nat) (fields : List Byte) (u : State) : Prop :=
  exec i s = .next (u.reply n m status fields)

end Sys2Proof.Machine
end

