-- ==== Sys2Proof/WellFormed.lean ====
section
/-! DEFINITION. Which commands the outside can send: operands within the ranges of the encodings that carry them. The
machine is total on every command; a statement that needs a range says so by `Instr.wf`. -/

namespace Sys2Proof

/-- A Scrim frame's fields within their widths, R487. -/
def ScrimFrame.wf (f : ScrimFrame) : Bool :=
  decide (f.slot < 2 ∧ f.left < 32 ∧ f.domain < 2 ^ 16 ∧ f.tx < 2 ^ 16 ∧ f.rx < 2 ^ 16 ∧ f.fc < 2 ^ 32)

/-- A command's operands within their ranges: a calibrated ring period is not 0 (R55); a log block has 4096 bytes and its header 48 (R187 and R200);
a window address has 32 bits and lies on a word (R207); of the words of a READ at most all are late (R319); a Flotex frame has
at least its four header bytes and CRC and at most 64 payload bytes (R478); a Scrim frame's fields have their widths
(R487); a scrub corrects at most the 512 words of its block (R519); a frame of a clocked serial port has at most 4096
bytes (R392). -/
def Instr.wf : Instr → Bool
  | .ringCalibration _ periodFs => decide (0 < periodFs)
  | .logBlockReadback data => decide (data.length = 4096)
  | .logHeadRecovery found => found.all (fun b => decide (b.2.2.1.length = 48))
  | .logRead _ data => data.all (fun d => decide (d.2.length = 4096))
  | .windowRead _ a _ => decide (a < 2 ^ 32 ∧ a % 4 = 0)
  | .read _ _ words late => decide (late ≤ words)
  | .flxFrameReceive b _ => decide (6 ≤ b.length ∧ b.length ≤ 70)
  | .scrimFrameReceive f _ => f.wf
  | .scrubDone corrected bad => decide (corrected + bad.length ≤ 512)
  | .cspFrameEnd _ data => decide (data.length ≤ 4096)
  | _ => true

end Sys2Proof
end

