-- ==== Sys2Proof/Certificates/Slice0/Obligations.lean ====
section
/-! DEFINITION. The statements for the provers. -/

open Sys2Proof Sys2Proof.Machine

/-- A state whose merge points are those of another with one fault report offered (R20, R565). -/
def Raised (s t : State) (r : FaultRec) : Prop := t.merges = (s.raise r).merges

/-! ## The machine as a whole -/

/-- A step with commands waiting runs the one at the front of the queue with the queue's rest. -/
def Obligations.StepRunsTheFrontCommand : Prop :=
  ∀ (i : Instr) (s : State) (r : List Instr), step { s with pending := i :: r } = exec i { s with pending := r }

/-- A step with no command waiting lets a nanosecond pass, which changes no register, no memory and no processor but the cycle
counts of those powered: the model's choice, log entries 2 and 22. -/
def Obligations.EmptyQueueLetsTimePass : Prop :=
  ∀ s : State, s.pending = [] → ∃ t, step s = .next t ∧
    t.el = s.el + 1 ∧ t.pending = [] ∧ t.regs = s.regs ∧ t.cset = s.cset ∧ t.mem = s.mem ∧ t.cores = s.cores ∧
    t.pipe.caches = s.pipe.caches ∧ ∀ k : Fin 18, Tab.get 0 t.pipe.cycles k =
      Tab.get 0 s.pipe.cycles k + (if s.isOn (coreBlock k) then s.coreRate else 0)

/-- Every step keeps the canonical form of memory. -/
def Obligations.EveryStepKeepsMemoryCanonical : Prop := ∀ s t : State, s.memOk → step s = .next t → t.memOk

/-- The machine right after reset: no command waits, the memory is canonical, the mode is SAMPLE (R38), no unit has an owner
(R529), the watch cores are halted (R314) with the stack registers of R258, and the host ports answer GX (R334). -/
def Obligations.ResetLeavesTheSpecsValues : Prop :=
  let s := State.reset
  s.pending = [] ∧ s.memOk ∧ s.mode = 4 ∧ s.time.state = .unset ∧
    (∀ cls inst, s.ownerOf cls inst = 0) ∧
    (∀ c : Fin 16, let x := s.core c
      x.halted = true ∧ x.failed = false ∧ x.ds = [] ∧ x.rs = [] ∧ x.loops = [] ∧ x.ie = false ∧
      (c.val % 2 = 0 → x.dsbase = 0x10000 ∧ x.dslim = 0xF800 ∧ x.rsbase = 0xF800 ∧ x.rslim = 0xF000) ∧
      (c.val % 2 = 1 → x.dsbase = 0x20000 ∧ x.dslim = 0x1F800 ∧ x.rsbase = 0x1F800 ∧ x.rslim = 0x1F000) ∧
      x.dsp = x.dsbase ∧ x.rsp = x.rsbase) ∧
    (∀ n : Fin 4, s.fld (HP_ID.addr n) HP_ID.MAGIC = 0x4758 ∧ s.fld (HP_ID.addr n) HP_ID.PORT = n)

/-! ## GSI: the two encodings -/

/-- In the narrow encoding, decoding the words of an instruction gives it back with its prefixes and its length, whatever
follows: for every operand that the encoding admits and every prefix that the instruction allows, R267, R268 and R271. -/
def Obligations.NarrowDecodeOfEncode : Prop :=
  ∀ (keepok : Nat → Bool) (o : Op) (keep nf : Bool) (rest : List Nat),
    o.narrowWf = true → o.accepts keepok keep nf = true →
    decodeNarrow keepok (encodeNarrow o keep nf ++ rest) = .op o keep nf (encodeNarrow o keep nf).length

/-- The same of the byte encoding, R269 and R271; at most two prefixes, so no page-1 instruction with KEEP and NF. -/
def Obligations.ByteDecodeOfEncode : Prop :=
  ∀ (keepok : Nat → Bool) (o : Op) (keep nf : Bool) (rest : List Byte),
    o.byteWf = true → o.accepts keepok keep nf = true → (∀ p, o = .page1 p → (keep && nf) = false) →
    decodeBytes keepok (encodeBytes o keep nf ++ rest) = .op o keep nf (encodeBytes o keep nf).length

/-- Words and bytes written out from the tables of R267 to R271, with the instructions that they stand for. -/
def Obligations.EncodingsOfTheTables : Prop :=
  ∀ k : Nat → Bool,
    decodeNarrow k [0x0410, 0, 0, 0] = .op (.zero 0x10) false false 1 ∧
    decodeNarrow k [0x0703, 0x0411, 0, 0] = .op (.zero 0x11) true true 2 ∧
    decodeNarrow k [0x3FFF, 0, 0, 0] = .op (.pushi 0xFFFFFFFF) false false 1 ∧
    decodeNarrow k [0x0801, 0x2000, 0, 0] = .op (.pushi 0x2000) false false 2 ∧
    decodeNarrow k [0x13FF, 0, 0, 0] = .op (.branch 1 (-1)) false false 1 ∧
    decodeNarrow k [0x0282, 0, 0, 0] = .op (.mem 5 2) false false 1 ∧
    decodeNarrow k [0x0C0E, 0, 0, 0] = .op (.rsr 14) false false 1 ∧
    decodeNarrow k [0x0E03, 0, 0, 0] = .op (.ioIn 12) false false 1 ∧
    decodeNarrow k [0x0605, 0, 0, 0] = .op (.loop 5) false false 1 ∧
    decodeNarrow k [0x050B, 0, 0, 0] = .op (.custom 1 3) false false 1 ∧
    decodeNarrow k [0x0741, 0, 0, 0] = .op (.page1 1) false false 1 ∧
    decodeBytes k [0x10, 0, 0, 0] = .op (.zero 0x10) false false 1 ∧
    decodeBytes k [0xFC, 0xFD, 0x11, 0] = .op (.zero 0x11) true true 3 ∧
    decodeBytes k [0x80, 0xFF, 0, 0] = .op (.pushi 0xFFFFFFFF) false false 2 ∧
    decodeBytes k [0x81, 0x00, 0x20, 0] = .op (.pushi 0x2000) false false 3 ∧
    decodeBytes k [0x89, 0xFE, 0, 0] = .op (.branch 1 (-2)) false false 2 ∧
    decodeBytes k [0xA5, 0x02, 0, 0] = .op (.mem 5 2) false false 2 ∧
    decodeBytes k [0xB0, 0x0E, 0, 0] = .op (.rsr 14) false false 2 ∧
    decodeBytes k [0xB3, 0x0C, 0x01, 0] = .op (.ioOut 0x10C) false false 3 ∧
    decodeBytes k [0xB5, 0x05, 0x01, 0] = .op (.loop 0x105) false false 3 ∧
    decodeBytes k [0xC1, 0x03, 0, 0] = .op (.custom 1 3) false false 2 ∧
    decodeBytes k [0xFE, 0x01, 0, 0] = .op (.page1 1) false false 2

/-- A core that meets an encoding the tables do not assign raises ILLEGAL with the bits fetched, whichever command asks it to
go on, and unassigned words of both encodings are such, R270 and R298. -/
def Obligations.UnassignedEncodingsRaiseIllegal : Prop :=
  (∀ (s : State) (c : Fin 18) (bits : Nat) (i : Instr),
    i ∈ [.nop c, .add c, .ldw c, .br c, .custom c, .reti c, .barrier c, .rsr c] →
    let x := s.core c
    x.halted = false → s.works (coreBlock c) = true → x.long = none → s.fetch c x.pc = .illegal s bits →
    x.rs.length ≤ 14 →
    Turns s i c (x.framed c 1 x.pc 1 (Word.ofNat x.pc) (Word.ofNat bits) false)) ∧
  (∀ (k : Nat → Bool) (w : Nat) (r : List Nat), w ∈ [0x040D, 0x0429, 0x0435, 0x0451, 0x0744, 0x0704, 0x073F] →
    decodeNarrow k (w :: r) = .illegal) ∧
  (∀ (k : Nat → Bool) (b : Byte) (r : List Byte), b ∈ [0x0D, 0x29, 0x35, 0x51, 0x83, 0x98, 0xB6, 0xE0, 0xFF] →
    decodeBytes k (b :: r) = .illegal)

/-! ## GSI: the stacks -/

/-- The stack instructions by their stack effects, FLAGS unchanged, R271: NOP, DUP, DROP, SWAP, OVER, ROT, NIP, TUCK, DUP2,
DROP2, TOR, FROMR, RFETCH and PUSHI. -/
def Obligations.StackMovesFollowTheirStackEffects : Prop :=
  ∀ (s : State) (c : Fin 18) (d : Decoded) (a b e : Word) (r : List Word),
    let x := s.core c
    let gives (n : Nat) (outs : List Word) : Core := x.pushed d n outs x.flags
    d.keep = false →
    (Ready s c d (.zero 0x00) [] 0 → Runs s (.nop c) c d (gives 0 [])) ∧
    (Ready s c d (.zero 0x01) [a] 2 → Runs s (.dup c) c d (gives 1 [a, a])) ∧
    (Ready s c d (.zero 0x02) [a] 0 → Runs s (.drop c) c d (gives 1 [])) ∧
    (Ready s c d (.zero 0x03) [b, a] 2 → Runs s (.swap c) c d (gives 2 [a, b])) ∧
    (Ready s c d (.zero 0x04) [b, a] 3 → Runs s (.over c) c d (gives 2 [a, b, a])) ∧
    (Ready s c d (.zero 0x05) [e, b, a] 3 → Runs s (.rot c) c d (gives 3 [a, e, b])) ∧
    (Ready s c d (.zero 0x06) [b, a] 1 → Runs s (.nip c) c d (gives 2 [b])) ∧
    (Ready s c d (.zero 0x07) [b, a] 3 → Runs s (.tuck c) c d (gives 2 [b, a, b])) ∧
    (Ready s c d (.zero 0x08) [b, a] 4 → Runs s (.dup2 c) c d (gives 2 [b, a, b, a])) ∧
    (Ready s c d (.zero 0x09) [b, a] 0 → Runs s (.drop2 c) c d (gives 2 [])) ∧
    (Ready s c d (.zero 0x0A) [a] 0 → x.rs.length < 12 →
      Runs s (.tor c) c d (({ x with rs := a :: x.rs } : Core).pushed d 1 [] x.flags)) ∧
    (Ready s c d (.zero 0x0B) [] 1 → x.rs = a :: r →
      Runs s (.fromr c) c d (({ x with rs := r } : Core).pushed d 0 [a] x.flags)) ∧
    (Ready s c d (.zero 0x0C) [] 1 → x.rs = a :: r → Runs s (.rfetch c) c d (gives 0 [a])) ∧
    (Ready s c d (.pushi a) [] 1 → Runs s (.pushi c) c d (gives 0 [a]))

/-- An entry is filled from the word at DSP, which then rises by 4, and spilled to the word below DSP, which falls by 4 (on a
watch core through its store buffer), R251 to R253: DUP on an empty data stack, PUSHI on a full one, and the same of the return
stack with FROMR and TOR. -/
def Obligations.StacksFillAndSpill : Prop :=
  ∀ (s : State) (c : Fin 18) (d : Decoded) (v w : Word), c.val < 16 → Issues s c d → d.keep = false →
    let x := s.core c
    let at_ (p : Word) : Word := memReadWord s.mem (dataMemBase (c / 2) + p.toNat)
    (d.op = .zero 0x01 → x.ds = [] → x.rs.length ≤ 12 → x.stores = [] → x.dsp.toNat < x.dsbase.toNat →
      x.dsp.toNat % 4 = 0 → x.dsp.toNat + 4 ≤ 0x20000 →
      Runs s (.dup c) c d (({ x with ds := [some (at_ x.dsp), some (at_ x.dsp)], dsp := x.dsp + 4 } : Core).completed
        d.here d.next false)) ∧
    (d.op = .pushi w → x.ds.length = 12 → x.ds.getLast? = some (some v) → x.rs.length ≤ 12 → x.stores.length < 4 →
      x.dslim.toNat + 4 ≤ x.dsp.toNat → x.dsp.toNat % 4 = 0 → x.dsp.toNat ≤ 0x20000 →
      Runs s (.pushi c) c d (({ x with
        ds := some w :: x.ds.dropLast, dsp := x.dsp - 4
        stores := x.stores ++ [⟨x.dsp.toNat - 4, leBytes 4 v.toNat, false⟩] } : Core).completed d.here d.next false)) ∧
    (d.op = .zero 0x0B → x.rs = [] → x.ds.length < 12 → x.stores = [] → x.rsp.toNat < x.rsbase.toNat →
      x.rsp.toNat % 4 = 0 → x.rsp.toNat + 4 ≤ 0x20000 →
      Runs s (.fromr c) c d (({ x with ds := some (at_ x.rsp) :: x.ds, rsp := x.rsp + 4 } : Core).completed
        d.here d.next false)) ∧
    (d.op = .zero 0x0A → x.rs.length = 12 → x.rs.getLast? = some v → x.ds.head? = some (some w) → x.ds.length ≤ 12 →
      x.stores.length < 4 → x.rslim.toNat + 4 ≤ x.rsp.toNat → x.rsp.toNat % 4 = 0 → x.rsp.toNat ≤ 0x20000 →
      Runs s (.tor c) c d (({ x with
        ds := x.ds.drop 1, rs := w :: x.rs.dropLast, rsp := x.rsp - 4
        stores := x.stores ++ [⟨x.rsp.toNat - 4, leBytes 4 v.toNat, false⟩] } : Core).completed d.here d.next false))

/-- STACK_FAULT is precise, with the stack and the subcause in CORE_ECAUSE and the address in CORE_EVAL: OVER where DSP − 4 lies
below the limit, UNDER where DSP is at or above the base, BUS outside data space, R253 and R298. With more than 12 entries
on the return stack it is a double fault, which fails the core, R254 and R309. -/
def Obligations.StackFaultsArePrecise : Prop :=
  ∀ (s : State) (c : Fin 18) (d : Decoded) (v w : Word), Issues s c d → d.keep = false →
    let x := s.core c
    let fault (stk sub : Nat) (a : Word) : Core :=
      x.framed c 2 x.pc (Word.ofNat (stk * 2 ^ 11 + sub * 2 ^ 8 + 2)) (Word.ofNat x.pc) a false
    (d.op = .pushi w → x.ds.length = 12 → x.ds.getLast? = some (some v) → x.rs.length ≤ 12 →
      x.dsp.toNat < x.dslim.toNat + 4 → Turns s (.pushi c) c (fault 0 1 (x.dsp - 4))) ∧
    (d.op = .zero 0x02 → x.ds = [] → x.rs.length ≤ 12 → x.dsbase.toNat ≤ x.dsp.toNat →
      Turns s (.drop c) c (fault 0 2 x.dsp)) ∧
    (d.op = .zero 0x02 → c.val < 16 → x.ds = [] → x.rs.length ≤ 12 → x.dsp.toNat < x.dsbase.toNat →
      0x20000 < x.dsp.toNat + 4 → Turns s (.drop c) c (fault 0 3 x.dsp)) ∧
    (d.op = .zero 0x0A → x.rs.length = 12 → x.ds.head? = some (some w) → x.ds.length ≤ 12 →
      x.rsp.toNat < x.rslim.toNat + 4 → Turns s (.tor c) c (fault 1 1 (x.rsp - 4))) ∧
    (d.op = .zero 0x0B → x.rs = [] → x.ds.length < 12 → x.rsbase.toNat ≤ x.rsp.toNat →
      Turns s (.fromr c) c (fault 1 2 x.rsp)) ∧
    (d.op = .zero 0x02 → x.ds = [] → 12 < x.rs.length → x.dsbase.toNat ≤ x.dsp.toNat →
      Answers s (.drop c) (fun t => (t.core c).failed = true ∧ (t.core c).halted = true ∧ (t.core c).ecause = 0x202 ∧
        (t.core c).eval = x.dsp))

/-! ## GSI: arithmetic and flags -/

/-- ADD, SUB, ADC, SBC, NEG, INC, DEC, ABS, CMP, TST, MIN, MAX, MINU and MAXU with their flags, R265 and R271: C the carry out
or the absence of a borrow, V the signed overflow, Z and N of the result. With NF, FLAGS stay; MIN to MAXU set no flags. -/
def Obligations.ArithmeticSetsFlags : Prop :=
  ∀ (s : State) (c : Fin 18) (d : Decoded) (a b : Word),
    let x := s.core c
    let fl (f : BitVec 4) : BitVec 4 := if d.nf then x.flags else f
    let k := b2n (flagC x.flags)
    let two (o : Nat) : Prop := Ready s c d (.zero o) [b, a] 1
    let one (o : Nat) : Prop := Ready s c d (.zero o) [a] 1
    let gives (n : Nat) (r : Word) (v cy : Bool) : Core := x.pushed d n [r] (fl (flagsOf v cy r))
    let low (n : Nat) (r : Word) : Core := x.pushed d n [r] x.flags
    (two 0x10 → Runs s (.add c) c d (gives 2 (a + b) (decide ((a + b).toInt ≠ a.toInt + b.toInt))
      (decide (2 ^ 32 ≤ a.toNat + b.toNat)))) ∧
    (two 0x11 → Runs s (.sub c) c d (gives 2 (a - b) (decide ((a - b).toInt ≠ a.toInt - b.toInt))
      (decide (b.toNat ≤ a.toNat)))) ∧
    (two 0x12 → Runs s (.adc c) c d (gives 2 (a + b + Word.ofNat k)
      (decide ((a + b + Word.ofNat k).toInt ≠ a.toInt + b.toInt + k)) (decide (2 ^ 32 ≤ a.toNat + b.toNat + k)))) ∧
    (two 0x13 → Runs s (.sbc c) c d (gives 2 (a - b - 1 + Word.ofNat k)
      (decide ((a - b - 1 + Word.ofNat k).toInt ≠ a.toInt - b.toInt - 1 + k)) (decide (b.toNat + 1 ≤ a.toNat + k)))) ∧
    (one 0x14 → Runs s (.neg c) c d (gives 1 (-a) (decide (a = 0x80000000)) (decide (a = 0)))) ∧
    (one 0x15 → Runs s (.inc c) c d (gives 1 (a + 1) (decide (a = 0x7FFFFFFF)) (decide (a = 0xFFFFFFFF)))) ∧
    (one 0x16 → Runs s (.dec c) c d (gives 1 (a - 1) (decide (a = 0x80000000)) (decide (a ≠ 0)))) ∧
    (one 0x17 →
      Runs s (.abs c) c d (gives 1 (if a.toInt < 0 then -a else a) (decide (a = 0x80000000)) (flagC x.flags))) ∧
    (Ready s c d (.zero 0x20) [b, a] 0 → Runs s (.cmp c) c d (x.pushed d 2 [] (fl (flagsOf
      (decide ((a - b).toInt ≠ a.toInt - b.toInt)) (decide (b.toNat ≤ a.toNat)) (a - b))))) ∧
    (Ready s c d (.zero 0x21) [a] 0 →
      Runs s (.tst c) c d (x.pushed d 1 [] (fl (flagsOf (flagV x.flags) (flagC x.flags) a)))) ∧
    (two 0x22 → Runs s (.min c) c d (low 2 (if a.toInt < b.toInt then a else b))) ∧
    (two 0x23 → Runs s (.max c) c d (low 2 (if a.toInt < b.toInt then b else a))) ∧
    (two 0x24 → Runs s (.minu c) c d (low 2 (if a.toNat < b.toNat then a else b))) ∧
    (two 0x25 → Runs s (.maxu c) c d (low 2 (if a.toNat < b.toNat then b else a)))

/-- AND, OR, XOR, NOT, the shifts by n mod 32, SEXTB, SEXTH, CLZ, POPCNT, CTZ and BSWAP, R265 and R271: Z and N of the result, V
unchanged, C the last bit shifted out (unchanged for a count of 0 and outside the shifts; for ROR the result's bit 31); BSWAP
sets no flags. -/
def Obligations.LogicShiftsAndCounts : Prop :=
  ∀ (s : State) (c : Fin 18) (d : Decoded) (a b : Word) (n : Nat) (p q u v : Byte),
    let x := s.core c
    let fl (f : BitVec 4) : BitVec 4 := if d.nf then x.flags else f
    let gives (m : Nat) (r : Word) (cy : Bool) : Core := x.pushed d m [r] (fl (flagsOf (flagV x.flags) cy r))
    let two (o : Nat) : Prop := Ready s c d (.zero o) [b, a] 1
    let one (o : Op) : Prop := Ready s c d o [a] 1
    let cf := flagC x.flags
    let sh := b.toNat % 32
    (two 0x18 → Runs s (.and c) c d (gives 2 (a &&& b) cf)) ∧
    (two 0x19 → Runs s (.or c) c d (gives 2 (a ||| b) cf)) ∧
    (two 0x1A → Runs s (.xor c) c d (gives 2 (a ^^^ b) cf)) ∧
    (one (.zero 0x1B) → Runs s (.not c) c d (gives 1 (~~~a) cf)) ∧
    (two 0x1C → Runs s (.shl c) c d (gives 2 (Word.ofNat (a.toNat * 2 ^ sh))
      (if sh = 0 then cf else decide (a.toNat * 2 ^ sh / 2 ^ 32 % 2 = 1)))) ∧
    (two 0x1D → Runs s (.shr c) c d (gives 2 (Word.ofNat (a.toNat / 2 ^ sh))
      (if sh = 0 then cf else decide (a.toNat / 2 ^ (sh - 1) % 2 = 1)))) ∧
    (two 0x1E → Runs s (.sar c) c d (gives 2 (BitVec.ofInt 32 (a.toInt / 2 ^ sh))
      (if sh = 0 then cf else decide (a.toNat / 2 ^ (sh - 1) % 2 = 1)))) ∧
    (two 0x1F → Runs s (.ror c) c d (gives 2 (a >>> sh ||| a <<< (32 - sh))
      (if sh = 0 then cf else (a >>> sh ||| a <<< (32 - sh)).getLsbD 31))) ∧
    (one (.zero 0x26) → Runs s (.sextb c) c d (gives 1 ((a.setWidth 8).signExtend 32) cf)) ∧
    (one (.zero 0x27) → Runs s (.sexth c) c d (gives 1 ((a.setWidth 16).signExtend 32) cf)) ∧
    (one (.zero 0x28) → (n < 32 ∧ 2 ^ (31 - n) ≤ a.toNat ∧ a.toNat < 2 ^ (32 - n)) ∨ (n = 32 ∧ a = 0) →
      Runs s (.clz c) c d (gives 1 (Word.ofNat n) cf)) ∧
    (one (.page1 1) →
      Runs s (.popcnt c) c d (gives 1 (Word.ofNat ((List.range 32).filter (fun i => a.getLsbD i)).length) cf)) ∧
    (one (.page1 3) → (n < 32 ∧ a.toNat % 2 ^ (n + 1) = 2 ^ n) ∨ (n = 32 ∧ a = 0) →
      Runs s (.ctz c) c d (gives 1 (Word.ofNat n) cf)) ∧
    (Ready s c d (.page1 2) [p ++ q ++ u ++ v] 1 → Runs s (.bswap c) c d (x.pushed d 1 [v ++ u ++ q ++ p] x.flags))

/-- MUL and MULU put the 64-bit product behind those in flight; PRODUCT_LAND writes the oldest to PH and PL; MFPH and MFPL push
them, R271 and R272. -/
def Obligations.ProductsLandInIssueOrder : Prop :=
  ∀ (s : State) (c : Fin 18) (d : Decoded) (a b h l : Word) (r : List (Word × Word)),
    let x := s.core c
    let entered (p : BitVec 64) : Core :=
      ({ x with products := x.products ++ [(p.extractLsb' 32 32, p.extractLsb' 0 32)] } : Core).pushed d 2 [] x.flags
    (Ready s c d (.zero 0x2C) [b, a] 0 → Runs s (.mul c) c d (entered (a.signExtend 64 * b.signExtend 64))) ∧
    (Ready s c d (.zero 0x2D) [b, a] 0 → Runs s (.mulu c) c d (entered (a.setWidth 64 * b.setWidth 64))) ∧
    (x.products = (h, l) :: r → Turns s (.productLand c) c { x with ph := h, pl := l, products := r }) ∧
    (Ready s c d (.zero 0x2E) [] 1 → Runs s (.mfph c) c d (x.pushed d 0 [x.ph] x.flags)) ∧
    (Ready s c d (.zero 0x2F) [] 1 → Runs s (.mfpl c) c d (x.pushed d 0 [x.pl] x.flags))

/-! ## GSI: memory and I/O -/

/-- Loads and stores of a watch core in data space, R259, R271 and R304: little-endian, H and B zero-extended, HS and BS
sign-extended, the offset scaled by the size; a store enters the store buffer. LDP reads a word of program memory, of 14 bits in
the narrow encoding, R261. -/
def Obligations.LoadsAndStoresReachDataSpace : Prop :=
  ∀ (s : State) (c : Fin 18) (d : Decoded) (a w : Word) (off : Nat), c.val < 16 →
    let x := s.core c
    let ad (n : Nat) : Nat := (a + Word.ofNat (off * n)).toNat
    let ok (n k : Nat) : Prop := k % n = 0 ∧ k + n ≤ 0x20000
    let v (n k : Nat) : Nat := ofLe (memReadBytes s.mem (dataMemBase (c / 2) + k) n)
    let got (r : Word) : Core := x.pushed d 1 [r] x.flags
    let ld (o : Op) (n k : Nat) : Prop := Ready s c d o [a] 1 ∧ ok n k ∧ x.stores = []
    let st (o : Op) (n k : Nat) : Prop := Ready s c d o [a, w] 0 ∧ ok n k ∧ x.stores.length < 4
    let put (n k : Nat) : Core :=
      ({ x with stores := x.stores ++ [⟨k, leBytes n w.toNat, false⟩] } : Core).pushed d 2 [] x.flags
    (ld (.zero 0x38) 4 a.toNat → Runs s (.ldw c) c d (got (Word.ofNat (v 4 a.toNat)))) ∧
    (ld (.zero 0x39) 2 a.toNat → Runs s (.ldh c) c d (got (Word.ofNat (v 2 a.toNat)))) ∧
    (ld (.zero 0x3A) 2 a.toNat → Runs s (.ldhs c) c d (got ((BitVec.ofNat 16 (v 2 a.toNat)).signExtend 32))) ∧
    (ld (.zero 0x3B) 1 a.toNat → Runs s (.ldb c) c d (got (Word.ofNat (v 1 a.toNat)))) ∧
    (ld (.zero 0x3C) 1 a.toNat → Runs s (.ldbs c) c d (got ((BitVec.ofNat 8 (v 1 a.toNat)).signExtend 32))) ∧
    (ld (.mem 0 off) 4 (ad 4) → Runs s (.ldOff c) c d (got (Word.ofNat (v 4 (ad 4))))) ∧
    (ld (.mem 1 off) 2 (ad 2) → Runs s (.ldOff c) c d (got (Word.ofNat (v 2 (ad 2))))) ∧
    (ld (.mem 2 off) 2 (ad 2) → Runs s (.ldOff c) c d (got ((BitVec.ofNat 16 (v 2 (ad 2))).signExtend 32))) ∧
    (ld (.mem 3 off) 1 (ad 1) → Runs s (.ldOff c) c d (got (Word.ofNat (v 1 (ad 1))))) ∧
    (ld (.mem 4 off) 1 (ad 1) → Runs s (.ldOff c) c d (got ((BitVec.ofNat 8 (v 1 (ad 1))).signExtend 32))) ∧
    (st (.zero 0x3D) 4 a.toNat → Runs s (.stw c) c d (put 4 a.toNat)) ∧
    (st (.zero 0x3E) 2 a.toNat → Runs s (.sth c) c d (put 2 a.toNat)) ∧
    (st (.zero 0x3F) 1 a.toNat → Runs s (.stb c) c d (put 1 a.toNat)) ∧
    (st (.mem 5 off) 4 (ad 4) → Runs s (.stOff c) c d (put 4 (ad 4))) ∧
    (st (.mem 6 off) 2 (ad 2) → Runs s (.stOff c) c d (put 2 (ad 2))) ∧
    (st (.mem 7 off) 1 (ad 1) → Runs s (.stOff c) c d (put 1 (ad 1))) ∧
    (Ready s c d (.zero 0x40) [a] 1 → x.enc = true → a.toNat % 4 = 0 → Runs s (.ldp c) c d (got
      (Word.ofNat (ofLe (memReadBytes s.mem (progMemBase (s.ident c) + a.toNat % 65536) 4))))) ∧
    (Ready s c d (.zero 0x40) [a] 1 → x.enc = false → Runs s (.ldp c) c d (got
      (Word.ofNat (ofLe (memReadBytes s.mem (progMemBase (s.ident c) + 2 * (a.toNat % 32768)) 2) % 2 ^ 14))))

/-- STORE_DRAIN performs the oldest store in data memory, its bytes only, unless it belongs to a shadow; a load takes all its
bytes from the youngest store that writes them, and waits where they come from more than one place, R304 and R305. -/
def Obligations.TheStoreBufferDrainsAndForwards : Prop :=
  ∀ (s : State) (c : Fin 18) (k : Fin 16) (d : Decoded) (a w : Word) (b : Byte) (e : StoreEntry) (r : List StoreEntry),
    let base := dataMemBase (k / 2) + e.addr
    let y := s.core k
    (y.stores = e :: r → e.shadow = false → Answers s (.storeDrain k) (fun t =>
      OnlyCoreMem s t k ∧ t.core k = { y with stores := r } ∧ SameMemOutside s t base (base + e.bytes.length) ∧
      ∀ i, i < e.bytes.length → memRead t.mem (base + i) = e.bytes.getD i 0)) ∧
    (y.stores = e :: r → e.shadow = true → exec (.storeDrain k) s = .next s) ∧
    (c.val < 16 → Ready s c d (.zero 0x38) [a] 1 → a.toNat % 4 = 0 → a.toNat + 4 ≤ 0x20000 →
      (s.core c).stores = r ++ [⟨a.toNat, leBytes 4 w.toNat, false⟩] →
      Runs s (.ldw c) c d ((s.core c).pushed d 1 [w] (s.core c).flags)) ∧
    (c.val < 16 → Ready s c d (.zero 0x38) [a] 1 → a.toNat % 4 = 0 → a.toNat + 4 ≤ 0x20000 →
      (s.core c).stores = [⟨a.toNat, [b], false⟩] → exec (.ldw c) s = .next s)

/-- A data address outside data space raises BUS_ERROR and a misaligned one ALIGN, before any effect, with the address in
CORE_EVAL, R259, R275 and R298; so does an unmapped or misaligned I/O address, R262. -/
def Obligations.BadAddressesRaiseExceptions : Prop :=
  ∀ (s : State) (c : Fin 18) (d : Decoded) (a w : Word),
    let x := s.core c
    let fault (v : Nat) : Core := x.framed c v x.pc (Word.ofNat v) (Word.ofNat x.pc) a false
    (c.val < 16 → Ready s c d (.zero 0x38) [a] 1 → 0x20000 < a.toNat + 4 → Turns s (.ldw c) c (fault 3)) ∧
    (c.val < 16 → Ready s c d (.zero 0x38) [a] 1 → a.toNat + 4 ≤ 0x20000 → a.toNat % 4 ≠ 0 → Turns s (.ldw c) c (fault 4)) ∧
    (c.val < 16 → Ready s c d (.zero 0x3E) [a, w] 0 → 0x20000 < a.toNat + 2 → Turns s (.sth c) c (fault 3)) ∧
    (c.val < 16 → Ready s c d (.zero 0x3E) [a, w] 0 → a.toNat + 2 ≤ 0x20000 → a.toNat % 2 ≠ 0 →
      Turns s (.sth c) c (fault 4)) ∧
    (Ready s c d (.zero 0x41) [a] 1 → a.toNat % 4 ≠ 0 → Turns s (.ins c) c (fault 4)) ∧
    (Ready s c d (.zero 0x41) [a] 1 → a.toNat % 4 = 0 → x.stores = [] → s.ioRead c a.toNat = none →
      Turns s (.ins c) c (fault 3)) ∧
    (Ready s c d (.zero 0x42) [a, w] 0 → 0x10000 ≤ a.toNat → a.toNat % 4 = 0 → x.stores = [] →
      Turns s (.outs c) c (fault 3))

/-- IN and INS read an I/O register and OUT and OUTS write it, once the store buffer is empty, R262, R271, R306 and R313:
CORE_CTL, CORE_IEN, CORE_VBASE, CORE_ETHR and CORE_CYCLE, which counts the processor's cycles. -/
def Obligations.IoInstructionsReachRegisters : Prop :=
  ∀ (s : State) (c : Fin 18) (d : Decoded) (a w : Word),
    let x := s.core c
    let rd (k : Nat) (v : Word) : Prop :=
      Ready s c d (.ioIn k) [] 1 → x.stores = [] → Runs s (.ioIn c) c d (x.pushed d 0 [v] x.flags)
    let wr (k : Nat) (y : Core) : Prop :=
      (Ready s c d (.ioOut k) [w] 0 → x.stores = [] → Runs s (.ioOut c) c d (y.pushed d 1 [] x.flags)) ∧
      (Ready s c d (.zero 0x42) [Word.ofNat k, w] 0 → x.stores = [] →
        Runs s (.outs c) c d (y.pushed d 2 [] x.flags))
    (Ready s c d (.zero 0x41) [a] 1 → a.toNat % 4 = 0 → x.stores = [] → s.ioRead c a.toNat = some (w, s) →
      Runs s (.ins c) c d (x.pushed d 1 [w] x.flags)) ∧
    rd 0x00 (Word.ofNat (2 * b2n x.det + b2n x.ie)) ∧ rd 0x04 (Word.ofNat x.ien) ∧ rd 0x0C x.vbase ∧ rd 0x10 x.ecause ∧
    rd 0x14 x.eaddr ∧ rd 0x18 x.eval ∧ rd 0x1C 0 ∧ rd 0x24 (Word.ofNat x.thr) ∧
    rd 0x28 (Word.ofNat (Tab.get 0 s.pipe.cycles c / 10)) ∧
    wr 0x00 { x with ie := w.getLsbD 0, det := w.getLsbD 1 } ∧ wr 0x04 { x with ien := w.toNat % 32 } ∧
    wr 0x0C { x with vbase := w } ∧ wr 0x10 x ∧ wr 0x24 { x with thr := w.toNat % 64 } ∧
    (Ready s c d (.ioOut 0x0C) [w] 0 → x.stores ≠ [] → exec (.ioOut c) s = .next s)

/-! ## GSI: control flow -/

/-- BR, the conditional branches, CALL, CALLS, JMPS and RET, R260, R266 and R271: a displacement counts from the next
instruction, modulo the instruction space; the return address is the next instruction. -/
def Obligations.BranchesAndCallsGoToTheirTargets : Prop :=
  ∀ (s : State) (c : Fin 18) (d : Decoded) (disp : Int) (a : Word) (r : List Word), Issues s c d →
    let x := s.core c
    let f := x.flags
    let target := (((d.next : Int) + disp) % (x.space c : Int)).toNat
    let go (y : Core) (gives : Nat) : Core := y.completed d.here gives false
    let branch (cc : Nat) (i : Instr) (taken : Bool) : Prop :=
      d.op = .branch cc disp → Runs s i c d (go x (if taken then target else d.next))
    branch 0 (.br c) true ∧ branch 1 (.beq c) (flagZ f) ∧ branch 2 (.bne c) (!flagZ f) ∧
    branch 3 (.blt c) (flagN f != flagV f) ∧ branch 4 (.bge c) (flagN f == flagV f) ∧
    branch 5 (.bltu c) (!flagC f) ∧ branch 6 (.bgeu c) (flagC f) ∧
    (d.op = .branch 7 disp → Fits x 0 0 0 1 →
      Runs s (.call c) c d (go { x with rs := Word.ofNat d.next :: x.rs } target)) ∧
    (Ready s c d (.zero 0x4A) [a] 0 → d.keep = false → x.rs.length < 12 →
      Runs s (.calls c) c d (go { x with ds := x.ds.drop 1, rs := Word.ofNat d.next :: x.rs } (a.toNat % x.space c))) ∧
    (Ready s c d (.zero 0x49) [a] 0 → d.keep = false →
      Runs s (.jmps c) c d (go { x with ds := x.ds.drop 1 } (a.toNat % x.space c))) ∧
    (d.op = .zero 0x48 → x.rs = a :: r → Fits x 0 0 1 0 →
      Runs s (.ret c) c d (go { x with rs := r } (a.toNat % x.space c)))

/-- TRAP and BREAK enter their vectors with a frame that returns to them, n in CORE_EVAL, R271 and R299; n itself stays on the
stack, which is the model's reading of R297 (log entry 33). -/
def Obligations.TrapsEnterTheirVectors : Prop :=
  ∀ (s : State) (c : Fin 18) (d : Decoded) (n : Word), Issues s c d →
    let x := s.core c
    (Ready s c d (.zero 0x4E) [n] 0 → Turns s (.trap c) c (x.framed c 6 x.pc 6 (Word.ofNat x.pc) n false)) ∧
    (d.op = .zero 0x4F → x.rs.length ≤ 14 → Turns s (.break_ c) c (x.framed c 7 x.pc 7 (Word.ofNat x.pc) 0 false))

/-- LOOP pushes a loop of n passes from the next instruction to E, with n of 0 goes on after the instruction at E, and with four
loops active raises ILLEGAL; the completion of the instruction at E goes back to LS while passes are left and else leaves the
loop; a masked loop is not tested; LEXIT leaves the innermost loop and at the masked depth does nothing, R276 to R279. -/
def Obligations.LoopsStartRepeatAndAreLeft : Prop :=
  ∀ (s : State) (c : Fin 18) (d d' : Decoded) (s' : State) (l st k : Nat) (n : Word) (r : List (Nat × Nat × Nat)),
    d.keep = false →
    let x := s.core c
    let e := (d.next + l) % x.space c
    (Ready s c d (.loop l) [n] 0 → x.loops.length < 4 → n ≠ 0 → Runs s (.loop c) c d
      (({ x with ds := x.ds.drop 1, loops := (d.next, e, n.toNat) :: x.loops } : Core).completed d.here d.next false)) ∧
    (Ready s c d (.loop l) [n] 0 → x.loops.length < 4 → n = 0 → s.fetch c e = .got s' d' → Runs s (.loop c) c d
      (({ x with ds := x.ds.drop 1 } : Core).completed d.here d'.next false)) ∧
    (Issues s c d → d.op = .loop l → x.loops.length = 4 → x.rs.length ≤ 14 → Answers s (.loop c) (fun t =>
      (t.core c).pc = (x.vbase.toNat / 16 * 16 + 16 * 1) % x.space c ∧ (t.core c).loops = x.loops ∧ (t.core c).masked = 4)) ∧
    (Ready s c d (.zero 0x00) [] 0 → x.loops = (st, d.here, k + 2) :: r → x.masked < r.length + 1 →
      Runs s (.nop c) c d { x with pc := st, loops := (st, d.here, k + 1) :: r, waiting := false }) ∧
    (Ready s c d (.zero 0x00) [] 0 → x.loops = [(st, d.here, 1)] → x.masked = 0 →
      Runs s (.nop c) c d { x with pc := d.next, loops := [], waiting := false }) ∧
    (Ready s c d (.zero 0x00) [] 0 → x.loops = (st, d.here, k) :: r → r.length < x.masked →
      Runs s (.nop c) c d { x with pc := d.next, waiting := false }) ∧
    (Issues s c d → d.op = .zero 0x50 → x.masked < x.loops.length →
      Runs s (.lexit c) c d (({ x with loops := x.loops.drop 1 } : Core).completed d.here d.next false)) ∧
    (Issues s c d → d.op = .zero 0x50 → x.loops.length ≤ x.masked →
      Runs s (.lexit c) c d (x.completed d.here d.next false))

/-! ## GSI: special registers -/

/-- RSR reads the special registers of R256 (0 for an unassigned number). WSR writes FLAGS, PH, PL, a base or limit (word
aligned) or the innermost count, discards a write to a read-only one, and for DSP with no entry below its input
only sets the pointer, R255 to R257. SPILLALL on empty stacks only completes. -/
def Obligations.SpecialRegisters : Prop :=
  ∀ (s : State) (c : Fin 18) (d : Decoded) (w : Word) (st e n : Nat) (r : List (Nat × Nat × Nat)),
    let x := s.core c
    let rd (k : Nat) (v : Word) : Prop := Ready s c d (.rsr k) [] 1 → Runs s (.rsr c) c d (x.pushed d 0 [v] x.flags)
    let wr (k : Nat) (y : Core) : Prop := Ready s c d (.wsr k) [w] 0 → d.keep = false →
      Runs s (.wsr c) c d (({ y with ds := x.ds.drop 1 } : Core).completed d.here d.next false)
    rd 0 (x.flags.setWidth 32) ∧ rd 1 x.ph ∧ rd 2 x.pl ∧ rd 3 x.dsp ∧ rd 4 x.dsbase ∧ rd 5 x.dslim ∧ rd 6 x.rsp ∧
    rd 7 x.rsbase ∧ rd 8 x.rslim ∧ rd 9 (Word.ofNat (256 * x.rs.length + x.ds.length)) ∧
    (x.loops = (st, e, n) :: r → rd 10 (Word.ofNat st) ∧ rd 11 (Word.ofNat e) ∧ rd 12 (Word.ofNat n)) ∧
    (x.loops = [] → rd 10 0 ∧ rd 11 0 ∧ rd 12 0) ∧
    rd 13 (Word.ofNat x.loops.length) ∧ rd 14 (s.coreWord c) ∧ (∀ k, 14 < k → rd k 0 ∧ wr k x) ∧
    wr 0 { x with flags := w.extractLsb' 0 4 } ∧ wr 1 { x with ph := w } ∧ wr 2 { x with pl := w } ∧
    (x.ds.length = 1 → wr 3 { x with dsp := w &&& 0xFFFFFFFC }) ∧
    wr 4 { x with dsbase := w &&& 0xFFFFFFFC } ∧ wr 5 { x with dslim := w &&& 0xFFFFFFFC } ∧
    (x.rs = [] → wr 6 { x with rsp := w &&& 0xFFFFFFFC }) ∧
    wr 7 { x with rsbase := w &&& 0xFFFFFFFC } ∧ wr 8 { x with rslim := w &&& 0xFFFFFFFC } ∧
    (x.loops = (st, e, n) :: r → wr 12 { x with loops := (st, e, w.toNat) :: r }) ∧
    wr 9 x ∧ wr 10 x ∧ wr 11 x ∧ wr 13 x ∧ wr 14 x ∧
    (Issues s c d → d.op = .page1 0 → x.ds = [] → x.rs = [] →
      Runs s (.spillall c) c d (x.completed d.here d.next false))

/-! ## GSI: long instructions -/

/-- DIV, DIVU, REM, REMU, SQRT, MOVB and CUSTOM issue: they pop their inputs, reserve their outputs on top of the data stack and
stay in flight with the state from before them, R274, R280 and R293. CUSTOM on a slot that is not valid raises ILLEGAL. -/
def Obligations.LongInstructionsIssue : Prop :=
  ∀ (s : State) (c : Fin 18) (d : Decoded) (a b e : Word) (slot imm : Nat) (l : List Word), d.keep = false →
    let x := s.core c
    let sd := slotDesc (Tab.get 0 x.desc slot)
    let out (k : LongKind) (ins : List Word) (m : Nat) : Core :=
      ({ x with
        ds := List.replicate m none ++ x.ds.drop ins.length
        long := some { kind := k, ins := ins, outs := m, shadow := 0
                       saved := { pc := d.here, ds := x.ds, rs := x.rs, dsp := x.dsp, rsp := x.rsp, flags := x.flags,
                                  loops := x.loops } } } : Core).completed d.here d.next false
    (Ready s c d (.zero 0x30) [b, a] 1 → Runs s (.div c) c d (out .div [b, a] 1)) ∧
    (Ready s c d (.zero 0x31) [b, a] 1 → Runs s (.divu c) c d (out .divu [b, a] 1)) ∧
    (Ready s c d (.zero 0x32) [b, a] 1 → Runs s (.rem c) c d (out .rem [b, a] 1)) ∧
    (Ready s c d (.zero 0x33) [b, a] 1 → Runs s (.remu c) c d (out .remu [b, a] 1)) ∧
    (Ready s c d (.zero 0x34) [a] 1 → Runs s (.sqrt c) c d (out .sqrt [a] 1)) ∧
    (Ready s c d (.zero 0x43) [e, b, a] 0 → Runs s (.movb c) c d (out .movb [e, b, a] 0)) ∧
    (Ready s c d (.custom slot imm) l sd.nout → l.length = sd.nin → sd.valid = true →
      Runs s (.custom c) c d (out (.custom slot imm) l sd.nout)) ∧
    (Issues s c d → d.op = .custom slot imm → sd.valid = false → x.rs.length ≤ 14 → Answers s (.custom c) (fun t =>
      (t.core c).pc = (x.vbase.toNat / 16 * 16 + 16 * 1) % x.space c ∧ (t.core c).ds = x.ds ∧ (t.core c).long = none))

/-- LONG_RETIRE writes the outputs into the reserved entries and commits the shadow: DIV towards zero, REM with the sign of
a, DIVU and REMU unsigned, SQRT rounded down; −2^31 / −1 gives −2^31, R271 and R295. A divisor of 0 pushes 0 and raises
DIVZERO with the next instruction not yet issued as return address, IMPRECISE where the shadow held an instruction, R274 and
R297. -/
def Obligations.LongInstructionsRetire : Prop :=
  ∀ (s : State) (c : Fin 18) (l : LongOp) (a b : Word) (r : List (Option Word)), s.works (coreBlock c) = true →
    (s.core c).long = some l → l.outs = 1 →
    let x := s.core c
    let kept : List StoreEntry := x.stores.map (fun e => { e with shadow := false })
    let out (w : Word) : Core := { x with ds := some w :: r, long := none, stores := kept }
    x.ds = none :: r → none ∉ r →
    (l.kind = .div → l.ins = [b, a] → b ≠ 0 →
      Turns s (.longRetire c) c (out (BitVec.ofInt 32 (Int.tdiv a.toInt b.toInt)))) ∧
    (l.kind = .divu → l.ins = [b, a] → b ≠ 0 → Turns s (.longRetire c) c (out (Word.ofNat (a.toNat / b.toNat)))) ∧
    (l.kind = .rem → l.ins = [b, a] → b ≠ 0 →
      Turns s (.longRetire c) c (out (BitVec.ofInt 32 (Int.tmod a.toInt b.toInt)))) ∧
    (l.kind = .remu → l.ins = [b, a] → b ≠ 0 → Turns s (.longRetire c) c (out (Word.ofNat (a.toNat % b.toNat)))) ∧
    (l.kind = .sqrt → l.ins = [a] → ∀ q, q * q ≤ a.toNat → a.toNat < (q + 1) * (q + 1) →
      Turns s (.longRetire c) c (out (Word.ofNat q))) ∧
    (l.kind = .div → l.ins = [0, a] → x.rs.length ≤ 14 →
      Turns s (.longRetire c) c ((out 0).framed c 5 x.pc
        (Word.ofNat (b2n (decide (0 < l.shadow)) * 2 ^ 31 + 5)) (Word.ofNat l.saved.pc) 0 (decide (0 < l.shadow))))

/-- MOVB copies its bytes in ascending order within cluster data memory, its stores through the store buffer, and changes no
byte outside the destination: once the buffer has drained the bytes stand there, R273 and R304; a custom instruction leaves u0 to u(NOUT − 1), u0 on top, R281: for one micro-op that adds u0 and u1 and ends, their sum. -/
def Obligations.BlockCopyAndMicrocode : Prop :=
  ∀ (s : State) (c : Fin 18) (l : LongOp) (n dst src a b : Word) (slot imm : Nat), c.val < 16 →
    s.works (coreBlock c) = true → (s.core c).long = some l → (s.core c).stores = [] →
    let x := s.core c
    let base := dataMemBase (c / 2)
    (l.kind = .movb → l.ins = [n, dst, src] → l.outs = 0 → none ∉ x.ds →
      src.toNat + n.toNat ≤ 0x20000 → dst.toNat + n.toNat ≤ 0x20000 →
      (src.toNat + n.toNat ≤ dst.toNat ∨ dst.toNat + n.toNat ≤ src.toNat) →
      Answers s (.longRetire c) (fun t =>
        let u := t.drainAll c
        OnlyCoreMem s t c ∧ t.core c = { x with long := none, stores := (t.core c).stores } ∧
        (t.core c).stores.length ≤ 4 ∧ (u.core c).stores = [] ∧
        SameMemOutside s t (base + dst.toNat) (base + dst.toNat + n.toNat) ∧
        SameMemOutside s u (base + dst.toNat) (base + dst.toNat + n.toNat) ∧
        ∀ k, k < n.toNat → memRead u.mem (base + dst.toNat + k) = memRead s.mem (base + src.toNat + k))) ∧
    (l.kind = .custom slot imm → l.ins = [b, a] → l.outs = 1 →
      (slotDesc (Tab.get 0 x.desc slot)).entry = 0 →
      Tab.get 0 x.micro 0 = 0x8402000000000000 →
      x.ds.head? = some none → none ∉ x.ds.drop 1 →
      Turns s (.longRetire c) c { x with ds := some (a + b) :: x.ds.drop 1, long := none })

/-- The shadow of a long instruction: PUSHI, which needs no reserved entry, issues and counts; MUL, OUT and a second long
instruction do not issue, and in deterministic mode nothing does, R293, R294 and R307. -/
def Obligations.ShadowsAdmitWhatTheyMay : Prop :=
  ∀ (s : State) (c : Fin 18) (d : Decoded) (l : LongOp) (w : Word), c.val < 16 →
    let x := s.core c
    x.halted = false → s.works (coreBlock c) = true → x.long = some l → s.fetch c x.pc = .got s d →
    (d.op = .pushi w → x.det = false → l.shadow < 16 → (∀ p ∈ x.loops, p.2.1 ≠ d.here) → x.ds.length < 12 →
      x.rs.length ≤ 12 → d.keep = false →
      Runs s (.pushi c) c d { x with
        ds := some w :: x.ds, pc := d.next, waiting := false, long := some { l with shadow := l.shadow + 1 } }) ∧
    (d.op = .zero 0x2C → exec (.mul c) s = .next s) ∧
    (d.op = .ioOut 0 → exec (.ioOut c) s = .next s) ∧
    (d.op = .zero 0x31 → exec (.divu c) s = .next s) ∧
    (d.op = .pushi w → x.det = true → exec (.pushi c) s = .next s)

/-! ## Watch cores: interrupts, failure and control -/

/-- RETI pops the status word and the return address, restores FLAGS, IE and the masked depth, discards the loops beyond the
LDEPTH at entry, and returns, R303. INTERRUPT_ENTRY with IE 1 enters the lowest vector pending and enabled; a long division in
flight is abandoned with its shadow: stacks, pointers, FLAGS, loops and pc return to their state before it, and the shadow's
stores are discarded, R301 and R302. A core in WAIT enters with the address after the WAIT. With IE 0, or on a halted core, nothing happens. -/
def Obligations.InterruptsEnterAbandonAndReturn : Prop :=
  ∀ (s : State) (c : Fin 18) (d : Decoded) (done v : Nat) (l : LongOp) (st ra : Word) (r : List Word),
    let x := s.core c
    (Issues s c d → d.op = .zero 0x4B → x.rs = st :: ra :: r → Fits x 0 0 2 0 →
      Runs s (.reti c) c d (({ x with
        rs := r, flags := st.extractLsb' 0 4, ie := st.getLsbD 30, masked := (st.extractLsb' 27 3).toNat
        loops := x.loops.drop (x.loops.length - (st.extractLsb' 24 3).toNat) } : Core).completed d.here
          (ra.toNat % x.space c) false)) ∧
    (x.halted = false → s.works (coreBlock c) = true → x.ie = true → s.interruptOf c = some v → x.waiting = false →
      (x.long = none → x.rs.length ≤ 14 → Turns s (.interruptEntry c done) c
        (({ x with soft := x.soft && v != 12, bell := x.bell && v != 11 } : Core).framed c v x.pc (Word.ofNat v)
          (Word.ofNat x.pc) 0 false)) ∧
      (x.long = some l → l.kind = .div → c.val < 16 → l.saved.rs.length ≤ 14 → Answers s (.interruptEntry c done) (fun t =>
        OnlyCore s t c ∧ (t.core c).long = none ∧ (t.core c).ds = l.saved.ds ∧ (t.core c).dsp = l.saved.dsp ∧
        (t.core c).flags = l.saved.flags ∧ (t.core c).loops = l.saved.loops ∧
        (t.core c).stores = x.stores.filter (fun e => !e.shadow) ∧
        (∃ w, (t.core c).rs = w :: Word.ofNat l.saved.pc :: l.saved.rs)))) ∧
    (x.halted = false → s.works (coreBlock c) = true → x.ie = true → s.interruptOf c = some v → x.waiting = true →
      s.fetch c x.pc = .got s d → x.loops = [] → x.rs.length ≤ 14 → Answers s (.interruptEntry c done) (fun t =>
        OnlyCore s t c ∧ (t.core c).waiting = false ∧ (t.core c).ie = false ∧
        (t.core c).pc = (x.vbase.toNat / 16 * 16 + 16 * v) % x.space c ∧
        (∃ w, (t.core c).rs = w :: Word.ofNat d.next :: x.rs))) ∧
    (x.ie = false ∨ x.halted = true → exec (.interruptEntry c done) s = .next s)

/-- A core whose watchdog expires, PERIOD µs after the last write of CORE_WDOG, or whose clock stops, halts with FAILED and FAULT
is told at level 2, R309; one period expires once. The core that stands by for it takes over, halted or not: it runs at
vector 13 of the failed core's CORE_VBASE with empty stacks, MODE becomes 00b and CLn_PAIRSTAT records it, R310 and R316; where
the standby fails in that same cycle, there is no takeover (what it leaves is log entry 90). -/
def Obligations.CoresFailAndPartnersTakeOver : Prop :=
  ∀ (s : State) (c : Fin 16),
    let x := s.core c
    let failed (cause : Nat) (t : State) : Prop :=
      (t.core c).halted = true ∧ (t.core c).failed = true ∧
      ∃ r, Raised s t r ∧ r.level = 2 ∧ r.cause = cause ∧ r.unit = c / 2 * 65536 + 0x0100 + c % 2
    (x.wdog ≠ 0 → x.wdogAt + x.wdog * 1000 ≤ s.el → x.wdogOut = false → s.isOn (coreBlock c) = true →
      Answers s (.watchdogExpiry c) (fun t => failed 3 t ∧ (t.core c).wdogOut = true)) ∧
    (x.wdog = 0 ∨ x.wdogOut = true ∨ s.el < x.wdogAt + x.wdog * 1000 → exec (.watchdogExpiry c) s = .next s) ∧
    (x.failed = false → s.isOn (coreBlock c) = true → Answers s (.coreClock c) (failed 4)) ∧
    (x.failed = false → s.isOn (coreBlock c) = true → c.val % 2 = 0 → s.fld (CL_PAIR.addr (c / 2)) CL_PAIR.MODE = 1 →
      (s.core (c + 1)).failed = false → x.took = none → Answers s (.coreClock c) (fun t =>
        (t.core (c + 1)).run = true ∧ (t.core (c + 1)).halted = false ∧ (t.core (c + 1)).fresh = false ∧
        (t.core (c + 1)).pc = (x.vbase.toNat / 16 * 16 + 16 * 13) % (t.core (c + 1)).space c ∧
        (t.core (c + 1)).acting = some c.val ∧ (t.core (c + 1)).enc = x.enc ∧
        (t.core (c + 1)).ds = [] ∧ (t.core (c + 1)).rs = [] ∧ (t.core (c + 1)).ie = false ∧
        t.fld (CL_PAIR.addr (c / 2)) CL_PAIR.MODE = 0 ∧ t.fld (CL_PAIRSTAT.addr (c / 2)) CL_PAIRSTAT.TOOK = 1 ∧
        t.fld (CL_PAIRSTAT.addr (c / 2)) CL_PAIRSTAT.CAUSE = 3)) ∧
    (∀ k, x.failed = false → s.isOn (coreBlock c) = true → x.took = some k → k.cycle = s.coreCycle →
      k.mode = 1 → c.val % 2 = 1 → Answers s (.coreClock c) (fun t =>
        (t.core c).acting = none ∧ t.fld (CL_PAIR.addr (c / 2)) CL_PAIR.MODE = 1 ∧
        t.reg (CL_PAIRSTAT.addr (c / 2)) = k.stat ∧ t.core (c - 1) = s.core (c - 1)))

/-- BARRIER goes on only with no long instruction in flight and an empty store buffer; otherwise it waits. WAIT goes on when a
source enabled in CORE_IEN is pending, whatever IE holds; otherwise the core waits at it. Core-local writes: CORE_CTL sets DET
and IE once no long instruction is in flight and the store buffer is empty, CORE_RING.GO sets the partner's DOORBELL, CORE_WDOG
sets its period and restarts the watchdog, MBX_CTL clears OVR and INFULL and sets SEND, each once the writing core has no long
instruction in flight and no buffered store, R263, R296, R301, R306, R307, R309 and R313. -/
def Obligations.BarriersWaitsAndCoreLocalWrites : Prop :=
  ∀ (s : State) (c : Fin 18) (k : Fin 16) (d : Decoded) (v : Word),
    let x := s.core c
    (Issues s c d → d.op = .zero 0x4C → x.stores = [] → Runs s (.barrier c) c d (x.completed d.here d.next false)) ∧
    (Issues s c d → d.op = .zero 0x4C → x.stores ≠ [] → exec (.barrier c) s = .next s) ∧
    (x.halted = false → s.works (coreBlock c) = true → x.long ≠ none → s.fetch c x.pc = .got s d → d.op = .zero 0x4C →
      exec (.barrier c) s = .next s) ∧
    (Issues s c d → d.op = .zero 0x4D → s.ipend c &&& x.ien ≠ 0 → x.ien < 32 →
      Runs s (.wait c) c d (x.completed d.here d.next false)) ∧
    (Issues s c d → d.op = .zero 0x4D → s.ipend c &&& x.ien = 0 → Turns s (.wait c) c { x with waiting := true }) ∧
    (x.long = none → x.stores = [] → Turns s (.coreDetWrite c v) c { x with det := v.getLsbD 1, ie := v.getLsbD 0 }) ∧
    (x.long ≠ none ∨ x.stores ≠ [] → exec (.coreDetWrite c v) s = .next s ∧ exec (.coreWdogWrite c v) s = .next s) ∧
    ((s.core k).long ≠ none ∨ (s.core k).stores ≠ [] →
      exec (.coreRing k v) s = .next s ∧ exec (.mbxSend k v) s = .next s) ∧
    (v.getLsbD 0 = true → (s.core k).long = none → (s.core k).stores = [] →
      Turns s (.coreRing k v) (k / 2 * 2 + (1 - k % 2)) { s.core (k / 2 * 2 + (1 - k % 2)) with bell := true }) ∧
    (x.long = none → x.stores = [] →
      Turns s (.coreWdogWrite c v) c { x with wdog := v.toNat % 2 ^ 20, wdogAt := s.el, wdogOut := false }) ∧
    ((s.core k).long = none → (s.core k).stores = [] → Answers s (.mbxSend k v) (fun t =>
      let m := s.mailbox (s.ident k)
      t = { s with mbx := t.mbx } ∧ t.mailbox (s.ident k) =
        { m with ovr := m.ovr && !v.getLsbD 2, full := m.full && !v.getLsbD 1, send := m.send || v.getLsbD 0 }))

/-- CLn_CORECTLc: RUN 1 lets a halted core go on where it halted, or at vector 0 after RST, with the encoding that CLn_ISACFG
gives and an empty instruction cache; RUN 0 halts it with its buffer drained; RST resets stacks, loops and core-local
registers, drains a running core's committed stores and ends a takeover, R284, R304 and R314 to R316. The instruction cache
gives the bytes of a line it holds, except in deterministic mode, and takes in the line of an instruction that issues, R289
and R307. The stacks after a core reset are those of R258, which also gives the Keeper's and the Link
processor's. -/
def Obligations.RunHaltAndReset : Prop :=
  ∀ (s : State) (c : Fin 16) (done a : Nat) (b : List Byte) (d : Decoded) (e : StoreEntry),
    Reached s (CL_CORECTL.addr (c / 2) (c % 2)) →
    let x := s.core c
    let line (k : Nat) : List Byte := memReadBytes s.mem (progMemBase (s.ident c) + k / 16 * 16) 16
    let bases (y : Core) : Prop :=
      (c.val % 2 = 0 → y.dsbase = 0x10000 ∧ y.dslim = 0xF800 ∧ y.rsbase = 0xF800 ∧ y.rslim = 0xF000) ∧
      (c.val % 2 = 1 → y.dsbase = 0x20000 ∧ y.dslim = 0x1F800 ∧ y.rsbase = 0x1F800 ∧ y.rslim = 0x1F000)
    (∀ k : Fin 2, let y := State.reset.core (16 + k)
      y.ds = [] ∧ y.rs = [] ∧ y.dsp = 0 ∧ y.dsbase = 0 ∧ y.dslim = 0 ∧ y.rsp = 0 ∧ y.rsbase = 0 ∧ y.rslim = 0) ∧
    (a < 65536 → s.cached c a = some b → x.det = false → s.byteAt c a = b.getD (a % 16) 0) ∧
    (a < 65536 → s.cached c a = none ∨ x.det = true →
      s.byteAt c a = (memReadBytes s.mem (progMemBase (s.ident c) + a) 1).headD 0) ∧
    (Ready s c d (.zero 0x00) [] 0 → d.here < 65536 → x.enc = true → x.det = false → s.cached c d.here = none →
      Answers s (.nop (c.castLE (by decide))) (fun t => t.cached c d.here = some (line d.here))) ∧
    (x.halted = true → x.acting = none → s.pwr.held.contains (c / 2) = false →
      Answers s (.corectlRun .keeper c true done) (fun t => OnlyCore (s.emptyCache c) t c ∧ (t.core c).run = true ∧
        (t.core c).halted = false ∧ (t.core c).enc = s.encOf c ∧
        (x.fresh = false → (t.core c).pc = x.pc) ∧
        (x.fresh = true → (t.core c).pc = (x.vbase.toNat / 16 * 16) % (t.core c).space c))) ∧
    (x.halted = false → x.long = none → Answers s (.corectlRun .keeper c false done) (fun t => OnlyCoreMem s t c ∧
      (t.core c).run = false ∧ (t.core c).halted = true ∧ (t.core c).pc = x.pc ∧
      (t.core c).stores = x.stores.filter (·.shadow) ∧ (t.core c).ds = x.ds ∧ (t.core c).rs = x.rs)) ∧
    Answers s (.corectlRst .keeper c) (fun t =>
      let u := (s.emptyCache c).setCycles c 0
      (x.acting = none → x.halted = true → OnlyCore u t c) ∧ (x.acting = none → OnlyCoreMem u t c) ∧
      (x.acting ≠ none → t = { u with cores := t.cores, mem := t.mem, regs := t.regs } ∧
        t.fld (CL_PAIRSTAT.addr (c / 2)) CL_PAIRSTAT.ACTING = 0) ∧
      (x.halted = false → x.stores = [e] → e.shadow = false → ∀ i, i < e.bytes.length →
        memRead t.mem (dataMemBase (c / 2) + e.addr + i) = e.bytes.getD i 0) ∧
      (t.core c).halted = true ∧ (t.core c).failed = false ∧ (t.core c).acting = none ∧
      (t.core c).fresh = true ∧ (t.core c).ds = [] ∧ (t.core c).rs = [] ∧ (t.core c).loops = [] ∧
      (t.core c).dsp = (t.core c).dsbase ∧ (t.core c).rsp = (t.core c).rsbase ∧ bases (t.core c) ∧ (t.core c).ie = false ∧
      (t.core c).vbase = 0 ∧ (t.core c).wdog = 0 ∧ (t.core c).thr = 1 ∧ (t.core c).desc = x.desc)

/-- CLn_ISACFG changes the encoding bit of a halted core and refuses it for one that runs; CLn_UCDATA1 stores the staged word and
its own in the entry of a halted core, and is refused for one that runs; a read of CLn_UCDATA0 snapshots the entry for
CLn_UCDATA1; CLn_PAIR refuses a pair whose encodings differ, R284 to R286 and R316. -/
def Obligations.DecodeTablesAndPairs : Prop :=
  ∀ (s : State) (n : Fin 8) (v : Word), Reached s (CL_ISACFG.addr n) →
    let core (k : Nat) : Core := s.core (2 * n + k)
    let uc : Nat := 2 * n + s.fld (CL_UCADDR.addr n) CL_UCADDR.CORE
    let idx : Nat := s.fld (CL_UCADDR.addr n) CL_UCADDR.INDEX
    ((core 0).halted = true → (core 1).halted = true → Answers s (.isacfgWrite .keeper n v) (fun t =>
      t = { s with regs := t.regs } ∧
      t.fld (CL_ISACFG.addr n) CL_ISACFG.ENC0 = v.toNat % 2 ∧ t.fld (CL_ISACFG.addr n) CL_ISACFG.ENC1 = v.toNat / 2 % 2)) ∧
    ((core 0).halted = false → v.toNat % 2 ≠ s.fld (CL_ISACFG.addr n) CL_ISACFG.ENC0 →
      Answers s (.isacfgWrite .keeper n v) (fun t => t = { s with regs := t.regs } ∧
        t.fld (CL_ISACFG.addr n) CL_ISACFG.ENC0 = s.fld (CL_ISACFG.addr n) CL_ISACFG.ENC0 ∧
        t.fld (CL_ISACFG.addr n) CL_ISACFG.REFUSED = 1)) ∧
    Answers s (.ucdata0Write .keeper n v) (fun t => t = { s with regs := t.regs } ∧ t.reg (CL_UCDATA0.addr n) = v) ∧
    ((s.core uc).halted = true → s.fld (CL_UCADDR.addr n) CL_UCADDR.TABLE = 0 →
      Answers s (.ucdata1Write .keeper n v) (fun t => t = { s with regs := t.regs, cores := t.cores } ∧
        Tab.get 0 (t.core uc).micro idx = v ++ s.reg (CL_UCDATA0.addr n))) ∧
    ((s.core uc).halted = false → Answers s (.ucdata1Write .keeper n v) (fun t =>
      t.core uc = s.core uc ∧ t.fld (CL_UCADDR.addr n) CL_UCADDR.REFUSED = 1)) ∧
    (s.fld (CL_UCADDR.addr n) CL_UCADDR.TABLE = 0 → Answers s (.ucdata0Read .keeper n) (fun t =>
      Tab.get 0 t.rdata 0 = (Tab.get 0 (s.core uc).micro idx).extractLsb' 0 32 ∧
      Answers t (.ucdata1Read .keeper n) (fun u =>
        Tab.get 0 u.rdata 0 = (Tab.get 0 (s.core uc).micro idx).extractLsb' 32 32))) ∧
    (v.toNat % 4 = 1 → s.encOf (2 * n) ≠ s.encOf (2 * n + 1) → Answers s (.pairWrite .keeper n v) (fun t =>
      t.fld (CL_PAIR.addr n) CL_PAIR.MODE = s.fld (CL_PAIR.addr n) CL_PAIR.MODE ∧
      t.fld (CL_PAIR.addr n) CL_PAIR.REFUSED = 1)) ∧
    (s.encOf (2 * n) = s.encOf (2 * n + 1) → Answers s (.pairWrite .keeper n v) (fun t =>
      t = { s with regs := t.regs } ∧ t.fld (CL_PAIR.addr n) CL_PAIR.MODE = v.toNat % 4))

/-! ## The package map, the fabric and resets -/

/-- REGISTER_WRITE, MDATA_READ and MDATA_WRITE of the Keeper: an aligned word of package SRAM is stored and read, and every
other byte stays; a register takes a word by its field types and discards a narrower write; an unmapped read returns ones
and raises BUS_ERROR; CLn_MDATA reaches the word of the memory that CLn_MADDR selects and advances ADDR by INC; a write to
the program memory of a core that runs is discarded and sets REFUSED, R6, R10, R32, R34 and R35. -/
def Obligations.AccessesReachThePackageMap : Prop :=
  ∀ (s : State) (a : BitVec 32) (v : Word) (n : Fin 8) (k : Fin 2),
    (a.toNat % 4 = 0 → a.toNat < 0x00800000 → Reached s a.toNat →
      Answers s (.registerWrite .keeper a .word (some v)) (fun t => t = { s with mem := t.mem } ∧
        memReadBytes t.mem a.toNat 4 = leBytes 4 v.toNat ∧ SameMemOutside s t a.toNat (a.toNat + 4)) ∧
      Answers s (.registerWrite .keeper a .word none) (fun t => t = { s with rdata := t.rdata } ∧
        Tab.get 0 t.rdata 0 = memReadWord s.mem a.toNat)) ∧
    (Reached s TB_LOOP.addr →
      Answers s (.registerWrite .keeper 0x40001028 .word (some v)) (fun t => t = { s with regs := t.regs } ∧
        t.reg TB_LOOP.addr = writeWord TB_LOOP.fields (s.reg TB_LOOP.addr) v) ∧
      exec (.registerWrite .keeper 0x40001028 .half (some v)) s = .next s) ∧
    (placeOf a.toNat = .unmapped → (s.core 16).rs.length ≤ 14 →
      Answers s (.registerWrite .keeper a .word none) (fun t => t = { s with rdata := t.rdata, cores := t.cores } ∧
        Tab.get 0 t.rdata 0 = 0xFFFFFFFF ∧
        t.core 16 = (s.core 16).framed 16 3 (s.core 16).pc 3 (Word.ofNat (s.core 16).pc) a false)) ∧
    (Reached s (CL_MDATA.addr n) →
      let adr := s.fld (CL_MADDR.addr n) CL_MADDR.ADDR
      let inc := s.fld (CL_MADDR.addr n) CL_MADDR.INC
      (s.fld (CL_MADDR.addr n) CL_MADDR.SPACE = 0 →
        Answers s (.mdataWrite .keeper n v) (fun t => t = { s with mem := t.mem, regs := t.regs } ∧
          memReadBytes t.mem (dataMemBase n + 4 * adr) 4 = leBytes 4 v.toNat ∧
          SameMemOutside s t (dataMemBase n + 4 * adr) (dataMemBase n + 4 * adr + 4) ∧
          t.fld (CL_MADDR.addr n) CL_MADDR.ADDR = (adr + inc) % 2 ^ 15) ∧
        Answers s (.mdataRead .keeper n) (fun t => t = { s with rdata := t.rdata, regs := t.regs } ∧
          Tab.get 0 t.rdata 0 = memReadWord s.mem (dataMemBase n + 4 * adr) ∧
          t.fld (CL_MADDR.addr n) CL_MADDR.ADDR = (adr + inc) % 2 ^ 15)) ∧
      (s.fld (CL_MADDR.addr n) CL_MADDR.SPACE = 1 + k → s.isOn (coreBlock (2 * n + k)) = true →
        ((s.core (2 * n + k)).halted = true →
          let p := progMemBase (2 * n + k) + 4 * adr % 0x10000
          Answers s (.mdataWrite .keeper n v) (fun t => t = { s with mem := t.mem, regs := t.regs } ∧
            memReadBytes t.mem p 4 = leBytes 4 v.toNat ∧ SameMemOutside s t p (p + 4))) ∧
        ((s.core (2 * n + k)).halted = false →
          Answers s (.mdataWrite .keeper n v) (fun t => t = { s with regs := t.regs } ∧
            t.fld (CL_MADDR.addr n) CL_MADDR.REFUSED = 1))))

/-- MERGE_POINT_GRANT and CROSSING_TIMEOUT: a merge point grants an event packet before any data, and on one channel the
next source after the one granted last, with wrap-around; a record moves flit by flit; what a cluster's edge grants goes on
to the hub, a lane record to the staging of its ring, a signal from the hub through its cluster's edge to the slice; for an
edge that is not awake the packet waits and the wake is asked for; a crossing that an awake island leaves without an
acknowledgement for 2 µs is discarded and reported with the receiving island and the sender, R20 to R22, R24 to R26. -/
def Obligations.MergePointsTakeTurns : Prop :=
  ∀ (s : State) (m : MergePoint) (w : Waiting) (rest : List Waiting), (s.merge (mergeKey m)).next = some (w, rest) →
    let was := s.merge (mergeKey m)
    let last := if w.ch = .event then was.lastEvent else was.lastData
    let island := s.receiver m w.pkt
    let left : Merge := { was with
      lastEvent := if w.ch = .event then w.src else was.lastEvent, lastData := if w.ch = .event then was.lastData else w.src
      lastAt := s.el, wait := rest }
    let offered (src dst : Nat) : Waiting :=
      { ch := w.ch, src, dst, pkt := w.pkt, flits := w.pkt.flits, since := s.el, cycle := s.sliceCycle s.el, order := 0 }
    (w ∈ was.wait ∧ (w.ch = .data → ∀ u ∈ was.wait, u.ch = .data) ∧
      (∀ u ∈ was.wait, u.ch = w.ch → (last < u.src → last < w.src ∧ w.src ≤ u.src) ∧ (w.src ≤ last → w.src ≤ u.src)) ∧
      rest.length + 1 = was.wait.length) ∧
    (s.islandUp island.1 island.2 = true → s.awake island.1 island.2 = true → 2 ≤ w.flits →
      Answers s (.mergePointGrant m) (fun t => t = { s with merges := t.merges } ∧
        t.merge (mergeKey m) = { left with wait := { w with flits := w.flits - 1 } :: rest })) ∧
    (∀ n : Fin 8, m = .edge n → s.islandUp island.1 island.2 = true → s.awake island.1 island.2 = true → w.flits ≤ 1 →
      Answers s (.mergePointGrant m) (fun t => t = { s with merges := t.merges } ∧ t.merge n = left ∧
        (t.merge (8 + w.dst)).wait = insertWaiting (offered n w.dst) (s.merge (8 + w.dst)).wait)) ∧
    (∀ n : Fin 8, m = .edge n → s.islandUp island.1 island.2 = true → s.awake island.1 island.2 = false →
      exec (.mergePointGrant m) s = .next (s.requestWake (0x0100 + n))) ∧
    (∀ (d : Fin 43) (r : Nat) (l : LaneRec), m = .hub d → 8 ≤ d.val → w.pkt = .laneRecord r l → w.flits ≤ 1 →
      s.rcfg r LOG_RCFG.EN ≠ 0 → s.islandUp island.1 island.2 = true →
      Answers s (.mergePointGrant m) (fun t => t = { s with merges := t.merges, rings := t.rings } ∧
        t.merge (mergeKey m) = left ∧ (t.ring r).staged = (s.ring r).staged ++ [.lane l])) ∧
    (∀ (n : Fin 8) (a b : Fin 256) (g : Stamp), b.val / 32 = n → w.pkt = .signal a b g → w.flits ≤ 1 →
      s.islandUp island.1 island.2 = true → s.awake island.1 island.2 = true →
      (m = .hub (n.castLE (by omega)) → Answers s (.mergePointGrant m) (fun t => t = { s with merges := t.merges } ∧
        (t.merge (51 + n)).wait = insertWaiting { offered 8 0 with ch := .event } (s.merge (51 + n)).wait)) ∧
      (m = .slice n → s.armed b = true → s.kindA b = 3 → s.cfld (RS_ESRCA.addr b) RS_ESRCA.ID = a.val →
        Answers s (.mergePointGrant m) (fun t =>
          (t.engine b).inq = (s.engine b).inq ++ [(s.sliceCycle s.el, .signal a g)]))) ∧
    (w.pkt.ring = none → s.awake island.1 island.2 = true → w.since + 2000 ≤ s.el → was.lastAt + 2000 ≤ s.el →
      Answers s (.crossingTimeout m) (fun t =>
        t = { s with merges := t.merges, faultWait := t.faultWait } ∧ t.merge (mergeKey m) = left ∧
        t.faultWait = s.faultWait ++ [(s.el, { level := island.1, cause := 0x0001, unit := island.2,
                                               gts := s.stamp pathCoarse, detail := senderUnit m w.src })]))

/-- CORE_DIE_RESET, PORST and DEBUG_PORT_HALT: a reset starts the core die in SAMPLE (PORST with VMAIN not validated leaves
it in KEEP), ends every session, samples the straps, and keeps MRAM; what the core die held is lost; the debug port halts
and resumes a processor in SERVICE and is ignored elsewhere, R38, R318, R336 and R545. That PORST without VMAIN stays in
KEEP is the model's reading. -/
def Obligations.ResetsAndTheDebugPort : Prop :=
  ∀ (s : State) (sel : BitVec 4) (c : Fin 18) (run : Bool) (done : Nat) (n : Fin 4),
    (s.mode ≠ 1 → Answers s .coreDieReset (fun t => t.mode = 4 ∧ t.pwr.entry = none ∧ t.tiles = [] ∧ t.engines = [] ∧
      t.cores = [] ∧ t.cset = [] ∧ (∀ p : Fin 4, (t.port p).session = none) ∧ t.pending = s.pending ∧
      (∀ a, 0x10000000 ≤ a → a < 0x11000000 → memRead t.mem a = memRead s.mem a))) ∧
    (s.mode = 1 → Answers s .coreDieReset (fun t => t.mode = 4 ∧ t.ports = s.ports)) ∧
    Answers s (.porst sel) (fun t => t.mode = (if s.fld PWR_SUPPLY.addr PWR_SUPPLY.MAINOK = 1 then 4 else 1) ∧
      (t.port n).twoWire = sel.getLsbD n ∧ (t.port n).session = none ∧ t.tiles = [] ∧ t.cores = [] ∧
      (∀ a, 0x10000000 ≤ a → a < 0x11000000 → memRead t.mem a = memRead s.mem a)) ∧
    (s.mode ≠ 7 → exec (.debugPortHalt c run done) s = .next s) ∧
    (s.mode = 7 → (s.core c).long = none → Answers s (.debugPortHalt c false done) (fun t => OnlyCoreMem s t c ∧
      (t.core c).run = false ∧ (t.core c).halted = true ∧ (t.core c).pc = (s.core c).pc)) ∧
    (s.mode = 7 → 16 ≤ c.val →
      Turns s (.debugPortHalt c true done) c { s.core c with run := true, halted := false }) ∧
    (s.mode = 7 → c.val < 16 → (s.core c).halted = true → (s.core c).fresh = false →
      (s.core c).acting = none → s.pwr.held.contains (c / 2) = false →
      Answers s (.debugPortHalt c true done) (fun t => OnlyCore (s.emptyCache c) t c ∧
        t.core c = { s.core c with run := true, halted := false, enc := s.encOf c }))

/-! ## Time -/

/-- REF_SETTLE_DONE, PLL_LOCK, HANDOVER_TO_KEEP, HANDOVER_FROM_KEEP, RING_CALIBRATION, CRYSTAL_TEMP_READ and FLOAT_LEARN:
the PLL starts after SETTLE × 16 µs and locks; a handover waits for a crystal tick, carries the time over as of that tick and
adds 1 ns to the uncertainty; a calibration and a reading are recorded, and in HOLDOVER the rate follows the model at the
reading; a learned entry is counted in the bins of the mean temperature; a nanosecond with no
correction adds 2^-64 s × 0x4_4B82_FA0A to the accumulator, R44, R45, R54, R57, R55, R58 and R63. The tick of an empty queue is
the model's (log entry 2). -/
def Obligations.TimekeepingHandsOver : Prop :=
  ∀ s : State,
    (∀ since, s.time.pll = .settling since → since + s.cfld TB_REFCFG.addr TB_REFCFG.SETTLE * 16000 ≤ s.el →
      exec .refSettleDone s = .next { s with time := { s.time with pll := .starting } }) ∧
    (s.time.pll = .starting → exec .pllLock s = .next { s with time := { s.time with pll := .locked } }) ∧
    (s.atTick = false → exec .handoverToKeep s = .next s ∧ exec .handoverFromKeep s = .next s) ∧
    (∀ e, s.pwr.entry = some e → e.phase = .handover → s.time.keepCarries = false → s.atTick = true → e.to_ < 8 →
      Answers s .handoverToKeep (fun t => t.time.keep = s.time.acc - s.sinceTick ∧ t.time.keepCarries = true ∧ t.time.pll = .off ∧
        t.time.u0sq = s.time.u0sq + 1000000 ∧ t.time.refEn = decide (s.fld TB_CTL.addr TB_CTL.REFGATE = 0) ∧
        t.mode = e.to_ ∧ t.pwr.entry = some { e with phase := .powerDown })) ∧
    (s.time.keepCarries = true → s.time.pll = .locked → s.lowMode = false → s.atTick = true → s.time.span = [] →
      Answers s .handoverFromKeep (fun t => t = { s with time := t.time, mem := t.mem } ∧
        t.time.acc = s.time.keep + s.sinceTick ∧ t.time.keep = s.time.keep ∧ t.time.u0sq = s.time.u0sq + 1000000 ∧
        t.time.keepCarries = false ∧ SameMemOutside s t 0x20003000 0x20004000)) ∧
    (∀ (r : Fin 4) (p : Nat) (x : Int), s.crystalTemp = some x → s.time.pll = .locked → (s.gring r).cal = none →
      Answers s (.ringCalibration r p) (fun t => t = { s with time := t.time } ∧ (t.gring r).cal = some (p, x) ∧
        (t.gring r).edge = (s.gring r).edge)) ∧
    (∀ x : BitVec 16, Answers s (.crystalTempRead x) (fun t => t = { s with regs := t.regs, time := t.time } ∧
      t.crystalTemp = some x.toInt ∧ (s.time.keepCarries = true → t.time.keepCorr = t.modelRate true) ∧
      (s.time.state = .holdover → t.time.rateCorr = t.holdRate) ∧
      (s.time.keepCarries = false → s.time.state ≠ .holdover → t.time = s.time))) ∧
    (∀ (ref xk temp : Int) (span : Nat) (k : Fin 166), s.time.state = .locked → s.uclkSq < 10 ^ 10 → span ≤ 8 →
      (temp + 8) / 16 + 40 = (k.val : Int) →
      Answers s (.floatLearn ref xk temp span) (fun t => t = { s with mem := t.mem, time := t.time } ∧
        t.time = { s.time with learnMin := s.time.learnMin + 1 } ∧
        t.binCount k = min 1440 (s.binCount k + 1) ∧ t.binCount (166 + k) = min 1440 (s.binCount (166 + k) + 1) ∧
        SameMemOutside s t 0x20003000 0x20004000)) ∧
    (s.pending = [] → s.time.keepCarries = false → s.time.slewLeft = 0 → s.time.rateCorr = 0 → s.time.subs = [] →
      ∃ t, step s = .next t ∧ t.time.acc = s.time.acc + 0x44B82FA0A)

/-- FI_EDGE_CAPTURE, COARSE_EDGE_CAPTURE, RING_START, RING_STOP, SLOW_EDGE_STAMP and PPS_EDGE: the lowest-numbered enabled
engine that names the pin captures an edge in its bin, an edge without an engine is captured at 1 ns; a gated ring measures
the edge back from the crystal tick; without a ring and on EIO16 to EIO47 the midpoint of the tick period is the stamp; a PPS
edge is accepted at 1 s ± 100 µs, and else counted as rejected, R49 to R51, R55 to R57, R60 and R69. -/
def Obligations.EdgesAreStamped : Prop :=
  ∀ (s : State) (rise : Bool) (bin : Fin 8), s.vioOk 3 = true →
    let fine := s.captureAt (bin * 125)
    let coarse := s.stampAt (s.captureAt 0) pathCoarse
    (∀ (pin : Fin 48) (n : Fin 16), s.lowMode = false → s.time.keepCarries = false →
      (s.fld (TB_FICTL.addr n) TB_FICTL.EN = 1 ∧ s.fld (TB_FICTL.addr n) TB_FICTL.PIN = pin.val) →
      (∀ k : Fin 16, k < n →
        ¬(s.fld (TB_FICTL.addr k) TB_FICTL.EN = 1 ∧ s.fld (TB_FICTL.addr k) TB_FICTL.PIN = pin.val)) →
      edgeSelected (s.fld (TB_FICTL.addr n) TB_FICTL.EDGE) rise = true →
      (∀ x, Tab.find s.time.fiLast n = some x → x + 64 ≤ s.binAt bin) →
      Answers s (.fiEdgeCapture pin rise bin) (fun t =>
        Tab.get [] t.snaps (captureKey pin) = gtsWords (s.stampAt fine pathFine) ∧
        t.time.eioLevel.getLsbD pin = rise ∧ Tab.find t.time.fiLast n = some (s.binAt bin))) ∧
    (∀ pin : Fin 48, s.lowMode = false → s.time.keepCarries = false →
      (∀ k : Fin 16,
        ¬(s.fld (TB_FICTL.addr k) TB_FICTL.EN = 1 ∧ s.fld (TB_FICTL.addr k) TB_FICTL.PIN = pin.val)) →
      Answers s (.coarseEdgeCapture pin rise) (fun t =>
        Tab.get [] t.snaps (captureKey pin) = gtsWords coarse ∧ t.time.eioLevel.getLsbD pin = rise ∧
        (∀ e : Fin 256, s.armedEngines = [e.val] → s.kindA e = 2 → s.sliceTakes (e / 32) = true →
          s.cfld (RS_ESRCA.addr e) RS_ESRCA.ID = 64 * 2 + pin.val →
          ∃ g, g.gts = coarse ∧ (t.engine e).inq = (s.engine e).inq ++ [(s.sliceCycle s.el, .edge pin rise g)]))) ∧
    (∀ (pin : Fin 17) (r : Fin 4), s.ringServed pin rise = true → (s.gring r).edge = none → (s.gring r).cal ≠ none →
      (∀ k : Fin 4, k < r → (s.gring k).edge ≠ none ∨ (s.gring k).cal = none) →
      Answers s (.ringStart pin rise) (fun t => t = { s with time := { s.time with rings := t.time.rings } } ∧
        t.gring r = { s.gring r with edge := some (pin.val, rise, s.el) })) ∧
    (∀ pin : Fin 17, pin.val < 16 → s.ringServed pin rise = true →
      (∀ k : Fin 4, (s.gring k).edge ≠ none ∨ (s.gring k).cal = none) →
      (∀ (k : Fin 4) p up, (s.gring k).edge ≠ some (p, up, s.el)) →
      Answers s (.ringStart pin rise) (fun t =>
        Tab.get [] t.snaps (captureKey pin) = gtsWords (s.stampAt s.midTick pathNoRing))) ∧
    (∀ (r : Fin 4) (count pin period at_ : Nat) (temp : Int), pin < 16 → (s.gring r).edge = some (pin, rise, at_) →
      (s.gring r).cal = some (period, temp) → s.atTick = true →
      let back := BitVec.ofNat 104 (ceilDiv (count * period * 2 ^ 64) (10 ^ 15))
      Answers s (.ringStop r count) (fun t => (t.gring r).edge = none ∧
        ∃ u, Tab.get [] t.snaps (captureKey pin) = gtsWords ⟨nearest80 (s.time.keep - back), u⟩)) ∧
    (s.atTick = false → ∀ (r : Fin 4) (count : Nat), exec (.ringStop r count) s = .next s) ∧
    (∀ pin : Fin 48, 16 ≤ pin.val → s.time.keepCarries = true → s.mode ≠ 1 →
      (s.lowMode = true → Answers s (.slowEdgeStamp pin rise) (fun t =>
        Tab.get [] t.snaps (captureKey pin) = gtsWords (s.stampAt s.midTick pathNoRing))) ∧
      (s.lowMode = false → exec (.slowEdgeStamp pin rise) s = .next { s with time :=
        { s.time with span := s.time.span ++ [{ pin := pin.val, rise }] } })) ∧
    (s.cfld TB_PPSCFG.addr TB_PPSCFG.EN = 1 → s.cfld TB_PPSCFG.addr TB_PPSCFG.EDGE = (if rise then 0 else 1) →
      s.lowMode = false → s.time.keepCarries = false → s.time.commitPending = false → ∀ l p, s.time.ppsLast = some l →
      s.time.ppsSeen = some p → s.elOf fine < p + 2500000000 →
      let gap := fracToNs (fine - l).toNat
      (999900000 ≤ gap ∧ gap ≤ 1000100000 → Answers s (.ppsEdge rise bin) (fun t => t.time.ppsLast = some fine ∧
        t.fld TB_PPSCNT.addr TB_PPSCNT.ACC = min 65535 (s.fld TB_PPSCNT.addr TB_PPSCNT.ACC + 1) ∧
        Tab.get [] t.snaps ppsCapKey = gtsWords (s.stampAt fine pathFine))) ∧
      (gap < 999900000 → Answers s (.ppsEdge rise bin) (fun t =>
        t = { s with regs := t.regs, time := { s.time with ppsLevel := rise } } ∧
        t.fld TB_PPSCNT.addr TB_PPSCNT.REJ = min 65535 (s.fld TB_PPSCNT.addr TB_PPSCNT.REJ + 1))))

/-- SOURCE_TIMEOUT, CLAIM_SUBMIT, MEASUREMENT_SUBMIT, CLAIM_EXPIRY, TB_COMMIT, TB_CTL_WRITE, TB_NOW_SNAPSHOT and FICTL_WRITE:
the last source that times out leaves LOCKED for HOLDOVER; GO in a bank submits what it holds, by the processor that owns it,
and a submission that waits there is replaced; Float takes the submissions of a tick from the Keeper's bank first: a claim in
UNSET steps the time and is accepted, a first GANG measurement is applied; an expired claim is answered BUSY; a commit
takes the whole set; a read of TB_NOW0 is one snapshot of three words; an engine not held is not enabled, R48, R66, R67, R70,
R71, R73, R76, R78, R79, R83, R85. -/
def Obligations.SourcesAndClaims : Prop :=
  ∀ (s : State) (v : Word), Reached s TB_CTL.addr →
    (∀ c t0, s.time.accepted = [(sourceCode c, t0)] → t0 + sourceTimeout c ≤ s.el →
      Answers s (.sourceTimeout c) (fun t => t = { s with time := t.time } ∧ t.time.accepted = [] ∧
        t.time.selected = none ∧ (s.time.state = .locked → t.time.state = .holdover) ∧ t.time.acc = s.time.acc)) ∧
    (∀ k : Fin 2, fget v TB_XK3.GO = 1 →
      let base := bankBase k
      let x : Submission :=
        { d := signed 80 ((s.reg base).toNat + (s.reg (base + 4)).toNat * 2 ^ 32 + (s.reg (base + 8)).toNat % 65536 * 2 ^ 64)
          usq := uncSq (BitVec.ofNat 16 (fget v TB_XK3.UNC)), src := fget v TB_XK3.SRC, force := fget v TB_XK3.FORCE = 1 }
      Answers s (if k = 0 then .claimSubmit .keeper v else .measurementSubmit .link v) (fun t =>
        t = { s with regs := t.regs, time := { s.time with subs := t.time.subs } } ∧ Tab.find t.time.subs k = some x ∧
        t.fld (base + 12) TB_XK3.RESULT = (if (Tab.find s.time.subs k).isSome then 2 else 0))) ∧
    (∀ x, s.pending = [] → s.time.subs = [(0, x)] → x.src = 4 → s.fld TB_CTL.addr TB_CTL.FLOATEN = 1 →
      (s.reg TB_CTL.addr).getLsbD 3 = true → s.time.state = .unset →
      ∃ t, step s = .next t ∧ t.time.state = .holdover ∧ t.fld TB_XK3.addr TB_XK3.RESULT = 1 ∧
        t.epoch = (s.epoch + 1) % 256 ∧ t.time.u0sq = x.usq ∧
        ∃ r, Raised s t r ∧ r.level = 4 ∧ r.cause = 0x0010 ∧ r.unit = 0x1800) ∧
    exec (.claimSubmit .link v) s = .next s ∧ exec (.measurementSubmit .keeper v) s = .next s ∧
    (∀ x, s.pending = [] → s.time.subs = [(1, x)] → x.src = 2 → x.d = 0 → s.fld TB_CTL.addr TB_CTL.FLOATEN = 1 →
      (s.reg TB_CTL.addr).getLsbD 1 = true → s.time.state = .unset → s.time.accepted = [] →
      ∃ t, step s = .next t ∧ t.time.state = .acquire ∧ t.time.selected = some .gang ∧
        t.time.established = true ∧ t.fld TB_XL3.addr TB_XK3.RESULT = 1) ∧
    (∀ (port : Fin 4) (c : Claim), Tab.find s.time.claims port = some c → c.since + 2000000000 ≤ s.el →
      s.fld TB_CTL.addr TB_CTL.FLOATEN = 1 → (s.reg TB_CTL.addr).getLsbD 3 = true →
      exec (.claimExpiry port) s =
        .next ({ s with time := { s.time with claims := Tab.del s.time.claims port } }.claimReply port c 2 0x01)) ∧
    (fget v TB_COMMIT.GO = 1 → Answers s (.tbCommit .keeper v) (fun t =>
      t = { s with pset := t.pset, time := { s.time with commitPending := true } } ∧
      ∀ a, 0x40001020 ≤ a → a < 0x40001044 → t.pword a = s.reg a)) ∧
    (∀ c, v.getLsbD (sourceBit c) = false → Answers s (.tbCtlWrite .keeper v) (fun t =>
      t.reg TB_CTL.addr = writeWord TB_CTL.fields (s.reg TB_CTL.addr) v ∧
      Tab.find t.time.accepted (sourceCode c) = none ∧ t.time.acc = s.time.acc)) ∧
    Answers s (.tbNowSnapshot .keeper false) (fun t => t = { s with snaps := t.snaps, rdata := t.rdata } ∧
      Tab.get 0 t.rdata 0 = (gtsWords (s.stamp 0)).getD 0 0 ∧
      ∀ k : Fin 2, Answers t (.registerWrite .keeper (0x40001014 + 4 * BitVec.ofNat 32 k) .word none) (fun u =>
        Tab.get 0 u.rdata 0 = (gtsWords (s.stamp 0)).getD (k + 1) 0)) ∧
    (∀ n : Fin 16, s.sideHolds .keeper 6 n = false → fget v TB_FICTL.EN = 1 →
      Answers s (.fictlWrite .keeper n v) (fun t => t = { s with regs := t.regs } ∧
        t.fld (TB_FICTL.addr n) TB_FICTL.EN = s.fld (TB_FICTL.addr n) TB_FICTL.EN ∧
        t.fld (TB_FICTL.addr n) TB_FICTL.NOCLAIM = 1)) ∧
    (∀ n : Fin 16, s.sideHolds .keeper 6 n = true → Answers s (.fictlWrite .keeper n v) (fun t =>
      t = { s with regs := t.regs } ∧
        t.reg (TB_FICTL.addr n) = writeWord TB_FICTL.fields (s.reg (TB_FICTL.addr n)) v))

/-! ## Sampling tiles -/

/-- TILE_COMMIT, TILE_SET_SWITCH, ACQUISITION_SEND and TILE_LVAL_SNAPSHOT: a set that passes its checks waits for the first
boundary of its frame grid 2 µs later and takes effect there whole; a set bound to a port that the tile does not hold is
refused with CERR 1 and changes no set; a running tile sends an entry that is due to its port, or counts it as missed; a
read of TILE_LVAL is one snapshot of four words, R88, R98, R124 to R126, R134 and R569. -/
def Obligations.TilesCommitAndAcquire : Prop :=
  ∀ (s : State) (n : Fin 32) (v : Word), Reached s (tileBase n) →
    (∀ u, u = s.setSwitch n → fget v TILE_COMMIT.GO = 1 → u.tileCheck n = 0 →
      let p := periodOf (u.reg (TILE_PERIOD.addr n))
      Answers s (.tileCommit .keeper n v) (fun t =>
        t = { u with pset := t.pset, regs := t.regs, tiles := t.tiles } ∧
        t.tile n = { u.tile n with pending := some (nsInstant (ceilDiv (nsUp u.now + 2000) p * p)), goEl := u.el } ∧
        (∀ a, tileBase n ≤ a → a < tileBase n + 0x1000 → t.pword a = u.reg a) ∧
        t.fld (TILE_STATUS.addr n) TILE_STATUS.CERR = 0)) ∧
    (∀ u, u = s.setSwitch n → fget v TILE_COMMIT.GO = 1 → u.fld (TILE_CFG.addr n) TILE_CFG.PORT < 32 →
      u.ownerOf 3 (u.fld (TILE_CFG.addr n) TILE_CFG.PORT) ≠ 0x1200 + n →
      Answers s (.tileCommit .keeper n v) (fun t => t = { u with regs := t.regs } ∧
        t.fld (TILE_STATUS.addr n) TILE_STATUS.REFUSED = 1 ∧ t.fld (TILE_STATUS.addr n) TILE_STATUS.CERR = 1)) ∧
    (∀ b, (s.tile n).pending = some b → b ≤ s.now → (∀ h ∈ (s.tile n).held, s.elOf b ≤ h.arrived) →
      Answers s (.tileSetSwitch n) (fun t =>
      t = { s with cset := t.cset, lanes := t.lanes, tiles := t.tiles } ∧
      (∀ a, tileBase n ≤ a → a < tileBase n + 0x1000 → t.cword a = s.pword a) ∧ (t.tile n).pending = none ∧
      (t.tile n).running = decide (s.pfld (TILE_CFG.addr n) TILE_CFG.RUN = 1) ∧
      (t.tile n).held = (s.tile n).held ∧ (t.tile n).buffer = (s.tile n).buffer)) ∧
    (∀ (e : Fin 64) (ns : Nat) (new : Bool), s.dueAt n e = some (ns, new) → s.lowMode = false →
      let word := s.setWord new
      let b := word (TILE_SCHB.addr n e)
      let port := portOf (word (TILE_CFG.addr n))
      (s.tileActive n = true → port ≠ 63 → Answers s (.acquisitionSend n e true) (fun t =>
        t = { s with portQ := t.portQ, tiles := t.tiles, sense := t.sense } ∧
        t.sense = (if 29 ≤ port then { s.sense with
          wanted := true
          toDie := if s.linkUp then s.sense.toDie ++ [{ data := .cmd port (fget b TILE_SCHB.CMD) }] else s.sense.toDie }
          else s.sense) ∧
        Tab.find (t.tile n).sent e = some (s.epoch, ns) ∧
        t.portWait port = insertSent n { entry := e, cmd := fget b TILE_SCHB.CMD, lanes := b.extractLsb' 0 16
                                         at_ := nsInstant ns, due := ns, opens := s.elOf (nsInstant ns) } (s.portWait port) ∧
        t.dueAt n e ≠ some (ns, new))) ∧
      Answers s (.acquisitionSend n e false) (fun t => t = { s with regs := t.regs, lanes := t.lanes, tiles := t.tiles } ∧
        t.fld (TILE_STAT.addr n) TILE_STAT.MISS = min 65535 (s.fld (TILE_STAT.addr n) TILE_STAT.MISS + 1) ∧
        ∀ l : Fin 16, t.lane n l = { s.lane n l with
          miss := (s.lane n l).miss || (b.getLsbD l && decide (fget (word (TILE_LSRC.addr n l)) TILE_LSRC.EN = 1)) })) ∧
    (∀ l : Fin 16, Answers s (.tileLvalSnapshot .keeper n l) (fun t =>
      t = { s with snaps := t.snaps, rdata := t.rdata } ∧ Tab.get 0 t.rdata 0 = (s.laneWords n l).getD 0 0 ∧
      Tab.get [] t.snaps (snapKey .keeper (TILE_LVAL.addr n l)) = s.laneWords n l))

/-- SD_CONVERSION_DONE, AFS_HOLD, EIO_GROUP_SNAPSHOT, LANE_INPUT, CREDIT_RETURN and TFIFO_READ: an acquired value goes to the tile
that asked first with the instant of its acquisition; the first input of a lane without decimation, biquads or
correction becomes a record of its code × 256 with the acquisition's GTS and the lane's SEQ, which the FIFO and the ring
receive; a returned credit sends the oldest buffered record; a FIFO read gives the next word of the oldest record, R37, R89,
R91, R103 to R106, R111, R112 and R570. -/
def Obligations.AcquisitionsBecomeRecords : Prop :=
  ∀ (s : State) (n : Fin 32),
    let record (m : Nat) (q : LaneRec) : Waiting :=
      { ch := .data, src := 1 + m % 4, dst := 8, pkt := .laneRecord m q, flits := 2, since := s.el
        cycle := s.sliceCycle s.el, order := 0 }
    (∀ (k : Fin 8) (code : BitVec 24) x r, s.portWait k = (n.val, x) :: r →
      let cfg := x.cfg.getD (s.reg (ADC_SDCFG.addr k))
      Answers s (.sdConversionDone k code) (fun t =>
        t = { s with portQ := t.portQ, tiles := t.tiles, sense := t.sense } ∧ t.portWait k = r ∧
        (t.tile n).held = (s.tile n).held ++ [{ lanes := x.lanes
                                                gts := s.sdStamp x cfg
                                                epoch := s.epochAt (sdMidEl x cfg), val := .code code.toInt
                                                ow := decide (fget cfg ADC_SDCFG.OWEN = 1 ∧ code = 0x7FFFFF)
                                                late := false, arrived := s.el }])) ∧
    (∀ (k : Fin 4) (code : BitVec 12) x r, s.vioOk 3 = true → s.portWait (8 + k) = (n.val, x) :: r →
      Answers s (.afsHold k code) (fun t => t = { s with portQ := t.portQ, tiles := t.tiles } ∧ t.portWait (8 + k) = r ∧
        (t.tile n).held = (s.tile n).held ++ [{ lanes := x.lanes, gts := s.stampSent x pathAnalog
                                                epoch := s.epochAt x.opens, val := .code code.toInt, ow := false
                                                late := false, arrived := s.el }])) ∧
    (∀ (g : Fin 3) x r, s.vioOk 3 = true → s.portWait (26 + g) = (n.val, x) :: r →
      Answers s (.eioGroupSnapshot g) (fun t =>
        t = { s with portQ := t.portQ, tiles := t.tiles } ∧ t.portWait (26 + g) = r ∧
        (t.tile n).held = (s.tile n).held ++ [{ lanes := x.lanes, gts := s.stampSent x pathCoarse, epoch := s.epochAt x.opens
                                                val := .levels (s.time.eioLevel.extractLsb' (16 * g) 16)
                                                ow := false, late := false, arrived := s.el }])) ∧
    (∀ (l : Fin 16) (h : Held) (r : List Held) (c : Int), (s.tile n).held = h :: r → h.val = .code c →
      (∀ k : Fin 16, h.lanes.getLsbD k = decide (k = l)) → s.cfld (TILE_LSRC.addr n l) TILE_LSRC.EN = 1 →
      s.cfld (TILE_LSRC.addr n l) TILE_LSRC.DESPIKE = 0 → s.cfld (TILE_LCIC.addr n l) TILE_LCIC.RATIO = 0 →
      s.cfld (TILE_LBQC.addr n l) TILE_LBQC.BQMODE = 0 → s.cfld (TILE_TRKCFG.addr n) TILE_TRKCFG.APPLY = 0 →
      (s.lane n l).window = [] → (s.lane n l).integ = [] → (∀ b, (s.tile n).pending = some b → s.now < b) →
      Answers s (.laneInput n) (fun t => (t.tile n).held = r ∧ (t.lane n l).seq = ((s.lane n l).seq + 1) % 65536 ∧
        ∃ q : LaneRec, (t.lane n l).latest = some q ∧ q.value = BitVec.ofInt 32 (c * 256) ∧ q.gts = h.gts ∧
          q.lane = 16 * n + l ∧ q.seq = (s.lane n l).seq ∧ q.epoch = h.epoch ∧
          (s.cfld (TILE_CFG.addr n) TILE_CFG.FIFOEN = 1 → (s.tile n).fifo.length < 32 →
            (t.tile n).fifo = (s.tile n).fifo ++ [q]) ∧
          (s.cfld (TILE_CFG.addr n) TILE_CFG.RINGEN = 1 → (s.tile n).buffer = [] → 0 < (s.tile n).credits →
            (t.tile n).credits = (s.tile n).credits - 1 ∧
            (t.merge (n / 4)).wait = insertWaiting (record n q) (s.merge (n / 4)).wait))) ∧
    (0 < (s.tile n).returning → (s.tile n).buffer = [] → Answers s (.creditReturn n) (fun t =>
      t = { s with tiles := t.tiles } ∧
      t.tile n = { s.tile n with returning := (s.tile n).returning - 1, credits := (s.tile n).credits + 1 })) ∧
    (∀ q rest, 0 < (s.tile n).returning → (s.tile n).buffer = q :: rest → Answers s (.creditReturn n) (fun t =>
      t = { s with tiles := t.tiles, merges := t.merges } ∧
      t.tile n = { s.tile n with returning := (s.tile n).returning - 1, buffer := rest } ∧
      (t.merge (n / 4)).wait = insertWaiting (record n q) (s.merge (n / 4)).wait)) ∧
    (∀ (c : Fin 16) (j : Fin 4) q rest, (s.core c).acting = none → n.val = 4 * (c / 2) + j →
      s.cfld (TILE_CFG.addr n) TILE_CFG.FIFOCORE = c % 2 → (s.tile n).fifo = q :: rest →
      Answers s (.tfifoRead c j) (fun t => t = { s with tiles := t.tiles, rdata := t.rdata } ∧
        Tab.get 0 t.rdata (16 + c) = Word.ofNat (leAt (laneBytes q) (4 * (s.tile n).fifoWord) 4) ∧
        t.tile n = (if (s.tile n).fifoWord < 5 then { s.tile n with fifoWord := (s.tile n).fifoWord + 1 }
          else { s.tile n with fifo := rest, fifoWord := 0 })))

/-! ## Recognizer slices -/

/-- ENGINE_INPUT, ENGINE_TIMER_EXPIRY and B_LANE_RECORD: the input that dispatch takes is judged and drives one transition:
counters, timer, and the next state that the guard selects; an attention action is one packet to the host ports, into which
those of one cycle are joined; an event action is one event record in the package event queue; a parity failure disarms the
engine, drops its inputs and is reported; an expired timer is one input X once no input of its cycle waits; a record of the B
lane that comes first replaces held B and is no input, R138, R141 to R150, R154 and R155. -/
def Obligations.EnginesJudgeAndAct : Prop :=
  ∀ (s : State) (e : Fin 256), s.armed e = true → s.sliceTakes (e / 32) = true →
    s.islandUp 2 (e / 32 * 65536 + 0x0300) = true →
    let x := s.engine e
    (∀ (a : Nat) (i : EngIn) (rest : List (Nat × EngIn)), (∀ r, i ≠ .bLane r) → pickInput x.inq = some ((a, i), rest) →
      let j := s.judge e i
      let w := s.cword (RS_TRANS.addr e (4 * x.st + j.1.code))
      let c0 := counterOp (tw w 23 22) x.c0
      let c1 := counterOp (tw w 21 20) x.c1
      let ok := s.guard e w c0 c1 (s.timerRuns e a)
      let st := if ok then tw w 31 29 else tw w 28 26
      let bits := BitVec.ofNat 4 (tw w 17 14)
      let mine (u : Waiting) : Prop := u.src = 7 ∧ u.ch = .event ∧ u.cycle = s.sliceCycle s.el ∧ u.order = 0
      Answers s (.engineInput e none) (fun t => (t.engine e).st = st ∧ (t.engine e).c0 = c0 ∧ (t.engine e).c1 = c1 ∧
        (t.engine e).lastIn = j.1.code ∧ (t.engine e).lastQ = j.2.1 ∧
        (t.engine e).deadline = (match tw w 19 18 with
          | 0 => x.deadline
          | 2 => none
          | _ => some (s.el + s.timerNs e)) ∧
        (ok = true → tw w 17 14 ≠ 0 → tw w 13 8 = 0 →
          t = { s with engines := t.engines, merges := t.merges } ∧
          ((∀ u ∈ (s.merge (e / 32)).wait, ¬mine u) → (t.merge (e / 32)).wait = insertWaiting
            { ch := .event, src := 7, dst := 15, pkt := .attention bits i.at_, flits := 1, since := s.el
              cycle := s.sliceCycle s.el, order := 0 } (s.merge (e / 32)).wait) ∧
          (∀ u b g, mine u → u.pkt = .attention b g → (s.merge (e / 32)).wait = [u] →
            (t.merge (e / 32)).wait = [{ u with pkt := .attention (b ||| bits) g }])) ∧
        (ok = true → tw w 17 14 = 0 → tw w 13 13 = 1 → tw w 12 8 = 0 → s.fld (RS_CTL.addr (e / 32)) RS_CTL.WIN = 0 →
          s.fld (RS_CTL.addr (e / 32)) RS_CTL.RINGEN = 0 → s.cfld (RS_EPRED.addr e) RS_EPRED.QTY ≠ 6 → i.at_.ring = none →
          (s.slice (e / 32)).lost = 0 → (s.slice (e / 32)).buffer = [] → s.events.length < eventQueueSize →
          t = { s with engines := t.engines, events := t.events, slices := t.slices } ∧
          t.events = s.events ++ [{ gts := i.at_.gts, value := BitVec.ofInt 32 (satI 32 j.2.1), kind := (s.subject e).1
                                    subj := (s.subject e).2, rule := e, cause := tw w 7 0, count := 1
                                    trans := j.1.code * 64 + x.st * 8 + st
                                    eflags := if s.carriedIn i.at_.gts.t i.at_.epoch then 4 else 0
                                    epoch := i.at_.epoch }])) ∧
      (∀ word : Fin 128, Answers s (.engineInput e (some word)) (fun t => (t.engine e).faulted = true ∧ t.armed e = false ∧
        (t.engine e).inq = [] ∧ (t.reg (RS_FAULTS.addr (e / 32))).getLsbD (e % 32) = true ∧
        Raised s t { level := 2, cause := 0x0006, unit := e / 32 * 65536 + 0x0200 + e
                     gts := s.stamp pathCoarse, detail := word }))) ∧
    (∀ pin rise g, s.cfld (RS_EPRED.addr e) RS_EPRED.QTY = 7 → s.cfld (RS_EPRED.addr e) RS_EPRED.COMB = 0 →
      s.judge e (.edge pin rise g) =
        (if compare (s.cfld (RS_EPRED.addr e) RS_EPRED.CMP) (b2n rise : Nat) (signed 32 (s.cword (RS_EK1.addr e)).toNat)
            (signed 32 (s.cword (RS_EK2.addr e)).toNat) x.hyst then .t else .f, ((b2n rise : Nat) : Int), ((b2n rise : Nat) : Int))) ∧
    (∀ d, x.deadline = some d → s.time.keepCarries = false → d ≤ s.el →
      (∀ i ∈ x.inq, s.sliceCycle d + s.cycleLen < i.1) →
      let w := s.cword (RS_TRANS.addr e (4 * x.st + 3))
      let c0 := counterOp (tw w 23 22) x.c0
      let c1 := counterOp (tw w 21 20) x.c1
      Answers s (.engineTimerExpiry e none) (fun t =>
        (t.engine e).st = (if s.guard e w c0 c1 false then tw w 31 29 else tw w 28 26) ∧ (t.engine e).lastIn = 3 ∧
        (t.engine e).c0 = c0 ∧ (t.engine e).c1 = c1 ∧
        (t.engine e).deadline = (if tw w 19 18 = 0 ∨ tw w 19 18 = 2 then none else some (s.el + s.timerNs e)))) ∧
    (∀ a r rest, pickInput x.inq = some ((a, .bLane r), rest) →
      Answers s (.bLaneRecord e) (fun t => t = { s with engines := t.engines } ∧
        t.engine e = { x with inq := rest, heldB := some r }) ∧
      exec (.engineInput e none) s = .next s)

/-- RS_COMMIT, RULE_SET_SWITCH, RS_ESTATE_SNAPSHOT, ATTENTION_PACKET, COALESCE_WINDOW_CLOSE, LOST_SUMMARY and SLICE_RETENTION_IDLE:
a commit that passes takes the named engines' words whole, one that fails names the engine and the check and changes no
set, and one while a set is pending is held; a switch brings each engine to INIT unless it keeps its state; an attention
packet sets RULE of the ports it names; a closed window gives one summary of what it merged; what was lost is summed up in
one record; a kept slice without input returns to retention, R149, R151, R152, R157, R159, R163 and R178. -/
def Obligations.SlicesCommitAndSummarise : Prop :=
  ∀ (s : State) (n : Fin 8) (v : Word), Reached s (RS_COMMIT.addr n) →
    let x := s.slice n
    let room := s.events.length < eventQueueSize ∧ s.fld (RS_CTL.addr n) RS_CTL.RINGEN = 0
    (x.pending = none → (∀ k : Fin 32, v.getLsbD k = true → s.fld (RS_ECFG.addr (32 * n + k)) RS_ECFG.EN = 1 →
        s.engineCheck (32 * n + k) = 0) →
      Answers s (.rsCommit .keeper n v) (fun t => t = { s with pset := t.pset, slices := t.slices } ∧
        t.slice n = { x with pending := some v } ∧
        ∀ k : Fin 32, v.getLsbD k = true → ∀ a, engBase (32 * n + k) ≤ a → a < engBase (32 * n + k) + 0x200 →
          t.pword a = s.reg a)) ∧
    (∀ k : Fin 32, x.pending = none → v.getLsbD k = true → s.fld (RS_ECFG.addr (32 * n + k)) RS_ECFG.EN = 1 →
      s.engineCheck (32 * n + k) ≠ 0 → (∀ j : Fin 32, j < k → v.getLsbD j = false) →
      Answers s (.rsCommit .keeper n v) (fun t => t = { s with regs := t.regs } ∧
        t.fld (RS_STATUS.addr n) RS_STATUS.REFUSED = 1 ∧ t.fld (RS_STATUS.addr n) RS_STATUS.CENG = k ∧
        t.fld (RS_STATUS.addr n) RS_STATUS.CERR = s.engineCheck (32 * n + k))) ∧
    (x.pending ≠ none → Answers s (.rsCommit .keeper n v) (fun t => t = { s with slices := t.slices } ∧
      t.slice n = { x with commits := x.commits ++ [v] })) ∧
    (∀ mask : Word, x.pending = some mask → x.commits = [] → Answers s (.ruleSetSwitch n) (fun t =>
      t = { s with cset := t.cset, engines := t.engines, slices := t.slices } ∧ t.slice n = { x with pending := none } ∧
      ∀ k : Fin 32, mask.getLsbD k = true →
        (∀ a, engBase (32 * n + k) ≤ a → a < engBase (32 * n + k) + 0x200 → t.cword a = s.pword a) ∧
        (s.pfld (RS_ECFG.addr (32 * n + k)) RS_ECFG.KEEPST = 0 →
          (t.engine (32 * n + k)).st = s.pfld (RS_ECFG.addr (32 * n + k)) RS_ECFG.INIT ∧
          (t.engine (32 * n + k)).c0 = 0 ∧ (t.engine (32 * n + k)).c1 = 0 ∧ (t.engine (32 * n + k)).deadline = none ∧
          (t.engine (32 * n + k)).window = [] ∧ (t.engine (32 * n + k)).heldB = none ∧
          (t.engine (32 * n + k)).faulted = false))) ∧
    (∀ k : Fin 256, k.val / 32 = n → Answers s (.rsEstateSnapshot .keeper k) (fun t =>
      t = { s with snaps := t.snaps, rdata := t.rdata } ∧ Tab.get 0 t.rdata 0 = (s.engineWords k).getD 0 0 ∧
      Tab.get [] t.snaps (snapKey .keeper (RS_ESTATE.addr k)) = s.engineWords k)) ∧
    (∀ b g rest, s.arrived = .attention b g :: rest → Answers s .attentionPacket (fun t =>
      t = { s with arrived := rest, regs := t.regs } ∧
      ∀ p : Fin 4, t.fld (HP_ATTN.addr p) HP_ATTN.RULE =
        if b.getLsbD p then 1 else s.fld (HP_ATTN.addr p) HP_ATTN.RULE)) ∧
    (∀ c, x.coal = [c] → c.close ≤ s.now →
      (c.count = 0 → Answers s (.coalesceWindowClose n) (fun t => t = { s with slices := t.slices } ∧
        t.slice n = { x with coal := [] })) ∧
      (c.count ≠ 0 → c.key.1 ≠ 0 → room → x.lost = 0 → x.buffer = [] → Answers s (.coalesceWindowClose n) (fun t =>
        t = { s with slices := t.slices, events := t.events } ∧ t.slice n = { x with coal := [] } ∧
        t.events = s.events ++ [{ gts := c.gts, value := c.value, kind := c.key.1, subj := c.key.2.1, rule := c.rule
                                  cause := c.key.2.2, count := c.count, trans := c.trans, eflags := c.eflags ||| 1
                                  epoch := c.epoch }]))) ∧
    (x.buffer = [] → x.lost ≠ 0 → room → Answers s (.lostSummary n) (fun t =>
      t = { s with slices := t.slices, events := t.events } ∧ t.slice n = { x with lost := 0 } ∧
      ∃ r : EvRec, t.events = s.events ++ [r] ∧ r.gts = x.lostAt.gts ∧ r.kind = 7 ∧ r.subj = 0 ∧ r.rule = x.lostRule ∧
        r.cause = 0xFF ∧ r.count = min 0xFFFF x.lost ∧ r.epoch = x.lostAt.epoch ∧
        r.eflags = x.lostEflags ||| (if 0xFFFF < x.lost then 2 else 0))) ∧
    (s.keptSlice n = true → x.lastInput + 2 ^ s.fld (RS_CTL.addr n) RS_CTL.WIDLE * 1000 ≤ s.el →
      Answers s (.sliceRetentionIdle n) (fun t => t = { s with dom := t.dom } ∧ t.domState (0x0300 + n) = .ret))

/-! ## Stipple -/

/-- STP_TRIGGER, STP_TRIG, STP_PERIOD, STP_RUN_START, STP_RUN_COMPLETE, STP_COMMIT and STP_IDLE: a trigger of an enabled slot queues
one run or merges with the one that waits; the waiting run of highest PRIO and lowest slot starts with its inputs gathered
and preempts a lower one; a completed run gives its class, score and margin as a record, a double-bit error abandons it; a
commit that passes takes every slot's words, one that fails names the slot and the check; in RECOGNIZE an idle STP
returns to retention, R168, R170 to R172, R180 to R182 and R433. -/
def Obligations.StippleRunsItsSlots : Prop :=
  ∀ (s : State) (n : Fin 8) (v : Word), Reached s STP_TRIG.addr →
    let en := s.scfg n STP_SCFG.EN = 1
    let quiet := ∀ r ∈ s.stp.waiting, r.slot ≠ n
    let prio (r : StpRun) : Nat := s.scfg r.slot STP_SCFG.PRIO
    (∀ e g rest, s.arrived = .stpTrigger n e g :: rest → en →
      (quiet → 5 ≤ s.mode → exec .stpTrigger s = .next { s with
        arrived := rest, stp := { s.stp with waiting := s.stp.waiting ++ [{ slot := n, rule := some e, got := none }] } }) ∧
      (¬quiet → 5 ≤ s.mode → Answers s .stpTrigger (fun t => t = { s with arrived := rest, regs := t.regs } ∧
        t.fld STP_STAT.addr STP_STAT.MERGED = min 65535 (s.fld STP_STAT.addr STP_STAT.MERGED + 1)))) ∧
    (fget v STP_TRIG.GO = 1 → fget v STP_TRIG.SLOT = n → en → quiet → 5 ≤ s.mode →
      exec (.stpTrig .keeper v) s = .next { s with
        stp := { s.stp with waiting := s.stp.waiting ++ [{ slot := n, rule := none, got := none }] } }) ∧
    (let per := s.cfld (STP_SPER.addr n) STP_SPER.PER
     per ≠ 0 → (s.stpSlot n).periodAt + per * 1000000 ≤ s.el → en → quiet → 5 ≤ s.mode →
      Answers s (.stpPeriod n) (fun t => t = { s with stp := t.stp } ∧
        t.stp.waiting = s.stp.waiting ++ [{ slot := n, rule := none, got := none }] ∧
        t.stpSlot n = { s.stpSlot n with periodAt := (s.stpSlot n).periodAt + per * 1000000 })) ∧
    (s.fld STP_CTL.addr STP_CTL.EN = 1 → 5 ≤ s.mode → s.stp.waiting ≠ [] → s.stp.preempted = [] →
      (s.stp.running = none → ∃ r ∈ s.stp.waiting,
        (∀ q ∈ s.stp.waiting, prio q < prio r ∨ (prio q = prio r ∧ r.slot ≤ q.slot)) ∧
        Answers s .stpRunStart (fun t => t = { s with stp := t.stp, free := t.free } ∧
          t.stp.running = some { r with got := some (s.gather (s.package r.slot)) } ∧
          t.stp.waiting = s.stp.waiting.filter (fun q => q.slot ≠ r.slot) ∧ t.stp.preempted = [])) ∧
      (∀ q r, s.stp.running = some q → s.stp.waiting = [r] → prio q < prio r →
        Answers s .stpRunStart (fun t => t = { s with stp := t.stp, free := t.free } ∧ t.stp.preempted = [q] ∧
          t.stp.running = some { r with got := some (s.gather (s.package r.slot)) } ∧ t.stp.waiting = []))) ∧
    (∀ rule g corrected, s.stp.running = some { slot := n, rule, got := some g } →
      s.stp.pendingSlots.contains n.val = false →
      Answers s (.stpRunComplete corrected true) (fun t => t.stp.running = none ∧
        t.fld (STP_SSTAT.addr n) STP_SSTAT.CODE = 2 ∧ t.events = s.events ∧
        Raised s t { level := 4, cause := 0x0020, unit := 0x1400, gts := s.stamp pathCoarse, detail := n }) ∧
      (s.events.length < eventQueueSize →
        let y := (s.runSlot n g).1
        let c := bestClass y
        let margin : Int := match y.eraseIdx c.1 with
          | [] => 0
          | a :: r => c.2 - maxI a r
        let value := c.1 % 256 + wrap 8 c.2 * 256 + min 255 margin.toNat * 65536 + min 255 g.doubt * 2 ^ 24
        Answers s (.stpRunComplete corrected false) (fun t => t.stp.running = none ∧
          t.reg (STP_SRES.addr n) = BitVec.ofNat 32 value ∧ t.fld (STP_SSTAT.addr n) STP_SSTAT.CODE = 0 ∧
          ∃ r : EvRec, t.events = s.events ++ [r] ∧ r.gts = g.gts ∧ r.value = BitVec.ofNat 32 value ∧ r.kind = 4 ∧
            r.subj = n ∧ r.rule = rule.getD 0 ∧ r.cause = s.scfg n STP_SCFG.CAUSE ∧ r.count = 1))) ∧
    (fget v STP_COMMIT.GO = 1 → s.stp.running = none → s.stp.preempted = [] →
      ((∀ k : Fin 8, s.slotCheck k = 0) → Answers s (.stpCommit .keeper v) (fun t =>
        t = { s with pset := t.pset, cset := t.cset, stp := t.stp } ∧
        ∀ a, STP_SCFG.addr n ≤ a → a < STP_SRES.addr n → t.cword a = s.reg a)) ∧
      (s.slotCheck n ≠ 0 → (∀ k : Fin 8, k < n → s.slotCheck k = 0) → Answers s (.stpCommit .keeper v) (fun t =>
        t = { s with regs := t.regs } ∧ t.fld STP_STATUS.addr STP_STATUS.REFUSED = 1 ∧
        t.fld STP_STATUS.addr STP_STATUS.CSLOT = n ∧ t.fld STP_STATUS.addr STP_STATUS.CERR = s.slotCheck n))) ∧
    (s.mode = 5 → s.stp.running = none → s.stp.waiting = [] → s.stp.preempted = [] →
      s.stp.idleSince + max 1 (s.fld PWR_CFG.addr PWR_CFG.STPIDLE) * 1000 ≤ s.el →
      Answers s .stpIdle (fun t => t = { s with dom := t.dom } ∧ t.domState 0x1400 = .ret))

/-! ## Batch rings, the voyage log and windows -/

/-- RING_APPEND, SEGMENT_AGE_CLOSE, RING_SET_SWITCH, LOG_RCOMMIT and LOG_ROLD_WRITE on an FMT 0 ring: the oldest staged record is
written behind the records of the open segment, or opens the next segment, with the header of R187 and no other byte; a
segment past its age closes with AGED; a commit that passes waits and then takes effect whole, one that fails names the
ring and the check; the release point moves within the valid span only, R187, R189, R190, R196, R212, R214 and R570. -/
def Obligations.RingsHoldTheirRecords : Prop :=
  ∀ (s : State) (r : Fin 40) (v : Word), Reached s LOG_BCMD.addr →
    let x := s.ring r
    (∀ y rest, x.staged = y :: rest → s.rcfg r LOG_RCFG.EN = 1 → s.rfmt r = 0 → x.open_ = none →
      x.segs.length < s.rsize r →
      let page := s.rbase r + x.nextPage
      s.isOn (bankOf page) = true → Answers s (.ringAppend r) (fun t =>
        t = { s with mem := t.mem, rings := t.rings, tiles := t.tiles } ∧ (t.ring r).staged = rest ∧
        (t.ring r).nextSseq = x.nextSseq + 1 ∧
        (r.val < 32 → (t.tile r).returning = (s.tile r).returning + 1) ∧
        memReadBytes t.mem (page * 0x1000 + 48) 24 = y.bytes ∧
        SameMemOutside s t (page * 0x1000) (page * 0x1000 + 72) ∧
        ∃ g : Seg, (t.ring r).segs = x.segs ++ [g] ∧ g.page = page ∧ g.sseq = x.nextSseq ∧ g.epoch = y.epoch ∧
          g.base = y.gts ∧ g.nrec = 1 ∧ g.used = 24 ∧ g.closed = false ∧ g.lost = x.markLost ∧ g.cut = x.markCut ∧
          memReadBytes t.mem (page * 0x1000) 48 = g.header r 0)) ∧
    (∀ y rest g, x.staged = y :: rest → s.rcfg r LOG_RCFG.EN = 1 → x.open_ = some g → g.fmt = 0 → g.epoch = y.epoch →
      g.used + 24 ≤ 4048 → s.isOn (bankOf g.page) = true → Answers s (.ringAppend r) (fun t =>
        t = { s with mem := t.mem, rings := t.rings, tiles := t.tiles } ∧ (t.ring r).staged = rest ∧
        (t.ring r).segs = x.segs.dropLast ++
          [{ g with used := g.used + 24, nrec := g.nrec + 1, lastT := y.gts.t.toNat }] ∧
        memReadBytes t.mem (g.page * 0x1000 + 48 + g.used) 24 = y.bytes ∧
        SameMemOutside s t (g.page * 0x1000) (g.page * 0x1000 + 0x1000))) ∧
    (∀ g, x.open_ = some g → 0 < g.nrec → s.rcfg r LOG_RCFG.MAXAGE < 31 →
      g.base.t.toNat + 2 ^ (s.rcfg r LOG_RCFG.MAXAGE + 40) ≤ s.now.toNat →
      Answers s (.segmentAgeClose r) (fun t => t = { s with mem := t.mem, rings := t.rings, flusher := t.flusher } ∧
        (t.ring r).open_ = none ∧ (t.ring r).segs = x.segs.dropLast ++ [{ g with closed := true, aged := true }] ∧
        (s.rcfg r LOG_RCFG.LOGEN = 1 → t.flusher.order = s.flusher.order ++ [(r.val, g.sseq)]) ∧
        SameMemOutside s t (g.page * 0x1000) (g.page * 0x1000 + 48))) ∧
    (let mask (k : Nat) : Bool := decide (k < 32) && v.getLsbD k
     ((∀ k : Fin 40, mask k = true → s.ringCheck mask k = 0) → Answers s (.logRcommit .keeper false v) (fun t =>
        t = { s with pset := t.pset, rings := t.rings } ∧
        (mask r = true → t.ring r = { x with pending := true } ∧
          ∀ a, LOG_RCFG.addr r ≤ a → a < LOG_RCFG.addr r + 0x20 → t.pword a = s.reg a))) ∧
     (mask r = true → s.ringCheck mask r ≠ 0 → (∀ k : Fin 40, k < r → mask k = false) →
        Answers s (.logRcommit .keeper false v) (fun t => t = { s with regs := t.regs } ∧
          t.fld LOG_STATUS.addr LOG_STATUS.REFUSED = 1 ∧ t.fld LOG_STATUS.addr LOG_STATUS.CRING = r ∧
          t.fld LOG_STATUS.addr LOG_STATUS.CERR = s.ringCheck mask r))) ∧
    (x.pending = true → Answers s (.ringSetSwitch r) (fun t => (t.ring r).pending = false ∧
      (∀ a, LOG_RCFG.addr r ≤ a → a < LOG_RCFG.addr r + 0x20 → t.cword a = s.pword a) ∧
      (s.pword (LOG_RBASE.addr r) ≠ s.cword (LOG_RBASE.addr r) →
        s.pfld (LOG_RBASE.addr r) LOG_RBASE.PAGE ≠ s.rbase r → (t.ring r).segs = [] ∧ (t.ring r).nextPage = 0))) ∧
    (s.seqOldest r ≤ v.toNat → v.toNat ≤ s.seqNext r → Answers s (.logRoldWrite .keeper r v) (fun t =>
      t = { s with rings := t.rings } ∧ t.ring r = { x with release := v.toNat })) ∧
    (s.seqNext r < v.toNat → exec (.logRoldWrite .keeper r v) s = .next s)

/-- ARM, OPEN, CLOSE, RELEASE, BOPEN and BCLOSE: a free handle is armed for a ring; an armed one opens from PRE segments back, within
the valid span; an open one closes with the segments up to the newest; a release frees it; a rule's packet acts as the
command, in the order in which they came (R22); a command on a free handle is reported as BATCH_UNARMED and ARM of a used one sets BERR, R184, R197, R198. -/
def Obligations.BatchesOpenAndClose : Prop :=
  ∀ (s : State) (h : Fin 256) (r : Fin 40) (e : Fin 256) (g : Stamp) (rest : List Packet), Reached s LOG_BCMD.addr →
    let x := s.handle h
    let opened : Handle := { x with
      st := .opened, first := max (s.seqNext x.ring - s.rcfg x.ring LOG_RCFG.PRE) (s.seqOldest x.ring) }
    let closed : Handle := { x with st := .closed, segs := (s.ring x.ring).nextSseq - x.first }
    (x.st = .free → Answers s (.armBatch r h) (fun t => t = { s with handles := t.handles } ∧
      t.handle h = { st := .armed, ring := r, first := 0, segs := 0 })) ∧
    (x.st ≠ .free → Answers s (.armBatch r h) (fun t => t = { s with regs := t.regs } ∧
      t.fld LOG_STATUS.addr LOG_STATUS.BERR = 1)) ∧
    (x.st = .armed → Answers s (.openBatch h) (fun t => t.handle h = opened ∧
      (∀ g, (s.ring x.ring).open_ = some g → 0 < g.nrec → (t.ring x.ring).open_ = none))) ∧
    (x.st = .opened → Answers s (.closeBatch h) (fun t => t.handle h = closed ∧
      (∀ g, (s.ring x.ring).open_ = some g → 0 < g.nrec → (t.ring x.ring).open_ = none))) ∧
    (x.st ≠ .free → Answers s (.releaseBatch h) (fun t => t = { s with handles := t.handles } ∧
      (t.handle h).st = .free)) ∧
    (x.st = .free → Answers s (.openBatch h) (fun t => t = { s with merges := t.merges } ∧
      Raised s t { level := 4, cause := 0x0032, unit := 0x1300, gts := s.stamp pathCoarse, detail := h })) ∧
    (s.arrived = .bopen h e g :: rest → x.st = .armed → Answers s .bopen (fun t => t.arrived = rest ∧
      t.handle h = opened)) ∧
    (s.arrived = .bclose h e g :: rest → x.st = .opened → Answers s .bclose (fun t => t.arrived = rest ∧
      t.handle h = closed)) ∧
    (s.arrived = .bopen h e g :: rest → x.st = .free → Answers s .bopen (fun t => t.arrived = rest ∧
      Raised s t { level := 2, cause := 0x0032, unit := e / 32 * 65536 + 0x0200 + e, gts := s.stamp pathCoarse
                   detail := h })) ∧
    (s.arrived = .bopen h e g :: rest → exec .bclose s = .next s) ∧ (s.arrived = .bclose h e g :: rest → exec .bopen s = .next s)

/-- FLASH_SET_SWITCH, SECTOR_ERASE, LOG_BLOCK_WRITE, LOG_BLOCK_READBACK, INDEX_BLOCK_WRITE and LOG_HEAD_RECOVERY: the flusher starts
erasing a sector, programming the oldest closed segment into the next block or a full sector's index, with the frames of
descriptors 10 to 13; with the last frame the sector is erased, the block is read back or the log goes on with the next sector
or wraps; a block that reads back with its CRC is unpinned and advances BLOCK and the LSN; a failure is retried once and then
stops flushing with FERR; recovery goes on after the newest block, R200 to R204, R212 and R397. -/
def Obligations.TheFlusherWritesTheLog : Prop :=
  ∀ (s : State) (r q : Nat) (rest : List (Nat × Nat)), s.pwr.entry = none →
    let f := s.flusher
    (f.setPending = true → f.task = none → Answers s .flashSetSwitch (fun t =>
      t = { s with cset := t.cset, regs := t.regs, flusher := t.flusher } ∧
      (∀ a, LOG_FCFG.addr ≤ a → a < LOG_FHEAD.addr → t.cword a = s.pword a) ∧ t.reg LOG_FHEAD.addr = 0 ∧
      t.reg LOG_FLSN.addr = s.reg LOG_FLSN.addr ∧ t.flusher.erased = none ∧ t.flusher.setPending = false)) ∧
    (s.flushing = true → f.task = none → s.sectorReady = false → s.backlog ≠ [] → ∀ ans,
      Answers s (.sectorErase ans) (fun t => t = { s with flusher := t.flusher } ∧ t.flusher.task = some .erase ∧
        t.flusher.frames = eraseFrames s.flashAt ∧ t.flusher.fails = decide (ans = .fail) ∧ t.backlog = s.backlog)) ∧
    (∀ g ans, s.flushing = true → f.task = none → s.sectorReady = true → s.fblock < s.dataBlocks →
      s.backlog = (r, q) :: rest → s.segBySeq r q = some g → s.isOn (bankOf g.page) = true →
      Answers s (.logBlockWrite ans) (fun t => t = { s with flusher := t.flusher } ∧
        t.flusher.task = some (.program r q) ∧ t.flusher.fails = decide (ans = .fail) ∧
        t.flusher.frames = s.programFrames s.flashAt (g.page * 0x1000) 4096)) ∧
    (∀ (n : Fin 6) j (b : BitVec 8), s.cspRunning n = some j → j.user = .log → j.desc = 13 → j.len = 1 → s.vioOk 2 = true →
      (cspDesc s.cword n 13).dir = 1 → b.toNat &&& fget (cspDesc s.cword n 13).poll CSP_DPOLL.MASK =
        fget (cspDesc s.cword n 13).poll CSP_DPOLL.VAL → f.frames = [] →
      (f.task = some .erase → f.fails = false → Answers s (.cspFrameEnd n [b]) (fun t =>
        t.flusher.erased = some s.fsector ∧ t.flusher.task = none ∧ t.flusher.entries = [])) ∧
      (f.task = some (.program r q) → f.fails = false → Answers s (.cspFrameEnd n [b]) (fun t =>
        t.flusher.task = some (.readBack r q) ∧ t.flusher.frames = [⟨14, s.flashAt, 4096, 0⟩])) ∧
      (f.task = some .index → f.fails = false → Answers s (.cspFrameEnd n [b]) (fun t =>
        t.flusher.task = none ∧ t.flusher.erased = none ∧ t.flusher.entries = [] ∧ t.fblock = 0 ∧
        t.reg LOG_FLSN.addr = s.reg LOG_FLSN.addr + 1 ∧
        (s.fsector + 1 = s.cfld LOG_FSIZE.addr LOG_FSIZE.SECTORS → t.fsector = 0 ∧
          (s.cfld LOG_FCFG.addr LOG_FCFG.FULL = 1 → t.flusher.stopped = true ∧
            t.fld LOG_FSTAT.addr LOG_FSTAT.FERR = 1)) ∧
        (s.fsector + 1 ≠ s.cfld LOG_FSIZE.addr LOG_FSIZE.SECTORS → t.fsector = (s.fsector + 1) % 65536))) ∧
      (f.fails = true → f.retry = false → Answers s (.cspFrameEnd n [b]) (fun t =>
        t.flusher.task = none ∧ t.flusher.retry = true ∧ t.flusher.stopped = f.stopped)) ∧
      (f.fails = true → f.retry = true → Answers s (.cspFrameEnd n [b]) (fun t =>
        t.flusher.task = none ∧ t.flusher.stopped = true ∧ t.fld LOG_FSTAT.addr LOG_FSTAT.FERR = 1 ∧
        ∃ r, Raised s t r ∧ r.level = 4 ∧ r.cause = 0x0021 ∧ r.unit = 0x1300))) ∧
    (∀ u g data image, u = s.readEnds data → u.flusher.task = some (.readBack r q) → u.flusher.got = some image →
      u.segBySeq r q = some g → slice image 28 4 = slice (u.logImage g) 28 4 →
      blockCrc (slice image 0 48) (slice image 48 (usedOf image)) = leAt image 28 4 →
      Answers s (.logBlockReadback data) (fun t => t = { u with regs := t.regs, flusher := t.flusher, rings := t.rings } ∧
        (∀ g ∈ (t.ring r).segs, g.sseq = q → g.flushed = true) ∧ t.flusher.task = none ∧ (r, q) ∉ t.flusher.order ∧
        t.flusher.entries = u.flusher.entries ++ [indexEntry image] ∧
        t.reg LOG_FLSN.addr = u.reg LOG_FLSN.addr + 1 ∧ t.fblock = (u.fblock + 1) % 256 ∧ t.fsector = u.fsector)) ∧
    (∀ u data image, u = s.readEnds data → u.flusher.task = some (.readBack r q) → u.flusher.got = some image →
      u.flusher.retry = false → blockCrc (slice image 0 48) (slice image 48 (usedOf image)) ≠ leAt image 28 4 →
      Answers s (.logBlockReadback data) (fun t => t = { u with flusher := t.flusher } ∧ t.flusher.task = none ∧
        t.flusher.retry = true ∧ t.flusher.order = u.flusher.order)) ∧
    (s.flushing = true → f.task = none → s.fblock = s.dataBlocks → ∀ ans,
      Answers s (.indexBlockWrite ans) (fun t => t = { s with flusher := t.flusher } ∧ t.flusher.task = some .index ∧
        t.flusher.fails = decide (ans = .fail) ∧
        t.flusher.frames = s.programFrames s.flashAt 0 s.indexImage.length)) ∧
    (s.fld LOG_CTL.addr LOG_CTL.FLEN = 0 →
      Answers s (.logHeadRecovery []) (fun t => t = { s with regs := t.regs, flusher := t.flusher } ∧
        t.reg LOG_FHEAD.addr = 0 ∧ t.reg LOG_FLSN.addr = 0 ∧ t.flusher.order = f.order) ∧
      ∀ (sec blk : Nat) (h : List (BitVec 8)), blk + 1 ≤ s.dataBlocks →
        Answers s (.logHeadRecovery [(sec, blk, h, true)]) (fun t =>
          t = { s with regs := t.regs, flusher := t.flusher } ∧ t.fblock = (blk + 1) % 256 ∧ t.fsector = sec % 65536 ∧
          t.reg LOG_FLSN.addr = Word.ofNat (lsnOf h + 1) ∧ t.flusher.order = f.order ∧
          t.flusher.entries.getLast? = some (indexEntry h) ∧ t.flusher.entries.length = blk + 1))

/-- WINDOW_READ, WINDOW_FAULT_REPORT, HWU_COMMIT and HWU_INV: a window word is read through its two table entries, or for a page
beyond the window is ones with the fault counted and the first one recorded; a recorded fault is reported to the port's
session and cleared; a commit takes the named ports' base and size and empties their caches, R207 to R210 and R216. -/
def Obligations.WindowsWalkTheirTables : Prop :=
  ∀ (s : State) (n : Fin 4) (a : Nat) (v : Word), Reached s HWU_COMMIT.addr → a % 4 = 0 →
    let page := a / 0x1000
    let a1 := s.wtable n + 4 * (page / 1024)
    let e1 := memReadWord s.mem a1
    let a2 := e1.toNat / 0x1000 * 0x1000 + 4 * (page % 1024)
    let e2 := memReadWord s.mem a2
    let b := e2.toNat / 0x1000 * 0x1000
    (page < s.wpages n → (∀ x ∈ Tab.get [] s.hwuCache n, x.1 ≠ page) → a1 < 0x800000 → e1.getLsbD 0 = true →
      a2 < 0x800000 → e2.getLsbD 0 = true → b < 0x800000 → s.isOn (bankAt a1) = true → s.isOn (bankAt a2) = true →
      s.isOn (bankAt b) = true →
      Answers s (.windowRead n a 1) (fun t => t = { s with snaps := t.snaps, hwuCache := t.hwuCache } ∧
        Tab.get [] t.snaps (hostKey n) = [memReadWord s.mem (b + a % 0x1000)] ∧
        (page, e2) ∈ Tab.get [] t.hwuCache n)) ∧
    (s.wpages n ≤ page → Answers s (.windowRead n a 1) (fun t => t = { s with snaps := t.snaps, regs := t.regs } ∧
      Tab.get [] t.snaps (hostKey n) = [0xFFFFFFFF] ∧
      t.fld (HWU_FCNT.addr n) HWU_FCNT.COUNT = min 65535 (s.fld (HWU_FCNT.addr n) HWU_FCNT.COUNT + 1) ∧
      (s.fld (HWU_FAULT.addr n) HWU_FAULT.VALID = 0 → t.fld (HWU_FAULT.addr n) HWU_FAULT.VALID = 1 ∧
        t.fld (HWU_FAULT.addr n) HWU_FAULT.LEVEL = 0 ∧ t.fld (HWU_FAULT.addr n) HWU_FAULT.CODE = 0 ∧
        t.fld (HWU_FAULT.addr n) HWU_FAULT.ADDR = a % 2 ^ 26) ∧
      (s.fld (HWU_FAULT.addr n) HWU_FAULT.VALID = 1 → t.reg (HWU_FAULT.addr n) = s.reg (HWU_FAULT.addr n)))) ∧
    (s.served = true → s.fld (HWU_FAULT.addr n) HWU_FAULT.VALID = 1 →
      let s' := s.setFld (HWU_FAULT.addr n) HWU_FAULT.VALID 0
      let code := s.fld (HWU_FAULT.addr n) HWU_FAULT.CODE
      ((s.port n).session = none → exec (.windowFaultReport n) s = .next s') ∧
      (∀ ver, (s.port n).session = some ver → exec (.windowFaultReport n) s = .next (s'.publish n
        { op := 0x42, status := 0x30 + code, reply := false
          payload := faultPayload ver 4 (0x30 + code) (0x1100 + n) (s.stamp pathCoarse)
            (s.fld (HWU_FAULT.addr n) HWU_FAULT.ADDR) (some (s.fld (HWU_FAULT.addr n) HWU_FAULT.LEVEL)) }))) ∧
    Answers s (.hwuCommit .keeper v) (fun t => t = { s with cset := t.cset, hwuCache := t.hwuCache } ∧
      (v.getLsbD n = true → Tab.get [] t.hwuCache n = [] ∧
        ∀ k, HWU_TBASE.addr n ≤ k → k < HWU_FAULT.addr n → t.cword k = s.reg k)) ∧
    Answers s (.hwuInv .keeper v) (fun t => t = { s with hwuCache := t.hwuCache } ∧
      Tab.get [] t.hwuCache n = if v.getLsbD n then [] else Tab.get [] s.hwuCache n)

/-! ## The sense die -/

/-- LINK_TRAINING, SENSE_FRAME_RECEIVE, SENSE_RESEND, SENSE_RETRAIN, SENSE_LAT_CALIBRATE, SENSE_START, SENSE_WINDOW_CLOSE and
SENSE_RESULT: training that an access asked for brings the link up and sends every committed word again, and after a die
reset every wire is INTACT; a frame with good check bits is taken, another waits for its resend; after three resends of one
frame the link is declared down and reported; a START opens one window per group, half a window after whose receipt its
channels are acquired; a window that closes gives one RESULT frame per channel, a cell beside a wire that was not INTACT
with OW, a thermistor with OW at its threshold; a result goes to its tile, a lost one marks the lanes of its channel and
brings the link down, R98, R220, R223 to R227, R229, R234, R237 and R239. -/
def Obligations.TheSenseDieMeasures : Prop :=
  ∀ (s : State) (reset : Bool), s.pwr.entry = none → s.isOn 0x1500 = true →
    let x := s.sense
    (x.wanted = true → x.trained = false → s.fld PWR_SUPPLY.addr PWR_SUPPLY.PACKOK = 1 →
      Answers s (.linkTraining true reset) (fun t =>
        t.linkUp = true ∧ t.fld SNS_STATUS.addr SNS_STATUS.LINKUP = 1 ∧ t.sense.toDie = s.configFrames ∧
        (reset = true → t.sense.wires = [] ∧ t.fld SNS_STATUS.addr SNS_STATUS.DIERST = 1))) ∧
    (x.down = true → x.downAt + 1000000 ≤ s.el →
      (s.fld PWR_SUPPLY.addr PWR_SUPPLY.PACKOK = 1 → Answers s (.senseRetrain true reset) (fun t =>
        t.linkUp = true ∧ t.fld SNS_STATUS.addr SNS_STATUS.LINKUP = 1 ∧ t.sense.toDie = s.configFrames)) ∧
      Answers s (.senseRetrain false reset) (fun t => t = { s with sense := t.sense } ∧ t.sense.down = true ∧
        t.sense.downAt = x.downAt + 1000000)) ∧
    (s.linkUp = true →
      (∀ f rest, x.toDie = f :: rest →
        (f.sent = true → s.startNear 759 = false →
          (∀ a w, f.data = .cfg a w → exec (.senseFrameReceive true) s = .next { s with sense := { x with toDie := rest } }) ∧
          exec (.senseFrameReceive false) s = .next { s with sense := { x with toDie := { f with sent := false } :: rest } }) ∧
        (s.startNear 1000 = false → f.fails < 3 → Answers s .senseResend (fun t =>
          t = { s with regs := t.regs
                       sense := { x with toDie := { f with fails := f.fails + 1, sent := true } :: rest } } ∧
          t.fld SNS_LINKSTAT.addr SNS_LINKSTAT.RETRY = min 65535 (s.fld SNS_LINKSTAT.addr SNS_LINKSTAT.RETRY + 1))) ∧
        (s.startNear 1000 = false → 3 ≤ f.fails → Answers s .senseResend (fun t => t.linkUp = false ∧ t.sense.toDie = [] ∧
          t.fld SNS_STATUS.addr SNS_STATUS.LINKUP = 0 ∧
          Raised s t { level := 4, cause := 0x0022, unit := 0x1500, gts := s.stamp pathCoarse, detail := 0 }))) ∧
      (s.startNear 1000 = false → (∀ a, x.latAt = some a → a + 1000000000 ≤ s.el) →
        ∀ lat, Answers s (.senseLatCalibrate lat) (fun t =>
          t = { s with regs := t.regs, sense := { x with latAt := some s.el } } ∧
          t.fld SNS_LAT.addr SNS_LAT.LAT = lat.toNat)) ∧
      ((∀ f ∈ x.toDie, (∃ p c, f.data = .cmd p c) ∨ ∃ a w, f.data = .cfg a w) →
        (∀ (n : Nat) (c : Sent), s.portWait 29 = [(n, c)] → s.portWait 30 = [] → c.at_ ≤ addNs s.now (s.linkNs + 1) →
          isOwTest c.cmd = false → s.cellBusy = false → Answers s (.senseStart true false) (fun t =>
            t.portWait 29 = [] ∧ t.sense.toDie = [] ∧ ∃ w, t.sense.cellWin = some w ∧ w.since = s.el + s.linkNs ∧
              w.len = windowNs (measTc c.cmd) ∧ w.est = decide (c.cmd / 32 % 2 = 1) ∧
              w.cmds = [{ port := 29, tile := n, lanes := c.lanes }] ∧ w.bad = s.badWires ∧ w.gone = s.undelivered ∧
              w.gts = s.stampAt (s.snsInstant w.len) pathSense)) ∧
        (∀ (n : Nat) (c : Sent), s.portWait 31 = [(n, c)] → c.at_ ≤ addNs s.now (s.linkNs + 1) → isOwTest c.cmd = false →
          x.thermWin = none → x.thermFree ≤ s.el → Answers s (.senseStart false true) (fun t =>
            t.portWait 31 = [] ∧ ∃ w, t.sense.thermWin = some w ∧ w.since = s.el + s.linkNs ∧
              w.len = windowNs (measTc c.cmd) ∧ w.cmds = [{ port := 31, tile := n, lanes := c.lanes }] ∧
              w.gts = s.stampAt (s.snsInstant w.len) pathSense))) ∧
      (∀ (w : SnsWin) (codes : List Int), x.cellWin = some w → w.since + w.len ≤ s.el →
        Answers s (.senseWindowClose true codes) (fun t => t.sense.cellWin = none ∧ t.sense.cellFree = s.el + 20000 ∧
          ∀ k : Fin 18, ∃ f ∈ t.sense.toCore, ∃ r, f.data = .result r ∧ (r.port, r.chan) = cellChannel (k + 1) ∧
            r.code = satI 24 (codes.getD k 0) ∧ r.gts = w.gts ∧ r.skip = w.gone.contains (k + 1) ∧
            ((∃ b ∈ w.bad, (wireCells b).contains (k + 1) = true) → r.ow = true))) ∧
      (∀ (w : SnsWin) (codes : List Int), x.thermWin = some w → w.since + w.len ≤ s.el →
        Answers s (.senseWindowClose false codes) (fun t => t = { s with sense := t.sense } ∧ t.sense.thermWin = none ∧
          ∀ i : Fin 8, ∃ f ∈ t.sense.toCore, ∃ r, f.data = .result r ∧ r.port = 31 ∧ r.chan = i + 1 ∧ r.gts = w.gts ∧
            r.code = max 0 (min 8388607 (codes.getD i 0)) ∧
            r.ow = decide (((s.cfld SNS_THCFG.addr SNS_THCFG.OPENTH * 128 : Nat) : Int) ≤ r.code))) ∧
      (∀ r n b rest c, x.toCore = { data := .result r, fails := n, sent := b } :: rest → r.cmds = [c] →
        s.startNear 759 = false →
        (r.skip = false → Answers s (.senseResult false) (fun t =>
          t = { s with sense := t.sense, tiles := t.tiles, regs := t.regs } ∧
          t.sense.toCore = rest ∧ (t.tile c.tile).held = (s.tile c.tile).held ++
            [{ lanes := c.lanes, gts := r.gts, epoch := r.epoch, val := .channels [(r.chan, r.code, r.ow)], ow := false
               late := false, arrived := s.el }] ∧
          (∀ k, channelCell r.port r.chan = some k → r.est = true → s.cfld SNS_ESTCFG.addr SNS_ESTCFG.EN = 1 →
            r.ow = false → r.code ≠ 8388607 → r.code ≠ -8388608 → Tab.find x.cells k = none →
            (Tab.get Cell.reset t.sense.cells k).vbar = some (r.code : Rat)))) ∧
        (let lost (t : State) : Prop := ∀ l : Fin 16, c.lanes.getLsbD l = true →
          s.cfld (TILE_LSRC.addr c.tile l) TILE_LSRC.EN = 1 → s.cfld (TILE_LSRC.addr c.tile l) TILE_LSRC.SEL = r.chan →
          (t.lane c.tile l).miss = true
        (r.skip = true → Answers s (.senseResult false) (fun t => t.tiles = s.tiles ∧ t.sense.toCore = rest ∧ lost t)) ∧
        Answers s (.senseResult true) (fun t => t.tiles = s.tiles ∧ t.linkUp = false ∧ lost t))))

/-- OWTEST_START, OWTEST_WINDOW_A_CLOSE, OWTEST_VERDICT, OWTEST_RECOVERY_END, SENSE_VERDICT, SNS_COMMIT, SNS_OWRUN_SNAPSHOT and
SNS_EZ_SNAPSHOT: an OWTEST goes through window A, injection, verdict and recovery, and the verdict crosses in a VERDICT
frame; an inner wire whose two cells move apart by OWTH and together by at most PSTOL is OPEN; an OPEN verdict is reported
and CLRN + 1 INTACT verdicts in a row clear a wire; a commit is refused unless the OCV table rises, and is sent to the
sense die; a read snapshots what belongs to it, R227, R229, R230, R233, R236, R243, R244 and R246. -/
def Obligations.OpenWiresAreFound : Prop :=
  ∀ (s : State) (v : Word), Reached s SNS_COMMIT.addr →
    let x := s.sense
    (∀ o codes, x.ow = some o →
      (o.phase = .waiting → Answers s .owtestStart (fun t =>
        t.sense.ow = some { o with phase := .windowA, since := s.el } ∧ t.sense.wires = x.wires)) ∧
      (o.phase = .windowA → o.since + s.tow ≤ s.el → Answers s (.owtestWindowAClose codes) (fun t =>
        t.sense.ow = some { o with phase := .injecting, since := s.el, codesA := cellCodes codes } ∧
        t.sense.cellFree = s.el + 20000)) ∧
      (o.phase = .injecting → o.since + s.tinj ≤ s.el → Answers s (.owtestVerdict codes) (fun t =>
        let u := s.owSwitchB o
        t.sense.ow = some { o with phase := .recovery, since := s.el } ∧
        t.sense.toCore.getLast? = some { data := .verdict o.wire (owVerdict o.wire (u.cfld SNS_OWTH.addr SNS_OWTH.OWTH)
          (u.cfld SNS_OWTH.addr SNS_OWTH.PSTOL) o.codesA (cellCodes codes)) } ∧
        (x.pendOw = false → u = s) ∧
        (x.pendOw = true → x.pendAt + s.tow ≤ o.since + s.tinj →
          ∀ a, SNS_OWCFG.addr ≤ a → a < SNS_OWOPEN.addr → u.cword a = s.pword a))) ∧
      (o.phase = .recovery → o.since + s.cfld SNS_OWCFG.addr SNS_OWCFG.TREC * 100000 ≤ s.el →
        exec .owtestRecoveryEnd s = .next { s with sense := { x with ow := none } })) ∧
    (∀ (k : Nat) (owth pstol : Int) (a b : List Int), 2 ≤ k → k ≤ 18 →
      let p := b.getD (k - 2) 0 - a.getD (k - 2) 0
      let q := b.getD (k - 1) 0 - a.getD (k - 1) 0
      owVerdict k owth pstol a b =
        if p ≤ -owth ∧ owth ≤ q ∧ ((p + q).natAbs : Int) ≤ pstol then 2
        else if (p.natAbs : Int) < owth ∧ (q.natAbs : Int) < owth then 1 else 3) ∧
    (∀ (k : Fin 20) (n : Fin 4) m b rest, x.toCore = { data := .verdict k n, fails := m, sent := b } :: rest →
      s.linkUp = true → s.startNear 759 = false →
      Answers s .senseVerdict (fun t => t.sense.toCore = rest ∧
        (t.reg SNS_OWSUSP.addr).getLsbD k = decide ((t.wire k).st = 1) ∧
        (n.val = 0 → t.wire k = s.wire k) ∧
        (n.val ≠ 0 → t.fld SNS_OWLAST.addr SNS_OWLAST.WIRE = k ∧
          t.fld SNS_OWLAST.addr SNS_OWLAST.VERDICT = n ∧ (t.wire k).tested = true) ∧
        (n.val = 2 → (t.wire k).st = 2 ∧ ((s.wire k).st ≠ 2 → 
          Raised s t { level := 4, cause := 0x0023, unit := 0x1500, gts := s.stamp pathCoarse, detail := k })) ∧
        (n.val = 1 → s.cfld SNS_OWCFG.addr SNS_OWCFG.CLRN ≤ (s.wire k).run → (t.wire k).st = 0) ∧
        (n.val = 1 → (s.wire k).st ≠ 0 → (s.wire k).run < s.cfld SNS_OWCFG.addr SNS_OWCFG.CLRN →
          (t.wire k).st = (s.wire k).st ∧ (t.wire k).run = (s.wire k).run + 1) ∧
        (n.val = 3 → (t.wire k).st = (s.wire k).st ∧
          t.fld SNS_OWRUN.addr SNS_OWRUN.INCON = min 65535 (s.fld SNS_OWRUN.addr SNS_OWRUN.INCON + 1)))) ∧
    (fget v SNS_COMMIT.GO = 1 →
      (s.socRising = true → Answers s (.snsCommit .keeper v) (fun t =>
        t = { s with pset := t.pset, regs := t.regs, sense := t.sense } ∧
        t.sense = { x with
          wanted := true, pendOw := true, pendTh := true, pendEst := true, pendAt := s.el
          cells := if s.estChanged then [] else x.cells
          toDie := if s.linkUp then x.toDie ++ t.configFrames else x.toDie } ∧
        t.fld SNS_STATUS.addr SNS_STATUS.PENDING = 1 ∧ t.fld SNS_STATUS.addr SNS_STATUS.CERR = 0 ∧
        ∀ a, SNS_OWCFG.addr ≤ a → a < SNS_SOCT.addr 17 → t.pword a = s.reg a)) ∧
      (s.socRising = false → Answers s (.snsCommit .keeper v) (fun t =>
        t = { s with regs := t.regs, sense := { x with wanted := true } } ∧
        t.fld SNS_STATUS.addr SNS_STATUS.REFUSED = 1 ∧ t.fld SNS_STATUS.addr SNS_STATUS.CERR = 1))) ∧
    Answers s (.snsOwrunSnapshot .keeper) (fun t =>
      t = { s with snaps := t.snaps, rdata := t.rdata, regs := t.regs, sense := { x with wanted := true } } ∧
      Tab.get 0 t.rdata 0 = s.reg SNS_OWRUN.addr ∧ t.fld SNS_OWRUN.addr SNS_OWRUN.INCON = 0 ∧
      Tab.get [] t.snaps (snapKey .keeper SNS_OWRUN.addr) = [s.reg SNS_OWRUN.addr, s.reg SNS_OWFIX.addr]) ∧
    (∀ k : Fin 18, Answers s (.snsEzSnapshot .keeper k) (fun t =>
      t = { s with snaps := t.snaps, rdata := t.rdata, sense := { x with wanted := true } } ∧
      Tab.get 0 t.rdata 0 = (s.cellWords (k + 1)).getD 0 0 ∧
      Tab.get [] t.snaps (snapKey .keeper (SNS_EZ.addr (k + 1))) = s.cellWords (k + 1)))


/-! ## Host ports and OHP -/

/-- What a host does on a port that serves: READ (with words that come late), WRITE to a register, into the inbound ring and where
it is discarded, the two-wire form, HPn_INPROD, HPn_OUTACK, ABORT, HPn_ATTN, HPn_CFG and HWAKEn, R319 to R327, R331, R332, R334,
R338 and R431. A first access to a port that has accepted an entry aborts it (R441). -/
def Obligations.HostsReachTheirPorts : Prop :=
  ∀ (s : State) (n : Fin 4) (v : Word) (o : Nat) (k : BitVec 7), s.hostReady n = true →
    let cfg := writeWord HP_CFG.fields (s.reg (HP_CFG.addr n)) v
    let base := (s.reg (HP_INBASE.addr n)).toNat
    let clocked := (s.port n).twoWire = false
    let awake := s.pwr.entry = none ∧ s.sup.descent = none
    let up : State := { s with pwr := { s.pwr with hwake := s.pwr.hwake ||| BitVec.ofNat 4 (2 ^ n.val) } }
    let down : State := { s with pwr := { s.pwr with hwake := s.pwr.hwake &&& ~~~(BitVec.ofNat 4 (2 ^ n.val)) } }
    (∀ e, s.pwr.entry = some e → e.phase ≠ .powerDown → s.yielded (0x1100 + n) = true →
      exec (.inprodWrite n v) s = .next ((s.abortEntry 0x07 0).writeInprod n v)) ∧
    (s.yielded (0x1100 + n) = false →
    (clocked → Answers s (.read n 0x04002004 1 0) (fun t => Tab.get [] t.snaps (hostKey n) = [s.hpStatus n])) ∧
    (clocked → s.fld (HP_CFG.addr n) HP_CFG.DUMMY < 16 → Answers s (.read n 0x04002004 1 1) (fun t =>
      Tab.get [] t.snaps (hostKey n) = [0xFFFFFFFF] ∧
      t.fld (HP_ERR.addr n) HP_ERR.LATE = min 0xFFFF (s.fld (HP_ERR.addr n) HP_ERR.LATE + 1))) ∧
    (clocked → exec (.write n 0x04002008 [v] false) s = .next (s.setReg (HP_CFG.addr n) cfg)) ∧
    (clocked → s.ringsUp n = true → o < 0x800 → o % 4 = 0 →
      Answers s (.write n (BitVec.ofNat 32 (0x04000000 + o)) [v] false) (fun t =>
        memReadWord t.mem (base + o) = v ∧ SameMemOutside s t (base + o) (base + o + 4) ∧ t.regs = s.regs)) ∧
    (clocked → Answers s (.write n 0x04001000 [v] false) (fun t => t.mem = s.mem ∧
      t.fld (HP_ERR.addr n) HP_ERR.DISC = min 0xFFFF (s.fld (HP_ERR.addr n) HP_ERR.DISC + 1))) ∧
    ((s.port n).twoWire = true → k.toNat = s.twaddr n →
      exec (.twoWireHostAccess n k ([0x04, 0x00, 0x20, 0x08] ++ leBytes 4 v.toNat) 0) s =
        .next (s.setReg (HP_CFG.addr n) cfg)) ∧
    Answers s (.inprodWrite n v) (fun t => t.fld (HP_INPROD.addr n) HP_INPROD.SEQ = v.toNat % 65536 ∧
      ((s.port n).session = none → (t.port n).announced = (s.port n).announced ++ [v.toNat % 65536]) ∧
      ((s.port n).session ≠ none → t.port n = s.port n)) ∧
    Answers s (.outackWrite n v) (fun t => t.fld (HP_OUTACK.addr n) HP_OUTACK.SEQ = v.toNat % 65536) ∧
    (v.getLsbD 31 = true → s.served = true → Answers s (.abort n v) (fun t =>
      (t.port n).taken = [] ∧ (t.port n).assembly = none ∧ (t.port n).announced = [] ∧
      t.fld (HP_INACK.addr n) HP_INACK.SEQ =
        (if s.portBusy n then s.fld (HP_INACK.addr n) HP_INACK.SEQ else s.fld (HP_INPROD.addr n) HP_INPROD.SEQ) ∧
      t.fld (HP_CTL.addr n) HP_CTL.ABORT = b2n (s.portBusy n))) ∧
    Answers s (.attnClear n v) (fun t => t = { s with regs := t.regs } ∧
      t.fld (HP_ATTN.addr n) HP_ATTN.WAKE = (if v.getLsbD 3 then 0 else s.fld (HP_ATTN.addr n) HP_ATTN.WAKE) ∧
      t.fld (HP_ATTN.addr n) HP_ATTN.RULE = (if v.getLsbD 0 then 0 else s.fld (HP_ATTN.addr n) HP_ATTN.RULE) ∧
      t.fld (HP_ATTN.addr n) HP_ATTN.ENRULE = fget v HP_ATTN.ENRULE ∧
      t.fld (HP_ATTN.addr n) HP_ATTN.ENMSG = fget v HP_ATTN.ENMSG) ∧
    Answers s (.hpnCfgWrite n v) (fun t => t = { s with regs := t.regs } ∧
      t.fld (HP_CFG.addr n) HP_CFG.LANES = fget v HP_CFG.LANES ∧ t.fld (HP_CFG.addr n) HP_CFG.DDR = fget v HP_CFG.DDR ∧
      t.fld (HP_CFG.addr n) HP_CFG.DUMMY = fget v HP_CFG.DUMMY ∧ t.fld (HP_CFG.addr n) HP_CFG.TWADDR = fget v HP_CFG.TWADDR) ∧
    (awake → s.pwr.hwake.getLsbD n = false → up.target = s.mode → Answers s (.hwakeTaken n) (fun t =>
      t.pwr = up.pwr ∧ t.mode = s.mode ∧ t.fld (HP_ATTN.addr n) HP_ATTN.WAKE = 1)) ∧
    (awake → down.target = s.mode → Answers s (.hwakeRelease n) (fun t => t.pwr = down.pwr ∧ t.mode = s.mode)))

/-- Port n's next slot after s is the one-slot message x, and nothing waits behind it, R329 and R332. -/
def SlotSent (s t : State) (n : Nat) (x : OutMsg) : Prop :=
  let seq := (s.fld (HP_OUTPROD.addr n) HP_OUTPROD.SEQ + 1) % 65536
  t.fld (HP_OUTPROD.addr n) HP_OUTPROD.SEQ = seq ∧ (t.port n).outWait = [] ∧
  memReadBytes t.mem (outRing n + 64 * (seq % 64)) 64 =
    slotBytes seq (s.fld (HP_INACK.addr n) HP_INACK.SEQ) x.op x.status x.payload.length 0 x.payload

/-- SLOT_TAKE takes one slot of the port whose turn it is, R331 and R342: the expected slot of a session, which ends a message
where its CHAN is 0 and none is being assembled; a slot with another SEQ, which is a gap (R339); without a session, the next
slot announced; an abort that waited for a message is completed first (R338). An EVENT record and a core's message go to a subscribed port's queue, or as one slot where nothing waits there
and the ring has room, and change no other port; a record of cause 0xC0 to 0xEF becomes an alarm instead; FAULT_REPORT takes
the head of FAULT and sends it to a port with SUBS bit 24 in the same way, R352 to R355. HELLO chooses the version, or answers
BAD_VERSION, with a fresh session or the old one; IDENTIFY, STATE_REPORT and TIME_GET answer; TIME_SET judges a claim for NOW,
holds one for the next PPS or an edge, replaces one that waits and refuses an edge that does not exist; ALARM acknowledges a
pending alarm and refuses another, R70, R335, R336, R345 and R346. A reply goes out as one slot where the outbound ring is
free, R332 and R340. -/
def Obligations.MessagesAreTakenAndAnswered : Prop :=
  ∀ (s : State) (n : Fin 4) (c : Fin 16) (m m0 : Msg) (r : EvRec) (rest : List EvRec) (f : FaultRec) (fs : List FaultRec)
    (st q : Nat) (b : List Byte) (v : Nat) (j : Journal) (l : List Msg) (k : Claim),
    let p := s.port n
    let u := s.tookFrom n
    let one (sub : Bool) (t : State) (x : OutMsg) (e : PortEv) : Prop :=
      (sub = false → t.port n = p) ∧
      (sub = true → p.outWait = [] → s.room n false = false → p.evq.length < 256 → (t.port n).evq = p.evq ++ [e]) ∧
      (sub = true → p.outWait = [] → s.room n false = false → 256 ≤ p.evq.length →
        (t.port n).evq = p.evq ∧ (t.port n).evLost = min 255 (p.evLost + 1)) ∧
      (sub = true → p.outWait = [] → p.evq = [] → s.room n false = true → SlotSent s t n x)
    let turn := s.ohp.turn
    let o := s.port turn
    let expected := (s.fld (HP_INACK.addr turn) HP_INACK.SEQ + 1) % 65536
    let slot := s.load (inRing turn + 64 * (expected % 32)) 64
    let rx := Tab.get (s.now, s.el) o.rx (expected % 32)
    let taken (t : State) (a : Nat) : Prop := t.ohp.turn = (turn + 1) % 4 ∧ t.fld (HP_INACK.addr turn) HP_INACK.SEQ = a
    let mb := s.mailbox c
    (s.heldAbort = some n.val → Answers s .slotTake (fun t =>
      t.fld (HP_INACK.addr n) HP_INACK.SEQ = s.fld (HP_INPROD.addr n) HP_INPROD.SEQ ∧
      t.fld (HP_CTL.addr n) HP_CTL.ABORT = 0 ∧ (t.port n).taken = [])) ∧
    (turn < 4 → s.heldAbort = none → s.takeable turn = true → o.session.isSome = true → leAt slot 0 2 = expected →
      Answers s .slotTake (fun t => taken t expected ∧
        (o.assembly = none → o.resync = false → o.taken = m0 :: l → s.refusalOf turn m0 = 0 → leAt slot 6 1 ≤ 56 →
          leAt slot 7 1 = 0 → (t.port turn).assembly = none ∧
          (t.port turn).taken = o.taken ++ [{ seq := expected, op := leAt slot 4 1, lens := [leAt slot 6 1]
                                              payload := slice slot 8 (leAt slot 6 1), at_ := rx.1, since := rx.2 }]))) ∧
    (turn < 4 → s.heldAbort = none → s.takeable turn = true → o.session.isSome = true → leAt slot 0 2 ≠ expected →
      Answers s .slotTake (fun t => taken t (s.fld (HP_INPROD.addr turn) HP_INPROD.SEQ) ∧ (t.port turn).resync = true ∧
        (t.port turn).assembly = none)) ∧
    (turn < 4 → s.heldAbort = none → s.takeable turn = true → o.session = none → o.announced.head? = some q → q < 65536 →
      Answers s .slotTake (fun t => taken t q ∧ (t.port turn).announced = o.announced.drop 1)) ∧
    (s.served = true → s.events = r :: rest → r.cause < 0xC0 ∨ 0xEF < r.cause → Answers s .event (fun t => t.events = rest ∧
      one (s.subscribed n (subsBit r)) t { op := 0x40, status := 0, reply := false
                                           payload := [0] ++ leBytes 1 p.evLost ++ [1, 0] ++ eventBytes r } (.record r))) ∧
    (s.served = true → s.events = r :: rest → 0xC0 ≤ r.cause → r.cause ≤ 0xEF → s.sec.profile = none → s.flxLed = false →
      Answers s .event (fun t => t.events = rest ∧
        (s.ohp.alarms.length < 64 → t.ohp.alarms = s.ohp.alarms ++ [s.ohp.nextAlarm]) ∧
        (64 ≤ s.ohp.alarms.length → t.ohp.alarms = s.ohp.alarms ∧ t.ohp.alarmOverflow = true))) ∧
    (s.served = true → mb.send = true → Answers s (.coreMessage c) (fun t => t.mailbox c = { mb with send := false } ∧
      one (s.subscribed n (8 + c.val) && decide (0x21 ≤ p.session.getD 0)) t
        { op := 0x40, status := 0, reply := false
          payload := [1] ++ leBytes 1 p.evLost ++ [1, 0] ++ leBytes 1 (c / 2) ++ leBytes 1 (c % 2) ++ [0, 0] ++ mb.outBytes }
        (.message c mb.outBytes))) ∧
    (s.served = true → s.faults = f :: fs → Answers s .faultReport (fun t =>
      let x : OutMsg := { op := 0x42, status := 0, reply := false
                          payload := faultPayload (p.session.getD 0) f.level f.cause f.unit f.gts f.detail none }
      (s.faultLost = 0 → t.faults = fs) ∧
      (s.faultLost ≠ 0 → t.faultLost = 0 ∧
        t.faults = fs ++ [{ level := 4, cause := 0x00FF, unit := 0, gts := s.faultLostGts, detail := s.faultLost }]) ∧
      (s.subscribed n 24 = false → t.port n = p) ∧
      (s.subscribed n 24 = true → p.outWait = [] → s.room n false = true → SlotSent s t n x) ∧
      (s.subscribed n 24 = true → p.outWait = [] → s.room n false = false → (t.port n).outWait = [x]))) ∧
    (p.outWait = [] → s.room n true = true → b.length ≤ 54 →
      let seq := (s.fld (HP_OUTPROD.addr n) HP_OUTPROD.SEQ + 1) % 65536
      SlotSent s (s.reply n m st b) n { op := m.op + 0x80, status := st, reply := true, payload := leBytes 2 m.seq ++ b } ∧
      SameMemOutside s (s.reply n m st b) (outRing n + 64 * (seq % 64)) (outRing n + 64 * (seq % 64) + 64)) ∧
    (Serves s n m →
      let claim (kd : ClaimKind) : Claim :=
        { kind := kd, time := BitVec.ofNat 80 (m.at 4 5 * 2 ^ 40 + m.at 9 5), unc := BitVec.ofNat 16 (m.at 14 2)
          force := decide (0x20 ≤ p.session.getD 0) && decide (m.at 2 1 % 2 = 1), since := m.since, seq := m.seq, op := m.op }
      let held (kd : ClaimKind) (w : State) : State :=
        w.setTime { w.time with claims := Tab.put w.time.claims n (claim kd) }
      (m.op = 0x01 → commonVersion s.ohp.recovery (m.at 0 1) (m.at 1 1) = some v → m.at 2 1 % 2 = 0 →
        let w := u.setPort n { u.port n with
          session := some v, hostId := slice m.payload 4 8, announced := [], resync := false
          subs := if p.session.isSome then p.subs else 0x03000000 }
        Replies s (.hello n) n m stOk (leBytes 1 v ++ [0x24, 0x10] ++ leBytes 1 n ++ leBytes 8 identityWord.toNat ++
          leBytes 2 (w.nextReplySeq n) ++ [32, 64] ++ (if 0x20 ≤ v then leBytes 2 s.ohp.epoch else [])) w) ∧
      (m.op = 0x01 → commonVersion s.ohp.recovery (m.at 0 1) (m.at 1 1) = some v → m.at 2 1 % 2 = 1 →
        Answers s (.hello n) (fun t => (t.port n).session = some v ∧ (t.port n).announced = [] ∧
          (t.port n).hostId = slice m.payload 4 8 ∧ (t.port n).subs = 0x03000000)) ∧
      (m.op = 0x01 → s.ohp.recovery = false → commonVersion false (m.at 0 1) (m.at 1 1) = none →
        Replies s (.hello n) n m stBadVersion [0x10, 0x21] (u.setPort n { u.port n with session := none, announced := [] })) ∧
      (m.op = 0x02 → s.journal = some j → s.ohp.recovery = false → p.session = some v →
        Replies s (.identify n) n m stOk (leBytes 8 identityWord.toNat ++ [2, 4] ++ leBytes 2 j.version ++
          leBytes 1 j.active ++ leBytes 1 (if j.trial then j.trials else 0) ++
          (if v < 0x21 then [] else leBytes 1 s.sec.hostKeys.length ++ [0, 0, 0] ++
            slice (Config.sha256 devicePublic) 0 32)) u.drawn) ∧
      (m.op = 0x03 → Replies s (.stateReport n) n m stOk (u.stateReport n 0) u) ∧
      (m.op = 0x11 → Replies s (.timeGet n) n m stOk (leBytes 1 (floatCode s.time.state) ++ leBytes 1 s.sourceShown ++
        leBytes 1 s.epoch ++ leBytes 1 (b2n (decide (s.time.pll = .locked)) + 2 * s.fld TB_STATUS.addr TB_STATUS.STEPPED) ++
        gtsBytes (s.stamp 0)) u) ∧
      (m.op = 0x10 → Tab.find s.time.claims n = none →
        (m.at 0 1 = 0 →
          let g := u.submitClaim ((claim .now).time - m.at_).toInt (uncSq (claim .now).unc + pathCoarse) (claim .now).force
          exec (.timeSet n) s = .next (g.1.claimReply n (claim .now) g.2.1 g.2.2)) ∧
        (m.at 0 1 = 1 → exec (.timeSet n) s = .next (held .nextPps u)) ∧
        (m.at 0 1 = 2 → 0x11 ≤ p.session.getD 0 → m.at 1 1 < 48 →
          exec (.timeSet n) s = .next (held (.edge (m.at 1 1)) u)) ∧
        ((m.at 0 1 = 2 ∧ 48 ≤ m.at 1 1) ∨ 2 < m.at 0 1 → Replies s (.timeSet n) n m stNoResource [] u)) ∧
      (m.op = 0x10 → Tab.find s.time.claims n = some k → m.at 0 1 = 1 →
        exec (.timeSet n) s = .next (held .nextPps
          ((u.setTime { u.time with claims := Tab.del u.time.claims n }).claimReply n k 2 stOk))) ∧
      (m.op = 0x41 → m.at 0 2 ∈ s.ohp.alarms → Answers s (.alarm n) (fun t =>
        t.ohp.alarms = s.ohp.alarms.erase (m.at 0 2) ∧
        t.ohp.alarmOverflow = (s.ohp.alarmOverflow && !(s.ohp.alarms.erase (m.at 0 2)).isEmpty))) ∧
      (m.op = 0x41 → m.at 0 2 ∉ s.ohp.alarms → Replies s (.alarm n) n m stNoResource [] u))

/-- The messages that set modes, claim units, set roles, configure, load, open batches, map windows, read the log and send to a
local core: each where its checks pass, R343 to R345, R347 to R351, R356 to R358, R431, R436, R530 and R568. The handle in the
last one's reply is the free value of log entry 42. -/
def Obligations.MessagesConfigureThePart : Prop :=
  ∀ (s : State) (n : Fin 4) (m : Msg) (tile : Fin 32) (d : List Byte), Serves s n m →
    let u := s.tookFrom n
    let v := (s.port n).session.getD 0
    let cls := m.at 3 1
    let inst := m.at 0 2
    let floors (x : State) (mode : Nat) : State :=
      (x.setFld PWR_FLOOR.addr (PWR_FLOOR.HOLD n) 1).setFld PWR_FLOOR.addr (PWR_FLOOR.MODE n) mode
    let e := nextEpoch s.ohp.epoch
    let r := m.at 1 1
    let h := m.at 0 1
    let c := m.at 2 2
    (m.op = 0x12 → m.at 0 1 = s.mode → 4 ≤ s.mode → s.mode < 8 → m.at 1 1 = 1 → s.inTransition = false →
      s.pwr.entry = none → s.pwr.modeWaits = [] → (floors s s.mode).target = s.mode → Answers s (.modeSet n) (fun t =>
        t.fld PWR_FLOOR.addr (PWR_FLOOR.HOLD n) = 1 ∧ t.fld PWR_FLOOR.addr (PWR_FLOOR.MODE n) = s.mode ∧
        t.mode = s.mode ∧ t.pwr.modeWaits = [])) ∧
    (m.op = 0x50 → m.at 2 1 = 0 → m.at 4 2 = 1 → inst < classSize cls → s.ownerOf cls inst = 0 →
      Answers s (.resourceClaim n) (fun t => t.ownerOf cls inst = hostOwner n)) ∧
    (m.op = 0x51 → m.at 2 1 = 0 → m.at 4 2 = 1 → inst < classSize cls → s.ownerOf cls inst = hostOwner n →
      Answers s (.resourceRelease n) (fun t => t.ownerOf cls inst = 0)) ∧
    (m.op = 0x52 → m.at 0 1 = 0 → Replies s (.roleSetQuery n) n m stOk (s.roleFields r ++
      (let l := s.ohp.roles.filterMap (fun x => x.2.cluster.map (fun c => leBytes 1 x.1 ++ leBytes 1 c ++ leBytes 2 x.2.epoch))
       leBytes 1 l.length ++ l.flatten)) u) ∧
    (m.op = 0x52 → m.at 0 1 = 1 → s.notHeld n 1 (m.at 2 1) = none → m.at 4 2 = (s.role r).epoch →
      Answers s (.roleSetAssign n) (fun t => t.role r = { cluster := some (m.at 2 1), epoch := e } ∧ t.ohp.epoch = e ∧
        ∀ k, k ≠ r → (t.role k).cluster ≠ some (m.at 2 1))) ∧
    (m.op = 0x52 → m.at 0 1 = 2 → m.at 4 2 = (s.role r).epoch → Answers s (.roleSetClear n) (fun t =>
      t.role r = { s.role r with cluster := none } ∧ t.ohp.epoch = e)) ∧
    (m.op = 0x20 → m.len = 14 → m.at 0 1 = 0x0B → m.at 1 1 = 0 → m.at 2 1 = 0 → m.at 8 2 = 0 →
      Replies s (.laneConfig n) n m stOk [0, 0, 0, 0, 0, 0]
        (u.setPort n { u.port n with subs := Word.ofNat (m.at 10 4) &&& 0x07FFFFFF })) ∧
    (m.op = 0x21 → m.len = 16 → m.at 0 1 = tile → m.at 1 1 = 8 → s.notHeld n 2 tile = none → s.isOn (0x0200 + tile) = true →
      let w := u.writeRegister .keeper (TILE_PERIOD.addr tile) (Word.ofNat (m.at 8 4))
      Replies s (.scheduleLoad n) n m stOk
        ([0, 0] ++ leBytes 4 (readWord TILE_STATUS.fields (w.shown (TILE_STATUS.addr tile))).toNat) w) ∧
    (m.op = 0x22 → ∀ c mask ws w, s.rulePlan n v m = .ok (c, mask, ws) → (s.slice c).pending = none →
      s.isOn (0x0300 + c) = true →
      (ws.foldl (fun s x => s.writeRegister .keeper x.1 x.2) u).tried (RS_STATUS.addr c) RS_STATUS.REFUSED
        (fun s => s.ruleCommit c mask) = (w, false) →
      Replies s (.ruleLoad n) n m stOk [0, 0] w) ∧
    (m.op = 0x23 → s.modelRefusal n m = none → m.at 1 1 = 0 → s.isOn 0x1400 = true →
      Replies s (.modelLoad n) n m stOk [0, 0] (u.store (weightBase + m.at 4 4 + m.at 12 4) (m.payload.drop 16))) ∧
    (m.op = 0x30 → s.isOn 0x1300 = true → s.ownerOf 8 h = 0 → (s.handle h).st = .free → m.at 1 1 ≤ 39 →
      s.rcfg (m.at 1 1) LOG_RCFG.EN = 1 → m.at 2 1 = 1 →
      Replies s (.batchOpen n) n m stOk (((u.setOwner 8 h (hostOwner n)).batchArm (m.at 1 1) h).batchFields h)
        ((u.setOwner 8 h (hostOwner n)).batchArm (m.at 1 1) h)) ∧
    (m.op = 0x31 → s.isOn 0x1300 = true → s.notHeld n 8 h = none → m.at 1 1 = 0 →
      Replies s (.batchClose n) n m stOk ((u.batchClose h none).batchFields h) (u.batchClose h none)) ∧
    (m.op = 0x32 → s.isOn hwuBlock = true → s.isOn 0x163C = true → m.at 0 1 = 0 →
      Replies s (.windowMap n) n m stOk ([0, 0] ++ leBytes 4 (m.at 4 4) ++ [0, 0, 0, 0]) (u.setWindow n 0)) ∧
    (∀ sec : Nat, m.op = 0x33 → let csp := flashCsp (s.cword LOG_FCFG.addr)
      s.isOn 0x1300 = true → s.isOn (cspBlock csp) = true → s.cfld LOG_FSIZE.addr LOG_FSIZE.SECTORS ≠ 0 →
      s.ownerOf 3 (20 + csp) = 0x1300 → 1 ≤ m.at 6 2 → m.at 6 2 ≤ 48 → m.at 4 2 + m.at 6 2 ≤ 4096 →
      blockCrc (slice d 0 48) (slice d 48 (usedOf d)) = leAt d 28 4 →
      (s.flusher.task = some .erase → s.fsector ≠ sec) →
      Replies s (.logRead n (some (sec, d))) n m stOk ([0, 0] ++ leBytes 4 (m.at 0 4) ++ slice d (m.at 4 2) (m.at 6 2)) u) ∧
    (meshSend 2 m = true → c < 16 → (s.mailbox c).full = true → Replies s (.meshSendLocal n) n m stBusy [] u) ∧
    (meshSend 2 m = true → c < 16 → (s.mailbox c).full = false → ∃ t, u.deliverMbx c (slice m.data 0 32) = some t ∧
      (t.mailbox c).full = true ∧ (∀ k, k ≠ c → t.mailbox k = s.mailbox k) ∧
      Replies s (.meshSendLocal n) n m stOk ([0, 0] ++ leBytes 4 (Config.freeNat s.free)) t.drawn)

/-! ## Two-wire buses and clocked serial ports -/

/-- The two-wire buses: the start of a manual transaction, or a lost arbitration; its end with bytes or an error; the timeout;
the target's reads and writes; clears and their retries; alert responses and the pop of the queue; TWBn_MAN, TWBn_COMMIT and
the switch of the set, R364 to R369, R372 to R377, R379, R384 and R385. -/
def Obligations.TwoWireBusesTransact : Prop :=
  ∀ (s : State) (n : Fin 8) (d : Nat) (j : TwbJob) (l : List Byte) (i b : Byte) (v : Word),
    let x := s.bus n
    let w := s.cword (TWB_DESCA.addr n d)
    let up := s.works (twbBlock n) = true
    let idle := x.setPending = false ∧ s.portWait (12 + n) = [] ∧ s.twbCfg n TWB_CFG.EN = 1 ∧ x.job = none ∧
      x.freeAt ≤ s.el ∧ x.clearing = false ∧ x.stuck = false
    let ended (t : State) (e : Nat) : Prop := t.fld (TWB_STATUS.addr n) TWB_STATUS.MERR = e ∧ (t.bus n).job = none
    let mine := x.job = some j ∧ j.user = .manual ∧ x.manReply = none
    let range (a : Nat) : Prop := TWB_CFG.addr n ≤ a ∧ a < TWB_CFG.addr n + 0x1000
    (up → idle → x.manual = [d] → d < 32 → da w TWB_DESCA.EN = 1 → descKind w < 3 →
      exec (.twbTransactionStart n false) s = .next (s.setBus n { x with
        manual := [], job := some { user := .manual, desc := d, at_ := s.now, late := false, epoch := s.epoch } }) ∧
      exec (.twbTransactionStart n true) s = .next (s.bump (TWB_STAT.addr n) TWB_STAT.ARBLOST 1)) ∧
    (mine → Answers s (.twbTransactionEnd n .anack) (fun t => ended t 1 ∧ (t.bus n).freeAt = s.el + s.bfree n)) ∧
    (mine → s.vioOk 1 = true → Answers s (.twbTransactionEnd n .dnack) (fun t => ended t 2)) ∧
    (mine → s.vioOk 1 = true → j.desc = d → descKind w = 2 → da w TWB_DESCA.PEC = 0 → l.length = da w TWB_DESCA.RLEN →
      l.length ≤ 64 → Answers s (.twbTransactionEnd n (.bytes l)) (fun t => ended t 0 ∧ (∀ k, k < l.length →
        fget (t.reg (TWB_MDATA.addr n (k / 4))) ⟨8 * (k % 4) + 7, 8 * (k % 4), .ro, 0⟩ = (l.getD k 0).toNat))) ∧
    (mine → Answers s (.twbTimeout n) (fun t => ended t 4 ∧ (t.bus n).clearing = true)) ∧
    (s.isTarget n = true → s.yielded (twbBlock n) = false → Answers s (.twbTargetWrite n [i, b] true) (fun t =>
      (t.bus n).index = (i.toNat % 64 + 1) % 64 ∧ (t.tdata n).getD (i.toNat % 64) 0 = b)) ∧
    (s.isTarget n = true → s.yielded (twbBlock n) = false → exec (.twbTargetWrite n (i :: l) false) s =
      .next (s.setBus n { x with index := (i.toNat % 64 + l.length) % 64 })) ∧
    (s.isTarget n = true → s.yielded (twbBlock n) = false → Answers s (.twbTargetRead n d) (fun t => (t.bus n).index = (x.index + d) % 64 ∧
      Tab.get [] t.snaps (targetKey (12 + n)) =
        (wrapBytes (s.tdata n) x.index d).map (fun (y : Byte) => Word.ofNat y.toNat))) ∧
    (up → idle → Answers s (.busClear n .stop) (fun t => (t.bus n).stuck = false ∧ (t.bus n).freeAt = s.el + s.bfree n ∧
      t.fld (TWB_STAT.addr n) TWB_STAT.CLEARS = min 255 (s.fld (TWB_STAT.addr n) TWB_STAT.CLEARS + 1))) ∧
    (up → idle → Answers s (.busClear n .low) (fun t => (t.bus n).stuck = true ∧
      Raised s t { level := 4, cause := 0x0024, unit := twbBlock n, gts := s.stamp pathCoarse, detail := 0 })) ∧
    (up → x.stuck = true → exec (.busClearRetry n .high) s =
      .next (s.setBus n { x with clearing := false, stuck := false, freeAt := s.el })) ∧
    (up → idle → s.twbCfg n TWB_CFG.ALERTEN = 1 → s.vioOk 1 = true → x.alertAt ≤ s.el → x.alerts.length < 4 →
      Answers s (.alertResponse n (.byte b)) (fun t => (t.bus n).alerts = x.alerts ++ [b.toNat / 2])) ∧
    (Reached s (TWB_ALERT.addr n) → v.getLsbD 31 = true → ∀ a r, x.alerts = a :: r →
      exec (.alertPop .keeper n v) s = .next (s.setBus n { x with alerts := r })) ∧
    (Reached s (TWB_MAN.addr n) → v.getLsbD 31 = true → x.manual = [] → x.job = none →
      exec (.twbManGo .keeper n v) s = .next (s.setBus n { x with manual := [v.toNat % 32] })) ∧
    (Reached s (TWB_MAN.addr n) → v.getLsbD 31 = true → x.manual ≠ [] →
      Answers s (.twbManGo .keeper n v) (fun t => t = { s with regs := t.regs } ∧
        t.fld (TWB_STATUS.addr n) TWB_STATUS.MREFUSED = 1)) ∧
    (Reached s (TWB_COMMIT.addr n) → fget v TWB_COMMIT.GO = 1 → s.twbCheck n = 0 →
      Answers s (.twbCommit .keeper n v) (fun t => (t.bus n).setPending = true ∧
        t.fld (TWB_STATUS.addr n) TWB_STATUS.CERR = 0 ∧ ∀ a, range a → t.pword a = s.reg a)) ∧
    (Reached s (TWB_COMMIT.addr n) → fget v TWB_COMMIT.GO = 1 → s.twbCheck n ≠ 0 →
      Answers s (.twbCommit .keeper n v) (fun t => t = { s with regs := t.regs } ∧
        t.fld (TWB_STATUS.addr n) TWB_STATUS.REFUSED = 1 ∧ t.fld (TWB_STATUS.addr n) TWB_STATUS.CERR = s.twbCheck n)) ∧
    (x.setPending = true → x.job = none → x.clearing = false → Answers s (.twbSetSwitch n) (fun t => (t.bus n).setPending = false ∧
      ∀ a, range a → t.cword a = s.pword a))

/-- The clocked serial ports: the start of a manual frame, and before it of one of LOG's; its end, which stores the bytes read in log SRAM and nothing else;
NOSTROBE; the retry and the timeout of a poll; CSPn_MAN; the resumption after wake; the target; CSPn_COMMIT and the switch of the
set, R391 to R395, R397 to R400, R402 and R403. -/
def Obligations.ClockedPortsMoveFrames : Prop :=
  ∀ (s : State) (n : Fin 6) (j : CspJob) (l : List Byte) (i b : Byte) (k : Nat) (v : Word),
    let x := s.csport n
    let e := cspDesc s.cword n j.desc
    let up := s.works (cspBlock n) = true
    let free := x.job = none ∧ x.freeAt ≤ s.el
    let runs := x.job = some j ∧ j.user = .manual ∧ j.again = none
    let ended (t : State) (err : Nat) : Prop := t.fld (CSP_STATUS.addr n) CSP_STATUS.MERR = err ∧ (t.csport n).job = none
    let bank (a : Nat) : Nat := 0x1600 + a / 0x20000
    let range (a : Nat) : Prop := CSP_CFG.addr n ≤ a ∧ a < CSP_CFG.addr n + 0x1000
    let manual : CspMan :=
      { desc := v.toNat % 16, addr := if v.getLsbD 30 then some (s.reg (CSP_MADR.addr n)).toNat else none
        len := if v.getLsbD 29 then some (s.fld (CSP_MLEN.addr n) CSP_MLEN.LEN) else none
        buf := (s.reg (CSP_MBUF.addr n)).toNat }
    (∀ m, up → free → x.setPending = false → x.susp = none → s.portWait (20 + n) = [] → s.logFrame n = none →
      s.cspCfg n CSP_CFG.EN = 1 → s.cspCfg n CSP_CFG.TGT = 0 → x.manual = some m → j = s.manualJob n m → j.desc < 16 →
      e.en = true → j.buf + j.len ≤ 0x800000 →
      (e.dir = 2 → 0 < j.len → s.isOn (bank j.buf) = true ∧ s.isOn (bank (j.buf + j.len - 1)) = true) →
      exec (.cspFrameStart n) s = .next (s.setCsport n { x with manual := none, job := some j })) ∧
    (∀ f r, up → free → x.setPending = false → x.susp = none → s.portWait (20 + n) = [] → s.flushing = true →
      flashCsp (s.cword LOG_FCFG.addr) = n → s.flusher.frames = f :: r → j = s.logJob n f → s.cspCfg n CSP_CFG.EN = 1 →
      s.cspCfg n CSP_CFG.TGT = 0 → j.desc < 16 → e.en = true → Answers s (.cspFrameStart n) (fun t =>
        t = { s with csp := t.csp, flusher := t.flusher } ∧ (t.csport n).job = some j ∧ (t.csport n).manual = x.manual ∧
        t.flusher.frames = r)) ∧
    (runs → s.vioOk 2 = true → e.dir = 1 → e.isPoll = false → l.length = j.len → 0 < j.len → s.pwr.entry = none →
      s.isOn (bank j.buf) = true → s.isOn (bank (j.buf + j.len - 1)) = true →
      Answers s (.cspFrameEnd n l) (fun t => ended t 0 ∧ SameMemOutside s t j.buf (j.buf + j.len) ∧
        memReadBytes t.mem j.buf j.len = l)) ∧
    (runs → s.vioOk 2 = false → e.dir ≠ 1 → Answers s (.cspFrameEnd n []) (fun t => ended t 1 ∧ t.mem = s.mem)) ∧
    (runs → e.dir = 1 → fget e.fmt CSP_DFMT.DDDR = 1 → Answers s (.nostrobe n) (fun t => ended t 1 ∧ t.mem = s.mem)) ∧
    (x.job = some j → j.again = some k → k ≤ s.el →
      exec (.pollRetry n) s = .next (s.setCsport n { x with job := some { j with again := none } })) ∧
    (x.job = some j → j.user = .manual → j.again = some k → e.isPoll = true →
      j.since + Max.max 1 (s.cspCfg n CSP_CFG.PTOUT) * 1000000 ≤ s.el → Answers s (.ptimeout n) (fun t => ended t 2)) ∧
    (Reached s (CSP_MAN.addr n) → v.getLsbD 31 = true → s.manualBusy n = false → exec (.cspManGo .keeper n v) s = .next (s.setCsport n { x with manual := some manual })) ∧
    (Reached s (CSP_MAN.addr n) → v.getLsbD 31 = true → s.manualBusy n = true →
      Answers s (.cspManGo .keeper n v) (fun t => t = { s with regs := t.regs } ∧
        t.fld (CSP_STATUS.addr n) CSP_STATUS.MREFUSED = 1)) ∧
    (up → free → x.susp = some j → exec (.cspResume n) s = .next (s.setCsport n { x with
      susp := none, job := some { j with since := s.el, again := none } })) ∧
    (s.cspTarget n = true → s.yielded (cspBlock n) = false → Answers s (.cspTargetWrite n i [b]) (fun t => (s.cspTdata n).length = 64 ∧
      (t.cspTdata n).getD (i.toNat % 64) 0 = b ∧
      t.fld (CSP_STAT.addr n) CSP_STAT.TWRITE = min 255 (s.fld (CSP_STAT.addr n) CSP_STAT.TWRITE + 1))) ∧
    (s.cspTarget n = true → s.yielded (cspBlock n) = false → Answers s (.cspTargetRead n i k) (fun t => t = { s with snaps := t.snaps } ∧
      Tab.get [] t.snaps (targetKey (20 + n)) =
        (wrapBytes (s.cspTdata n) (i.toNat % 64) k).map (fun (y : Byte) => Word.ofNat y.toNat))) ∧
    (Reached s (CSP_COMMIT.addr n) → fget v CSP_COMMIT.GO = 1 → s.cspCheck n = 0 →
      Answers s (.cspCommit .keeper n v) (fun t => (t.csport n).setPending = true ∧
        t.fld (CSP_STATUS.addr n) CSP_STATUS.CERR = 0 ∧ ∀ a, range a → t.pword a = s.reg a)) ∧
    (Reached s (CSP_COMMIT.addr n) → fget v CSP_COMMIT.GO = 1 → s.cspCheck n ≠ 0 →
      Answers s (.cspCommit .keeper n v) (fun t => t = { s with regs := t.regs } ∧
        t.fld (CSP_STATUS.addr n) CSP_STATUS.REFUSED = 1 ∧ t.fld (CSP_STATUS.addr n) CSP_STATUS.CERR = s.cspCheck n)) ∧
    (x.setPending = true → x.job = none → x.susp = none → Answers s (.cspSetSwitch n) (fun t =>
      (t.csport n).setPending = false ∧ ∀ a, range a → t.cword a = s.pword a))

/-! ## Timers, resources and faults -/

/-- The timers: ARM commits the set and counts from 0, STOP keeps COUNT, expiry sets DONE, a capture queues COUNT or is counted
in COVF, and a read of TMRn_CAP takes the head for the processor that receives the interrupt, R411 to R420. -/
def Obligations.TimersCountAndCapture : Prop :=
  ∀ (s : State) (n : Fin 32) (v w : Word) (r : List Word) (rise : Bool),
    let x := s.timer n
    let ctl := s.fld (TMR_CTL.addr n)
    let captures := s.timerPin n (s.cfld (TMR_PIN.addr n) TMR_PIN.CPIN) = true ∧
      edgeSelected (s.tcfg n TMR_CFG.CEDGE) rise = true ∧ s.isOn (0x2200 + n) = true ∧ s.vioOk 3 = true
    (Reached s (TMR_CTL.addr n) → fget v TMR_CTL.STOP = 0 → s.fld (TMR_CFG.addr n) TMR_CFG.SRC ≠ 5 →
      s.fld (TMR_CFG.addr n) TMR_CFG.CEDGE = 3 → Answers s (.tmrArm .keeper n v) (fun t =>
        (t.timer n).running = true ∧ (t.timer n).count = 0 ∧ (t.timer n).queue = x.queue ∧
        t.cword (TMR_LIMIT.addr n) = s.reg (TMR_LIMIT.addr n) ∧ t.cword (TMR_CFG.addr n) = s.reg (TMR_CFG.addr n) ∧
        t.cword (TMR_PIN.addr n) = s.reg (TMR_PIN.addr n))) ∧
    (Reached s (TMR_CTL.addr n) → fget v TMR_CTL.STOP = 0 → s.fld (TMR_CFG.addr n) TMR_CFG.SRC = 5 →
      s.fld (TMR_PIN.addr n) TMR_PIN.XPIN < 48 → s.timerPin n (s.fld (TMR_PIN.addr n) TMR_PIN.XPIN) = false →
      x.running = false → Answers s (.tmrArm .keeper n v) (fun t =>
        t.timer n = x ∧ t.fld (TMR_STATUS.addr n) TMR_STATUS.NOPIN = 1)) ∧
    (Reached s (TMR_CTL.addr n) → fget v TMR_CTL.ARM = 0 → Answers s (.tmrStop .keeper n v) (fun t =>
      t.timer n = { x with running := false } ∧
      (x.running = true → s.tlimit n ≤ x.count → t.fld (TMR_STATUS.addr n) TMR_STATUS.DONE = 1))) ∧
    (x.running = true → s.tlimit n ≤ x.count → ctl TMR_CTL.IE = 0 →
      exec (.tmrExpiry n) s = .next ((s.setTimer n { x with running := false }).setFld (TMR_STATUS.addr n) TMR_STATUS.DONE 1)) ∧
    (captures → x.queue.length < 4 →
      exec (.tmrCapture n rise) s = .next (s.setTimer n { x with queue := x.queue ++ [Word.ofNat x.count] })) ∧
    (captures → x.queue.length = 4 →
      exec (.tmrCapture n rise) s = .next (s.bump (TMR_STATUS.addr n) TMR_STATUS.COVF 1)) ∧
    (Reached s (TMR_CTL.addr n) → x.queue = w :: r → s.timerReceiver n = some 16 →
      exec (.tmrCapRead .keeper n) s = .next ((s.setTimer n { x with queue := r }).returns 0 w)) ∧
    (Reached s (TMR_CTL.addr n) → x.queue = w :: r → s.timerReceiver n ≠ some 16 →
      exec (.tmrCapRead .keeper n) s = .next (s.returns 0 w)) ∧
    (Reached s (TMR_CTL.addr n) → x.queue = [] → exec (.tmrCapRead .keeper n) s = .next (s.returns 0 0xFFFFFFFF))

/-- CLAIM takes a whole range or nothing, RES_RELEASE frees what its owner holds, QUERY tells the owner; FAULT queues a report,
shows the head and pops it, a record of what was lost entering when space returns; an island that fails is reported once and
restarts; a parity-faulted engine is committed again, R528 to R531, R533 and R535 to R539. -/
def Obligations.UnitsAreClaimedAndFaultsReported : Prop :=
  ∀ (s : State) (p : Side) (v : Word) (l : List (Nat × Nat)) (i o : Nat) (f : FaultRec) (fs : List FaultRec) (isl : Island)
    (e : Fin 256),
    let units := unitRange (s.resReg p RES_RESID.addr) (resCount v)
    let res (t : State) (g : Fld) : Nat := fget (t.resReg p RES_RESULT.addr) g
    let k := (islandUnit isl).1
    let u := (islandUnit isl).2
    let again : State := { s with regs := Tab.copyRange s.cset s.regs (engBase e) (engBase e + 0x200) }.setFld
      (RS_ECFG.addr e) RS_ECFG.KEEPST 0
    let sl := e.val / 32
    (Reached s RES_CMD.addr → units = some l → s.conflict l (s.resOwner p) = none → Answers s (.claim p v) (fun t =>
      (∀ x ∈ l, t.ownerOf x.1 x.2 = s.resOwner p) ∧
      (∀ c n, unitKey c n ∉ l.map (fun x => unitKey x.1 x.2) → t.ownerOf c n = s.ownerOf c n) ∧
      res t RES_RESULT.DONE = 1 ∧ res t RES_RESULT.STATUS = 0)) ∧
    (Reached s RES_CMD.addr → units = some l → s.conflict l (s.resOwner p) = some (i, o) →
      exec (.claim p v) s = .next (s.resResult p 1 i o)) ∧
    (Reached s RES_CMD.addr → units = some l → s.holdsAll l (s.resOwner p) = true → Answers s (.resRelease p v) (fun t =>
      (∀ x ∈ l, t.ownerOf x.1 x.2 = 0) ∧ res t RES_RESULT.DONE = 1 ∧ res t RES_RESULT.STATUS = 0)) ∧
    (Reached s RES_CMD.addr → units = some l → s.holdsAll l (s.resOwner p) = false →
      exec (.resRelease p v) s = .next (s.resResult p 2 0 0)) ∧
    (Reached s RES_CMD.addr → units = some l →
      exec (.query p v) s = .next (s.resResult p 0 0 (s.ownerOf (l.headD (0, 0)).1 (l.headD (0, 0)).2))) ∧
    (∀ a, s.faultWait = [(a, f)] → s.faults.length < 64 → 4 ≤ s.mode →
      exec .faultArrive s = .next { s with faultWait := [], faults := s.faults ++ [f] }) ∧
    (∀ a, s.faultWait = [(a, f)] → s.faults.length = 64 → s.faultLost = 0 → 4 ≤ s.mode →
      exec .faultArrive s = .next { s with faultWait := [], faultLost := 1, faultLostGts := f.gts }) ∧
    (Reached s (FAULT_REC.addr 0) → Answers s (.faultRecSnapshot .keeper) (fun t =>
      t = { s with snaps := t.snaps, rdata := t.rdata } ∧ Tab.get 0 t.rdata 0 = s.headWords.headD 0 ∧
      Tab.get [] t.snaps (snapKey .keeper (FAULT_REC.addr 0)) = s.headWords)) ∧
    (Reached s FAULT_POP.addr → fget v FAULT_POP.GO = 1 → s.faults = f :: fs → s.faultLost = 0 →
      exec (.faultPop .keeper v) s = .next { s with faults := fs }) ∧
    (Reached s FAULT_POP.addr → fget v FAULT_POP.GO = 1 → s.faults = f :: fs → s.faultLost ≠ 0 →
      exec (.faultPop .keeper v) s = .next { s with
        faultLost := 0
        faults := fs ++ [{ level := 4, cause := 0x00FF, unit := 0, gts := s.faultLostGts, detail := s.faultLost }] }) ∧
    (s.islandUp k u = true → Answers s (.islandClock isl) (fun t => t.islandUp k u = false ∧
      t.faultWait = s.faultWait ++ [(s.el, { level := k, cause := 0x0005, unit := u, gts := s.stamp pathCoarse, detail := 0 })])) ∧
    (s.islandUp k u = false → exec (.islandClock isl) s = .next s) ∧
    Answers s (.islandRestart isl) (fun t => t.islandUp k u = true) ∧
    ((s.engine e).faulted = true → Reached s (RS_COMMIT.addr sl) → (s.slice sl).pending = none →
      (again.fld (RS_ECFG.addr e) RS_ECFG.EN = 1 → again.engineCheck e = 0) → Answers s (.engineRecommit e) (fun t =>
        (t.slice sl).pending = some (Word.ofNat (2 ^ (e.val % 32))) ∧ t.pfld (RS_ECFG.addr e) RS_ECFG.KEEPST = 0)) ∧
    ((s.engine e).faulted = false → exec (.engineRecommit e) s = .next s)

/-! ## Power and the supplies -/

/-- The power manager: the target mode and what sets it; the answers to an entry, its refusals and its end; retries,
replays of latched wakes, demands, grants and the end of a wake; the wake sources of KEEP; PWR_COMMIT, PWR_RESTORE and
the discard of saved lists, R424, R430 to R434, R437, R438, R441 to R443 and R445 to R451. -/
def Obligations.PowerEntersAndWakes : Prop :=
  ∀ (s : State) (d : Fin 65536) (n : Fin 8) (k : Fin 8) (rail : Fin 3) (v : Word) (e : Entry) (rise accept : Bool) (l : List Byte)
    (i j t : Nat) (x : Copy),
    let P := s.pwr
    let steady (u : State) : Prop := P.entry = none ∧ u.target = s.mode
    let aimed (u : State) : State := u.setFld PWR_STATUS.addr PWR_STATUS.TARGET s.mode
    let base := s.setFld PWR_BASE.addr PWR_BASE.MODE (fget v PWR_BASE.MODE)
    let floors := s.setReg PWR_FLOOR.addr (writeWord PWR_FLOOR.fields (s.reg PWR_FLOOR.addr) v)
    let asked := P.entry = some e ∧ e.phase = .query ∧ Tab.find e.blocks d = some .asked
    let refused (u : State) (reason : Nat) : Prop := u.pwr.entry = none ∧ u.fld PWR_REFUSE.addr PWR_REFUSE.REASON = reason ∧
      u.fld PWR_REFUSE.addr PWR_REFUSE.BLOCK = d ∧
      u.pwr.retryAt = some (s.el + Max.max 1 (s.fld PWR_CFG.addr PWR_CFG.RETRY) * 1000000)
    let live := P.demands.filter (fun t => decide (s.el < t))
    let down := P.entry = some e ∧ e.phase = .powerDown ∧ s.anyLatched = false ∧ P.modeWaits = []
    let inKeep := s.mode = 1 ∧ P.entry = none ∧ s.sup.descent = none
    let edge := edgeSelected (s.fld PWR_KWAKE.addr PWR_KWAKE.EDGE / 4 ^ k.val % 4) rise = true ∧ s.time.eioLevel.getLsbD k ≠ rise
    let due := (s.reg PWR_KALARM0.addr).toNat + 2 ^ 32 * s.fld PWR_KALARM1.addr PWR_KALARM1.SEC_HI
    let alarm := s.fld PWR_KALARM1.addr PWR_KALARM1.EN = 1 ∧ due ≤ s.time.keep.toNat / 2 ^ 64
    let skim (i : Nat) : Bool := s.fld PWR_SKIM.addr (PWR_SKIM.EN i) = 1
    let sum := crc32 (s.load (savedAt n) 0x1F0) = ofLe (s.load (savedAt n + 0x1F0) 4)
    (s.fld PWR_BASE.addr PWR_BASE.MODE ≤ s.target ∧
      (i < 4 → s.fld PWR_FLOOR.addr (PWR_FLOOR.HOLD i) = 1 → s.fld PWR_FLOOR.addr (PWR_FLOOR.MODE i) ≤ s.target) ∧
      (i < 4 → P.hwake.getLsbD i = true → 4 ≤ s.target) ∧ (P.demands ≠ [] → 2 ≤ s.target)) ∧
    (Reached s PWR_BASE.addr → fget v PWR_BASE.MODE ≠ 0 → steady base →
      exec (.pwrBaseWrite (some .keeper) v) s = .next (aimed base)) ∧
    (Reached s PWR_BASE.addr → fget v PWR_BASE.MODE = 0 → exec (.pwrBaseWrite (some .keeper) v) s = .next s) ∧
    (Reached s PWR_FLOOR.addr → steady floors → exec (.pwrFloorWrite .keeper v) s = .next (aimed floors)) ∧
    (asked → d.val / 256 = 0x17 → i ≠ d → Tab.find e.blocks i = some .asked →
      exec (.blockAnswer d true l) s = .next (s.setBlock d .accepted)) ∧
    (asked → d.val ≠ 0x1300 → s.refuses d e.to_ = none → s.delayMax d e.to_ ≠ 0 →
      exec (.blockAnswer d false l) s = .next (s.setBlock d (.delayed s.el))) ∧
    (asked → d.val = 0x1000 → e.to_ ≤ 3 → s.catchingUp = true → P.modeWaits = [] →
      Answers s (.blockAnswer d accept l) (fun u => refused u 7)) ∧
    (P.entry = some e → Tab.find e.blocks d = some (.delayed t) → t + s.delayMax d e.to_ < s.el → P.modeWaits = [] →
      Answers s (.delayOverrun d) (fun u => refused u 6 ∧ ∃ g,
        Raised s u { level := 4, cause := 0x0025, unit := d, gts := g, detail := s.delayMax d e.to_ })) ∧
    (down → e.to_ = 1 → Answers s .powerDownComplete (fun u => u.mode = 1 ∧ u.pwr.entry = none ∧ u.cores = [] ∧
      u.sup.vcore = 0 ∧ (s.ohp.records = true → u.copies = allDomains.foldl s.copyDomain s.copies) ∧
      (∀ a, a < 0x800000 → memRead u.mem a = 0) ∧
      ∀ a, 0x10000000 ≤ a → a < 0x11000000 → memRead u.mem a = memRead s.mem a)) ∧
    (down → e.to_ ≠ 1 → Answers s .powerDownComplete (fun u => u.pwr.entry = none ∧ u.sup.vcore = vcorePoint e.to_ ∧
      u.sup.fast = decide (6 ≤ e.to_))) ∧
    (P.retryAt = some t → t ≤ s.el → steady (s.setPwr { P with retryAt := none }) →
      exec .entryRetry s = .next (aimed (s.setPwr { P with retryAt := none }))) ∧
    (s.latched 12 = true → (∀ i, i < 12 → s.latched i = false) → s.lowMode = false → steady s →
      s.isOn 0 = true → Answers s .wakeReplay (fun u => (∀ i, i < 49 → u.latched i = (s.latched i && decide (i ≠ 12))) ∧
        u.pwr = P ∧ u.fld PWR_WAKESRC.addr PWR_WAKESRC.SRC = min 12 (s.fld PWR_WAKESRC.addr PWR_WAKESRC.SRC))) ∧
    (steady (s.setPwr { P with demands := live }) → exec .demandLapse s = .next (aimed (s.setPwr { P with demands := live }))) ∧
    (∀ r : WakeReq, s.nextRequest rail = some r → (r.dom / 256 = 3 → s.keptSlice (r.dom % 256) = false) →
      (wakeCredits r.dom ≤ s.freeCredits rail → exec (.wakeGrant rail) s = .next (s.setPwr { P with
        queue := P.queue.filter (fun q => q.dom ≠ r.dom)
        grants := P.grants ++ [{ dom := r.dom, credits := wakeCredits r.dom
                                 ready := s.el + wakeDelay r.dom (s.domState r.dom = .off) }] })) ∧
      (s.freeCredits rail < wakeCredits r.dom → exec (.wakeGrant rail) s = .next s)) ∧
    (∀ g : WakeGrant, P.grants.find? (fun g => g.dom = d.val) = some g → P.waking = false →
      (s.el < g.ready → exec (.domainReady d) s = .next s) ∧
      (g.ready ≤ s.el → ∃ u : State, exec (.domainReady d) s = .next u.topcoatReloads ∧ u.isOn d = true ∧
        u.pwr.grants = P.grants.filter (fun g => g.dom ≠ d.val) ∧
        (d.val / 256 = 1 → s.domState d = .off → d.val % 256 ∈ u.pwr.held) ∧
        u.copies = s.copies ∧ (s.copies = [] → u.topcoatReloads = u)) ∧
      (g.ready ≤ s.el → s.topcoatUp = true → d.val / 256 = 0x23 → s.copies = [(d.val, x)] → x.words = [(i, v)] → x.cells = [] →
        Answers s (.domainReady d) (fun u => u.isOn d = true ∧ u.reg i = v ∧ u.copies = []))) ∧
    (inKeep → edge → s.supply PWR_SUPPLY.MAINOK = 0 →
      exec (.keepWakePin k rise) s = .next ((s.setPin k rise).latch (4 + k) 0)) ∧
    (inKeep → edge → s.canStart (4 + k) = true → Answers s (.keepWakePin k rise) (fun u => u.mode = 4 ∧
      u.fld PWR_WAKESRC.addr PWR_WAKESRC.FROM = 1)) ∧
    (inKeep → alarm → s.supply PWR_SUPPLY.MAINOK = 0 →
      exec .keepAlarm s = .next (((s.setFld PWR_KALARM1.addr PWR_KALARM1.EN 0).setPwr
        { P with hostAlarm := P.hostAlarm.filter (· ≠ due) }).latch 45 0)) ∧
    (Reached s PWR_COMMIT.addr → fget v PWR_COMMIT.GO = 1 → (∀ i, i < 4 → skim i = false) → exec (.pwrCommit .keeper v) s =
      .next ((s.toPending PWR_WATCH.addr PWR_COMMIT.addr).setPwr { P with setPending := true })) ∧
    (Reached s PWR_COMMIT.addr → fget v PWR_COMMIT.GO = 1 → i < j → j < 4 → skim i = true → skim j = true →
      s.fld PWR_SKIM.addr (PWR_SKIM.TILE i) = s.fld PWR_SKIM.addr (PWR_SKIM.TILE j) →
      Answers s (.pwrCommit .keeper v) (fun u => u = { s with regs := u.regs } ∧
        u.fld PWR_STATUS.addr PWR_STATUS.REFUSED = 1 ∧ u.fld PWR_STATUS.addr PWR_STATUS.CERR = 1)) ∧
    (Reached s PWR_RESTORE.addr → v = Word.ofNat (2 ^ n.val) → Answers s (.pwrRestore .keeper v) (fun u =>
      u.listValid n = false ∧ u.fld PWR_RSTAT.addr PWR_RSTAT.CLUSTER = n ∧
      (s.listValid n = false → u.fld PWR_RSTAT.addr PWR_RSTAT.RESULT = 2) ∧
      (s.listValid n = true → ¬sum → u.fld PWR_RSTAT.addr PWR_RSTAT.RESULT = 3) ∧
      (s.listValid n = true → sum → u.fld PWR_RSTAT.addr PWR_RSTAT.RESULT = 1))) ∧
    (Reached s PWR_RESTORE.addr → v.getLsbD (8 + n) = true → Answers s (.pwrDiscard .keeper v) (fun u =>
      u.listValid n = false ∧ n.val ∉ u.pwr.held))

/-- The supplies: VMAIN falling through WARN and a rail that fails start a forced descent, whose end is KEEP; a failed rail
in a power-down is recorded and ends in KEEP; the restarts after a safe end state, at most three in 10 s; VMAIN's rise and
validation; the sources of the always-on set and its loss; VCORE's steps; the I/O banks; VPACK, R425, R453, R455 to R460,
R462 to R470 and R226. -/
def Obligations.SuppliesFailSafely : Prop :=
  ∀ (s : State) (e : Nat × Nat) (m t p : Nat) (rail : Fin 6) (r5 : Fin 5) (step : Fin 9) (records low dead v33 : Bool) (bank : Fin 4),
    let S := s.sup
    let recent := S.starts.filter (fun x => decide (s.el < x + 10000000000))
    let again := S.safeAt = some t ∧ t + 100000000 ≤ s.el ∧ s.supply PWR_SUPPLY.MAINOK = 1
    let valid := S.validating = some t ∧ S.descent = none ∧ t + 2000000 ≤ s.el
    let down (u : State) (f : Fld) : Nat := u.fld PWR_DOWNFAULT.addr f
    (s.pwr.entry = none → Answers s .vmainWarn (fun u => u.mode = 1 ∧ u.supply PWR_SUPPLY.MAINOK = 0 ∧
      u.supply PWR_SUPPLY.MAINWARN = 1 ∧ (s.mode ≠ 1 → u.sup.descent = some (s.el, s.mode) ∧ u.pwr.queue = []) ∧
      (s.mode = 1 → u.sup.descent = S.descent))) ∧
    (S.descent = some e → Answers s (.forcedDescentDone records) (fun u => u.mode = 1 ∧ u.sup.descent = none ∧ u.cores = [] ∧
      u.sup.vcore = 0 ∧ (∀ a, a < 0x800000 → memRead u.mem a = 0) ∧
      ∀ a, 0x20000000 ≤ a → a < 0x20003000 → memRead u.mem a = memRead s.mem a)) ∧
    (s.poweringDown = some m → m < 8 → S.gap = none → Answers s (.railFail rail step records) (fun u => u.mode = 1 ∧
      u.sup.descent = none ∧ u.cores = [] ∧ down u PWR_DOWNFAULT.COUNT = min 255 (down s PWR_DOWNFAULT.COUNT + 1) ∧
      down u PWR_DOWNFAULT.STEP = step ∧ down u PWR_DOWNFAULT.RAIL = rail ∧ down u PWR_DOWNFAULT.FROM = m)) ∧
    (s.poweringDown = none → Answers s (.railFailRunning r5) (fun u => u.mode = 1 ∧
      (s.mode ≠ 1 → u.sup.descent.isSome = true) ∧
      (0 < r5.val → (u.supply PWR_SUPPLY.VIOOK).testBit (r5 - 1) = false))) ∧
    (again → recent.length < 3 → Answers s .safeEndRestart (fun u => u.mode = 4 ∧ u.sup.starts = recent ++ [s.el] ∧
      u.sup.safeAt = none)) ∧
    (again → 3 ≤ recent.length → exec .safeEndRestart s = .next (s.setSup { S with safeAt := none, stay := true })) ∧
    (s.supply PWR_SUPPLY.MAINOK = 0 → exec .vmainRise s =
      .next ((s.setFld PWR_SUPPLY.addr PWR_SUPPLY.MAINWARN 0).setSup { S with validating := some s.el })) ∧
    (s.supply PWR_SUPPLY.MAINOK = 1 → exec .vmainRise s = .next (s.setFld PWR_SUPPLY.addr PWR_SUPPLY.MAINWARN 0)) ∧
    (valid → s.mode ≠ 1 → Answers s .vmainValidated (fun u => u.supply PWR_SUPPLY.MAINOK = 1 ∧
      u.supply PWR_SUPPLY.SRC = 0 ∧ u.sup.validating = none ∧ u.mode = s.mode)) ∧
    (valid → s.mode = 1 → S.absent = true → S.safeAt = none → s.pwr.entry = none →
      Answers s .vmainValidated (fun u => u.mode = 4 ∧ u.latched 46 = true)) ∧
    Answers s (.supplySourceChange low dead) (fun u => u.supply PWR_SUPPLY.BAKLOW = b2n low ∧
      u.supply PWR_SUPPLY.BAKDEAD = b2n dead ∧
      u.supply PWR_SUPPLY.SRC = if s.supply PWR_SUPPLY.MAINOK = 1 then 0 else if dead then 2 else 1) ∧
    (S.gap = some t → t + 400000 < s.el → S.lost = false → Answers s .alwaysOnSetLost (fun u => u.sup.lost = true ∧
      ∀ a, 0x20000000 ≤ a → a < 0x20004000 → memRead u.mem a = 0)) ∧
    (S.gap = some t → s.el ≤ t + 400000 → exec .alwaysOnSetLost s = .next s) ∧
    (s.mode ≠ 1 → S.step = none → S.vcore ≠ vcorePoint s.mode → exec .vcoreStep s = .next (s.setSup { S with
      step := some (vcorePoint s.mode, s.el), fast := S.fast && decide (S.vcore < vcorePoint s.mode) })) ∧
    (S.step = some (p, t) → s.vcoreNow = p → exec .vcoreStepDone s =
      .next (s.setSup { S with vcore := p, step := none, fast := decide (850 ≤ p) })) ∧
    (S.step = some (p, t) → s.vcoreNow ≠ p → exec .vcoreStepDone s = .next s) ∧
    Answers s (.vioLevelSet bank v33) (fun u => (u.supply PWR_SUPPLY.VIOLVL).testBit bank = v33 ∧
      (u.supply PWR_SUPPLY.VIOOK).testBit bank = true ∧ ∀ k, k < 4 → k ≠ bank →
        (u.supply PWR_SUPPLY.VIOLVL).testBit k = (s.supply PWR_SUPPLY.VIOLVL).testBit k ∧
        (u.supply PWR_SUPPLY.VIOOK).testBit k = (s.supply PWR_SUPPLY.VIOOK).testBit k) ∧
    exec (.vpackChange true) s = .next (s.setFld PWR_SUPPLY.addr PWR_SUPPLY.PACKOK 1) ∧
    Answers s (.vpackChange false) (fun u => u.supply PWR_SUPPLY.PACKOK = 0 ∧
      (s.supply PWR_SUPPLY.PACKOK = 1 → u.linkUp = false))

/-! ## Flotex and Scrim -/

/-- Flotex: frames taken and turned away, links up and down, TRAIN, LEAD, SYNC, the head of a chain, a lead lost, the echo of
RDY, and data for a core of a partner with its resend, R358, R478 to R482, R485 and R536. The frame's bytes beyond its header
are laid out as log entry 41 says, and the size of a chain that its head leads is the free value of log entry 40. -/
def Obligations.TheGangLinkSpeaks : Prop :=
  ∀ (s : State) (b : List Byte) (ago pri round : Nat) (a : Bool) (n : Fin 4) (m : Msg) (w : MbxOut), s.flxRuns = true →
    let x := s.flx
    let f (t : State) (g : Fld) : Nat := t.fld FLX_STATUS.addr g
    let up := s.flxA = true
    let onlyFlx (t : State) : Prop := t = { s with flx := t.flx }
    let sent (t : State) (type route : Nat) (p : List Byte) : Prop := t.flx.out = [flxFrame type route x.seq p] ∧
      t.flx.seq = (x.seq + 1) % 256 ∧ t.flx.lastSent = s.el
    let next := flxRoute s.flxPos (s.flxPos + 1) false 0
    let own := identityWord.toNat
    let to_ := m.at 2 2
    let pos := to_ / 256 % 4
    let data := leBytes 1 (to_ % 32) ++ slice m.data 1 32
    let delay := (round - 100000 - Config.flxPadPs) / 2
    (flxIntact b = true → leAt b 0 1 = 1 → x.trains = 7 → s.flxB = false → Answers s (.flxFrameReceive b ago) (fun t =>
      f t FLX_STATUS.BUP = 1 ∧ t.flx.trains = 8 ∧ t.flx.crcRun = 0)) ∧
    (flxIntact b = true → leAt b 0 1 = 1 → x.trains < 7 → s.flxB = false → Answers s (.flxFrameReceive b ago) (fun t =>
      onlyFlx t ∧ t.flx.trains = x.trains + 1 ∧ t.flx.crcRun = 0)) ∧
    (flxIntact b = false → Answers s (.flxFrameReceive b ago) (fun t => t.flx.trains = 0 ∧
      t.fld FLX_STAT.addr FLX_STAT.CRCERR = min 0xFFFF (s.fld FLX_STAT.addr FLX_STAT.CRCERR + 1) ∧
      (x.crcRun ≠ 3 → t.flx.crcRun = x.crcRun + 1 ∧ f t FLX_STATUS.BUP = f s FLX_STATUS.BUP ∧ t.merges = s.merges) ∧
      (x.crcRun = 3 → s.flxB = true → t.flx.crcRun = 0 ∧ f t FLX_STATUS.BUP = 0 ∧ ∃ g,
        Raised s t { level := 5, cause := 0x41, unit := (s.reg FLX_LEADID0.addr).toNat, gts := g
                     detail := (s.reg FLX_LEADID1.addr).toNat }))) ∧
    (flxIntact b = true → 1 < leAt b 0 1 % 16 → Answers s (.flxFrameReceive b ago) (fun t => t.flx.out = [] ∧
      t.fld FLX_STAT.addr FLX_STAT.VERDISC = min 255 (s.fld FLX_STAT.addr FLX_STAT.VERDISC + 1))) ∧
    (flxIntact b = true → leAt b 0 1 = 0x21 → s.flxB = true → s.flxLeads = true →
      Answers s (.flxFrameReceive b ago) (fun t => onlyFlx t ∧ t.flx.echoAt = some (s.el - ago / 1000 + 100))) ∧
    (s.flxA = false → Answers s .flxSenderUp (fun t => f t FLX_STATUS.AUP = 1 ∧ t.flx.aUpAt = s.el ∧ t.flx.delays = [])) ∧
    (up → exec .flxSenderUp s = .next s) ∧
    Answers s (.flxLinkDown a) (fun t => f t (if a then FLX_STATUS.AUP else FLX_STATUS.BUP) = 0 ∧
      f t (if a then FLX_STATUS.BUP else FLX_STATUS.AUP) = f s (if a then FLX_STATUS.BUP else FLX_STATUS.AUP) ∧
      (a = true → up → s.flxLeads = true → s.flxLed = true → f t FLX_STATUS.VER = 0 ∧ f t FLX_STATUS.LEAD = 0)) ∧
    (up → x.lastSent + 100000 ≤ s.el → Answers s .train (fun t => onlyFlx t ∧ sent t 0 next (leBytes 8 own ++ [1]))) ∧
    (up → s.el < x.lastSent + 100000 → exec .train s = .next s) ∧
    (up → s.claimDue = some pri → Answers s .lead (fun t => onlyFlx t ∧
      sent t 1 (flxRoute s.flxPos 0 true 0) (leadPayload (pri, own)) ∧ t.flx.claim = some (pri, own))) ∧
    (up → s.flxB = false → s.flxLeads = false → x.aUpAt + 1000000000 ≤ s.el → s.fld FLX_CTL.addr FLX_CTL.LEADREQ = 1 →
      Answers s .chainHeadLead (fun t => f t FLX_STATUS.LEAD = 1 ∧ f t FLX_STATUS.POS = 0 ∧ f t FLX_STATUS.VER = 1 ∧
        f t FLX_STATUS.SIZE = Config.freeNat s.free % 4 + 1 ∧ f t FLX_STATUS.CHAIN = 1)) ∧
    (s.flxLed = true → s.flxLeads = false → x.lastSync + 1000000000 ≤ s.el → Answers s .leadLost (fun t =>
      f t FLX_STATUS.VER = 0 ∧ f t FLX_STATUS.POS = 0 ∧ t.reg FLX_LEADID0.addr = 0 ∧ t.reg FLX_LEADID1.addr = 0)) ∧
    (up → s.flxLed = true → x.syncSent ≠ s.now.toNat / 2 ^ 37 → Answers s .sync (fun t => onlyFlx t ∧
      t.flx.syncSent = s.now.toNat / 2 ^ 37 ∧ ∃ p, p.length = 24 ∧ sent t 2 next p)) ∧
    (up → x.syncSent ≠ 0 → x.delays = [] → Answers s (.rdyEchoCapture round) (fun t => t.flx.delays = [delay] ∧
      t.fld FLX_DELAY.addr FLX_DELAY.PS = min 0xFFFF delay)) ∧
    (Serves s n m → meshSend 3 m = true → up → s.flxLed = true → pos < f s FLX_STATUS.SIZE → to_ % 32 < 16 →
      Answers s (.meshSendGang n) (fun t => sent t 3 (flxRoute s.flxPos pos false 0) data ∧
        t.flx.waiting = x.waiting ++ [{ port := n, seq := m.seq, pos, frame := data, sentAt := s.el, sends := 1 }])) ∧
    (Serves s n m → meshSend 3 m = true → s.flxA = false →
      Replies s (.meshSendGang n) n m stNoResource [] (s.flxQuiet.tookFrom n)) ∧
    (x.waiting.find? (fun w => w.sentAt + 100000 ≤ s.el) = some w → up → w.sends < 2 → Answers s .mbxResend (fun t => onlyFlx t ∧
      sent t 3 (flxRoute s.flxPos w.pos false 0) w.frame)) ∧
    (x.waiting.find? (fun w => w.sentAt + 100000 ≤ s.el) = some w → 2 ≤ w.sends → Answers s .mbxResend (fun t =>
      t.flx.waiting = x.waiting.erase w))

/-- Scrim: its start; beacons, time requests, ROLE frames and messages under the node's next frame counter; frames accepted
once; an ACK that ends a message; neighbours removed; reports opened, closed and sent; messages to nodes and roles queued, resent and given up; roles
taken, R358, R475 and R488 to R500. -/
def Obligations.TheMeshCarriesMessages : Prop :=
  ∀ (s : State) (p : Profile) (n : Fin 4) (m : Msg) (f : ScrimFrame) (ago r k : Nat) (x y : Neigh) (q : MeshMsg) (e : RepEntry),
    s.sec.profile = some p → s.works 0x1200 = true →
    let M := s.mesh
    let run := M.running = true
    let keyed := s.sec.tampered = false ∧ (Tab.find s.sec.domKeys 0).isSome = true ∧ M.fc < 2 ^ 32
    let one (t : State) (rx : Nat) : Prop := t.mesh.fc = M.fc + 1 ∧ ∃ g, t.mesh.radio = [g] ∧ g.tx = p.node ∧ g.rx = rx ∧
      g.fc = M.fc ∧ g.slot = 0 ∧ g.domain = p.domain
    let claim : List (Nat × Nat) := [(3, 20 + p.csp), (4, p.pin), (6, (s.meshEngine p.pin).getD 0)]
    let number := (M.msgs + 1) % 65536
    let quiet := s.radioQuiet
    let heard := s.sec.tampered = false ∧ f.domain = p.domain ∧ f.mic = true ∧ (Tab.find s.sec.domKeys f.slot).isSome = true ∧
      f.body ≠ .other ∧ (f.rx = p.node ∨ f.rx = 0xFFFF)
    let asks (kind : Nat) : Prop := Serves s n m ∧ meshSend kind m = true
    let dest := m.at 2 2
    let queued : MeshMsg :=
      { handle := n * 2 ^ 30 + (M.handles + 1) % 65536, port := n, msg := number, dkind := m.at 0 1, dest, epoch := m.at 4 2
        ack := true, data := m.data, sentAt := s.el, sends := 1 }
    (x.accept k = some y → y.accept k = none) ∧
    (M.running = false → s.conflictUnit claim 0x0300 = none → Answers s .scrimStart (fun t => t.mesh.running = true ∧
      t.mesh.fc = M.fcEnd ∧ t.mesh.fcEnd = M.fcEnd + 65536 ∧ ∀ u, u ∈ claim → t.ownerOf u.1 u.2 = 0x0300)) ∧
    (∀ u : Nat × Nat, M.running = false → s.conflictUnit claim 0x0300 = some u → exec .scrimStart s =
      .next (s.raiseFault 6 0x0050 (p.domain * 65536 + p.node) (resid u.1 u.2))) ∧
    (run → keyed → M.beaconAt + p.beacon * 900000000 ≤ s.el → Answers s .beacon (fun t =>
      one t 0xFFFF ∧ t.mesh.beaconAt = s.el)) ∧
    (run → s.el < M.beaconAt + p.beacon * 900000000 → exec .beacon s = .next quiet) ∧
    (run → (∀ z, z ∈ s.staleNeigh p → z.watched = false) → Answers s .neighbourSweep (fun t =>
      t.mesh.neigh = M.neigh.filter (fun z => !(s.staleNeigh p).contains z))) ∧
    (run → keyed → M.parent = some k → s.joined = true → M.exchAt + 4000000000 ≤ s.el → Answers s .timeExchange (fun t =>
      one t k ∧ t.mesh.exchAt = s.el ∧ t.mesh.exch = some (s.now - BitVec.ofNat 80 p.txLat, none))) ∧
    (run → keyed → M.role = some k → M.roleAt + 600000000000 ≤ s.el → Answers s .roleReflood (fun t =>
      one t 0xFFFF ∧ t.mesh.roleAt = s.el ∧ t.mesh.role = some k ∧ t.mesh.msgs = number)) ∧
    (run → heard → s.neighbour f.tx = some x → x.accept f.fc = none → exec (.scrimFrameReceive f ago) s = .next quiet) ∧
    (run → s.sec.tampered = false → f.mic = false → exec (.scrimFrameReceive f ago) s = .next quiet) ∧
    (run → heard → s.neighbour f.tx = some x → x.accept f.fc = some y → f.body = .leave →
      Answers s (.scrimFrameReceive f ago) (fun t => ∀ z, z ∈ t.mesh.neigh → z.node ≠ f.tx)) ∧
    (run → M.queue.find? (fun q => q.sentAt + 2000000000 ≤ s.el) = some q → 3 ≤ q.sends → Answers s .meshResend (fun t =>
      t.mesh.queue = M.queue.erase q ∧ ∃ g,
        Raised s t { level := 6, cause := 0x0052, unit := q.handle, gts := g, detail := 0 })) ∧
    (run → keyed → M.queue.find? (fun q => q.sentAt + 2000000000 ≤ s.el) = some q → q.sends < 3 → q.ack = true → q.dkind = 0 →
      q.dest ≠ p.node → Answers s .meshResend (fun t => one t 0xFFFF ∧
        t.mesh.queue = M.queue.erase q ++ [{ q with msg := number, sentAt := s.el, sends := q.sends + 1 }])) ∧
    (run → M.table = [e] → e.ready = false → e.closeAt ≤ s.now.toNat → Answers s .reportWindowClose (fun t =>
      t.mesh.table = [{ e with ready := true }])) ∧
    (run → keyed → M.table = [e] → e.ready = true → M.hops ≠ 0 → M.parent = some k → Answers s .reportSend (fun t =>
      one t k ∧ t.mesh.table = [])) ∧
    (asks 0 → run → keyed → M.hops ≤ 16 → M.queue.length < 16 → m.at 1 1 % 2 = 1 → dest ≠ p.node →
      Answers s (.meshSendNode n) (fun t => one t 0xFFFF ∧ t.mesh.queue = M.queue ++ [queued])) ∧
    (asks 0 → run → M.hops ≤ 16 → 16 ≤ M.queue.length → Replies s (.meshSendNode n) n m stBusy [] (quiet.tookFrom n)) ∧
    (asks 0 → s.joined = false → Replies s (.meshSendNode n) n m stNoResource [] (quiet.tookFrom n)) ∧
    (asks 1 → run → keyed → M.hops ≤ 16 → M.queue.length < 16 → m.at 1 1 % 2 = 1 → m.at 4 2 = s.roleEpoch dest →
      M.role ≠ some dest → Answers s (.meshSendRole n) (fun t => one t 0xFFFF ∧ t.mesh.queue = M.queue ++ [queued])) ∧
    (asks 1 → run → M.hops ≤ 16 → m.at 4 2 ≠ s.roleEpoch dest → Replies s (.meshSendRole n) n m stStaleRole
      (leBytes 2 (s.roleEpoch dest) ++ leBytes 2 (s.roleEpoch dest) ++ [0xFF]) (quiet.tookFrom n)) ∧
    (Serves s n m → m.op = 0x53 → m.at 1 1 / 2 % 2 = 1 → run → M.table = [] → Answers s (.meshSendReport n) (fun t =>
      ∃ z, t.mesh.table = [z] ∧ z.rep.subj = m.at 8 2 ∧ z.rep.cause = m.at 10 2 ∧ z.rep.count = 1 ∧ z.rep.first = p.node ∧
        z.closeAt = s.now.toNat + ceilDiv (p.window * 2 ^ 40) 1000 ∧ z.ready = false)) ∧
    (run → heard → s.neighbour f.tx = some x → x.accept f.fc = some y → (∃ o k, f.body = .ack o k p.node q.msg false ∧
      M.seen.contains (o, k) = false) → s.sentHandle q.msg = some q.handle → Answers s (.scrimFrameReceive f ago) (fun t =>
      ∀ z, z ∈ t.mesh.queue → z.handle ≠ q.handle)) ∧
    (Serves s n m → m.op = 0x52 → m.at 0 1 = 3 → run → m.at 6 2 = r → r ≠ 0 → m.at 4 2 = s.roleEpoch r →
      Answers s (.roleSetMesh n) (fun t => t.mesh.role = some r ∧
        t.roleEpoch r = if s.roleEpoch r = 0xFFFF then 1 else s.roleEpoch r + 1)) ∧
    (Serves s n m → m.op = 0x52 → m.at 0 1 = 3 → run → m.at 6 2 = r → m.at 4 2 ≠ s.roleEpoch r →
      Replies s (.roleSetMesh n) n m stStaleRole (leBytes 2 (s.roleEpoch r) ++ leBytes 2 (s.roleEpoch r) ++ [0xFF])
        (quiet.tookFrom n))

/-! ## Boot, updates and scrubbing -/

/-- SEC and the boot: SEC woken by Undercoat's first access (R38), a boot of the active slot or recovery; MRAM slot writes only in SERVICE; scrubs and their ends; tamper;
the update stages; the restarts of Topcoat, R360, R505, R506, R510 to R517, R519, R520, R524 and R525. Where KEEP RAM holds the
session of an update is log entry 15. -/
def Obligations.BootsUpdatesAndScrubs : Prop :=
  ∀ (s : State) (a : BitVec 32) (v : Word) (n : Fin 4) (k : Fin 8) (i : Fin 512) (m : Msg) (j : Journal) (c d b t₀ q : Nat)
    (high : Bool),
    let S := s.sec
    let r := s.repairJournal
    let starts := s.isOn 0x1000 = true ∧ s.ohp.running = false ∧ s.ohp.recovery = false ∧ 4 ≤ s.mode
    let boots := starts ∧ s.isOn 0x1900 = true ∧ s.isOn 0x1700 = true ∧ s.pwr.entry = none ∧ S.tampered = false
    let slot := slotOf a.toNat = some d ∧ a.toNat % 4 = 0 ∧ Reached s a.toNat
    let pass := s.ohp.running = true ∧ s.works 0x1000 = true ∧ 4 ≤ s.mode ∧ S.scrub = none
    let scrubs (t : State) : Prop := t.sec.scrub = some (s.scrubNext, s.el) ∧ t.sec.scrubbedAt = s.el ∧
      t.fld SEC_SCRUB.addr SEC_SCRUB.BUSY = 1
    let scrubbing := S.scrub = some (b, t₀)
    let w := 0x10000000 + 0x1000 * b + 8 * i.val
    let counted (t : State) (f : Fld) (n : Nat) : Prop :=
      t.fld SEC_SCRUBSTAT.addr f = min f.max (s.fld SEC_SCRUBSTAT.addr f + n)
    let pins := s.fld SEC_TAMP.addr SEC_TAMP.PINS
    let trips := (s.fld SEC_TAMPCFG.addr SEC_TAMPCFG.EN).testBit k = true ∧
      (s.fld SEC_TAMPCFG.addr SEC_TAMPCFG.LEVEL).testBit k = high ∧ pins.testBit k = false
    let tampers (t : State) : Prop := t.fld SEC_TAMP.addr SEC_TAMP.PINS = pins + 2 ^ k.val
    let u := s.tookFrom n
    let x := u.journalNow
    let mine := Serves s n m ∧ s.mode = 7 ∧ s.updateHeld = true ∧ s.updPort = n
    let data := (m.payload.drop 4).take (m.len - 4)
    let off := m.at 0 4
    let tgt := s.updTarget
    let restarts (t : State) : Prop := t.ohp.activate = none ∧ (t.ohp.running || t.ohp.recovery) = true
    let then_ (y : State) : State :=
      let z := y.reply n m stOk (leBytes 1 y.journalNow.active)
      { z with ohp := { z.ohp with activate := some (n.val, y.nextReplySeq n, z.el) } }
    (starts → s.isOn 0x1900 = false → exec .undercoatBoot s = .next (s.requestWake 0x1900)) ∧
    (boots → r.journal = some j → j.trial = false → ∃ t : State, exec .undercoatBoot s = .next t.topcoatReloads ∧
      (r.slotVerifies j.active j.floor = true →
        t.ohp.running = true ∧ t.ohp.recovery = false ∧ t.fld (HP_STATUS.addr n) HP_STATUS.RINGS = 1) ∧
      (t.copies = [] → t.topcoatReloads = t)) ∧
    (boots → r.journal = none → r.slotVerifies 0 0 = false → r.slotVerifies 1 0 = false → Answers s .undercoatBoot (fun t =>
      t.ohp.running = false ∧ t.ohp.recovery = true ∧ t.fld PWR_BASE.addr PWR_BASE.MODE = 7)) ∧
    (slot → s.mode = 7 → Answers s (.mramSlotWrite .keeper a v) (fun t => memReadWord t.mem a.toNat = v ∧
      SameMemOutside s t a.toNat (a.toNat + 4) ∧ t.fld SEC_STATUS.addr (dirtyBit d) = 1)) ∧
    (slot → s.mode ≠ 7 → exec (.mramSlotWrite .keeper a v) s = .next (s.busError .keeper a.toNat true)) ∧
    (Reached s SEC_SCRUB.addr → S.scrub = none → fget v SEC_SCRUB.GO = 1 → Answers s (.secScrub .keeper v) (fun t =>
      t.sec.scrub = some (fget v SEC_SCRUB.BLOCK, s.el) ∧ t.fld SEC_SCRUB.addr SEC_SCRUB.BUSY = 1 ∧
      t.fld SEC_SCRUB.addr SEC_SCRUB.BLOCK = fget v SEC_SCRUB.BLOCK)) ∧
    (Reached s SEC_SCRUB.addr → S.scrub ≠ none → exec (.secScrub .keeper v) s =
      .next (s.setFld SEC_SCRUB.addr SEC_SCRUB.BLOCK (fget v SEC_SCRUB.BLOCK))) ∧
    (pass → S.scrubbedAt + 3600000000000 ≤ s.el → Answers s .scrubHourly scrubs) ∧
    (pass → s.catchingUp = true → S.scrubbedAt + 10000000 ≤ s.el → Answers s .scrubCatchup scrubs) ∧
    (s.catchingUp = false → exec .scrubCatchup s = .next s) ∧
    (scrubbing → s.ohp.running = false → Answers s (.scrubDone c []) (fun t => t.sec = { S with scrub := none } ∧
      t.fld SEC_SCRUB.addr SEC_SCRUB.BUSY = 0 ∧ counted t SEC_SCRUBSTAT.CORR c ∧ SameMem s t)) ∧
    (scrubbing → s.ohp.running = false → Answers s (.scrubDone c [i]) (fun t => t.sec.scrub = none ∧ w ∈ t.sec.bad ∧
      counted t SEC_SCRUBSTAT.CORR c ∧ counted t SEC_SCRUBSTAT.UNCORR 1 ∧
      (b < 0x400 → t.fld SEC_STATUS.addr SEC_STATUS.DIRTYA = 1) ∧
      ∃ g, Raised s t { level := 4, cause := 0x0027, unit := 0x1700, gts := g, detail := w })) ∧
    (scrubbing → s.ohp.running = true → b = s.scrubNext → (b + 1) % 64 ≠ 0 → Answers s (.scrubDone c []) (fun t =>
      t.sec.scrub = none ∧ t.sec.since = S.since + 1)) ∧
    (trips → 4 ≤ s.mode → s.pwr.entry = none → s.sup.descent = none → Answers s (.tamper k high) (fun t => tampers t ∧
      t.sec.domKeys = [] ∧ ∃ g,
        Raised s t { level := 4, cause := 0x002A, unit := 0x1900, gts := g, detail := pins + 2 ^ k.val })) ∧
    (trips → s.mode = 1 → s.pwr.entry = none → s.sup.descent = none → s.supply PWR_SUPPLY.MAINOK = 0 →
      Answers s (.tamper k high) (fun t => tampers t ∧ t.sec.tampered = true ∧ t.latched 47 = true ∧ t.mode = 1)) ∧
    ((s.fld SEC_TAMPCFG.addr SEC_TAMPCFG.EN).testBit k = false → exec (.tamper k high) s = .next s) ∧
    (Serves s n m → m.op = 0x60 → s.mode = 7 → 128 ≤ off → off ≤ 0x400000 → x.trial = false → s.updateHeld = false →
      Replies s (.updateBegin n) n m stOk (leBytes 1 (1 - x.active % 2)) (u.setUpdate true false n (1 - x.active % 2) 0 off)) ∧
    (Serves s n m → m.op = 0x60 → s.mode ≠ 7 → Replies s (.updateBegin n) n m stNoResource [] u) ∧
    (Serves s n m → m.op = 0x60 → s.mode = 7 → 128 ≤ off → off ≤ 0x400000 → x.trial = true →
      Replies s (.updateBegin n) n m stBusy [] u) ∧
    (mine → m.op = 0x61 → off ≤ s.updCount → off + data.length ≤ s.updLength → data ≠ [] →
      let count := Max.max s.updCount (off + data.length)
      Replies s (.updateChunk n) n m stOk (leBytes 4 count)
        (((u.mramStore (slotBase tgt + off) data).setDirty tgt 1).setUpdate true false n tgt count s.updLength)) ∧
    (mine → m.op = 0x61 → s.updCount < off → Replies s (.updateChunk n) n m stNoResource [] u) ∧
    (mine → m.op = 0x62 → let why := u.verifyReason tgt s.updCount
      if why = 0 then Replies s (.updateVerify n) n m stOk [0]
        ((u.setUpdate true true n tgt s.updCount s.updLength).setDirty tgt 0)
      else Replies s (.updateVerify n) n m stVerifyFail (leBytes 1 why ++ [0]) u) ∧
    (mine → m.op = 0x63 → s.updVerified = false → Replies s (.updateActivate n) n m stVerifyFail [7, 0] u) ∧
    (mine → m.op = 0x63 → s.updVerified = true → hdrKind (u.header tgt) = 0 → exec (.updateActivate n) s = .next (then_
      (u.writeJournal { x with active := tgt, trial := true, trials := 3, version := hdrVersion (u.header tgt) }))) ∧
    (mine → m.op = 0x63 → s.updVerified = true → hdrKind (u.header tgt) = 1 →
      exec (.updateActivate n) s = .next (then_ (u.mramStore 0x10E00000 (u.body tgt)))) ∧
    (mine → m.op = 0x63 → s.updVerified = true → hdrKind (u.header tgt) = 2 →
      Replies s (.updateActivate n) n m stOk (leBytes 1 x.active) (u.enrol (u.body tgt))) ∧
    (mine → m.op = 0x63 → s.updVerified = true → hdrKind (u.header tgt) = 3 →
      Replies s (.updateActivate n) n m stOk (leBytes 1 x.active) (u.adopt (u.body tgt))) ∧
    (Serves s n m → m.op = 0x64 → s.mode = 7 → (s.updateHeld = true → s.updPort = n) → x.trial = true →
      Replies s (.updateConfirm n) n m stOk (leBytes 1 x.active) ((u.writeJournal { x with
        trial := false, trials := 0, floor := Max.max x.floor (leAt (u.header x.active) 12 4) }).setUpdate
          false false 0 0 0 0)) ∧
    (s.ohp.activate = some (n.val, q, t₀) → t₀ + 100000000 ≤ s.el → Answers s .activateRestart restarts) ∧
    (s.ohp.activate = some (n.val, q, t₀) → s.el < t₀ + 100000000 → 32767 < seqDiff (s.aOut n) q →
      exec .activateRestart s = .next s) ∧
    (s.ohp.running = true → s.isOn 0x1000 = true → Answers s .topcoatRestart restarts) ∧
    (s.ohp.running = false → exec .topcoatRestart s = .next s)
end

