-- ==== Sys2Proof/Laws/Mem.lean ====
section
/-! SUPPORT. Memory: a byte read after bytes written or lost, and the canonical form that every memory operation keeps. -/

namespace Sys2Proof.Machine

theorem memRead_filter (m : List Host.Cell) (p : Nat → Bool) (a : Nat) :
    memRead (m.filter (fun c => p c.1)) a = if p a then memRead m a else memDefault a := by
  induction m with
  | nil => simp [memRead]
  | cons e r ih =>
    obtain ⟨k, b⟩ := e
    by_cases hk : p k
    · simp only [List.filter_cons, hk, if_true, memRead]
      by_cases hj : k = a
      · subst hj; simp [hk]
      · simp [hj, ih]
    · simp only [List.filter_cons, hk, memRead]
      by_cases hj : k = a
      · subst hj; simpa [hk] using ih
      · simpa [hj] using ih

theorem memRead_insert_same (m : List Host.Cell) (a : Nat) (b : Byte) (h : ∀ c ∈ m, c.1 ≠ a) :
    memRead (memInsert m a b) a = b := by
  induction m with
  | nil => simp [memInsert, memRead]
  | cons e r ih =>
    obtain ⟨k, c⟩ := e
    have hk : k ≠ a := h (k, c) (by simp)
    unfold memInsert
    split
    · simp [memRead]
    · simp only [memRead, hk, if_false]
      exact ih (fun c hc => h c (by simp [hc]))

theorem memRead_insert_other (m : List Host.Cell) {a a' : Nat} (b : Byte) (h : a ≠ a') :
    memRead (memInsert m a b) a' = memRead m a' := by
  induction m with
  | nil => simp [memInsert, memRead, h]
  | cons e r ih =>
    obtain ⟨k, c⟩ := e
    unfold memInsert
    split
    · simp [memRead, h]
    · simp [memRead, ih]

/-- A byte read after a byte written at the same address. -/
theorem memRead_write_same (m : List Host.Cell) (a : Nat) (b : Byte) : memRead (memWrite m a b) a = b := by
  unfold memWrite
  simp only
  have hf := memRead_filter m (fun k => decide (k ≠ a)) a
  split
  · next hb => rw [hf]; simp [hb]
  · exact memRead_insert_same _ a b (fun c hc => by simpa using (List.mem_filter.mp hc).2)

/-- A byte read after a byte written at another address. -/
theorem memRead_write_other (m : List Host.Cell) {a a' : Nat} (b : Byte) (h : a ≠ a') :
    memRead (memWrite m a b) a' = memRead m a' := by
  have hf := memRead_filter m (fun k => decide (k ≠ a)) a'
  have ha : decide (a' ≠ a) = true := by simpa using Ne.symm h
  unfold memWrite
  simp only
  split
  · rw [hf]; simp [ha]
  · rw [memRead_insert_other _ _ h, hf]; simp [ha]

/-- A byte read outside bytes written. -/
theorem memRead_writeBytes_outside (l : List Byte) (m : List Host.Cell) (a a' : Nat)
    (h : a' < a ∨ a + l.length ≤ a') : memRead (memWriteBytes m a l) a' = memRead m a' := by
  induction l generalizing m a with
  | nil => rfl
  | cons b r ih =>
    simp only [memWriteBytes, List.length_cons] at h ⊢
    rw [ih _ _ (by omega), memRead_write_other _ _ (by omega)]

/-- A byte read among bytes written. -/
theorem memRead_writeBytes_inside (l : List Byte) (m : List Host.Cell) (a k : Nat) (h : k < l.length) :
    memRead (memWriteBytes m a l) (a + k) = l[k] := by
  induction l generalizing m a k with
  | nil => simp at h
  | cons b r ih =>
    cases k with
    | zero =>
      simp only [memWriteBytes, Nat.add_zero, List.getElem_cons_zero]
      rw [memRead_writeBytes_outside _ _ _ _ (by omega), memRead_write_same]
    | succ k =>
      simp only [memWriteBytes, List.getElem_cons_succ]
      have := ih (memWrite m a b) (a + 1) k (by simpa using h)
      rw [show a + (k + 1) = a + 1 + k by omega, this]

/-! ## The canonical form -/

/-- The canonical form, said of all pairs of entries. -/
theorem memWf_iff (m : List Host.Cell) :
    memWf m = true ↔ m.Pairwise (fun c d => c.1 < d.1) ∧ ∀ c ∈ m, c.2 ≠ memDefault c.1 := by
  induction m with
  | nil => simp [memWf]
  | cons e r ih =>
    obtain ⟨a, b⟩ := e
    cases r with
    | nil => simp [memWf]
    | cons e' r' =>
      obtain ⟨c, d⟩ := e'
      simp only [memWf, Bool.and_eq_true, ih, decide_eq_true_eq, List.pairwise_cons, List.mem_cons, forall_eq_or_imp]
      constructor
      · rintro ⟨⟨h1, h2⟩, ⟨h3, h4⟩, h5, h6⟩
        exact ⟨⟨⟨h2, fun x hx => lt_trans h2 (h3 x hx)⟩, h3, h4⟩, by simpa using h1, h5, h6⟩
      · rintro ⟨⟨⟨h2, _⟩, h3, h4⟩, h1, h5, h6⟩
        exact ⟨⟨by simpa using h1, h2⟩, ⟨h3, h4⟩, h5, h6⟩

/-- Entries kept by a filter keep the form. -/
theorem memWf_filter {m : List Host.Cell} (p : Host.Cell → Bool) (h : memWf m = true) : memWf (m.filter p) = true := by
  rw [memWf_iff] at *
  exact ⟨h.1.filter _, fun c hc => h.2 c (List.mem_filter.mp hc).1⟩

/-- A range lost keeps the form. -/
theorem memWf_lose {m : List Host.Cell} (lo hi : Nat) (h : memWf m = true) : memWf (memLose m lo hi) = true :=
  memWf_filter _ h

theorem memInsert_mem (m : List Host.Cell) (a : Nat) (b : Byte) (c : Host.Cell) :
    c ∈ memInsert m a b ↔ c = (a, b) ∨ c ∈ m := by
  induction m with
  | nil => simp [memInsert]
  | cons e r ih =>
    obtain ⟨k, d⟩ := e
    unfold memInsert
    split
    · simp
    · simp only [List.mem_cons, ih]; tauto

theorem memInsert_pairwise (m : List Host.Cell) (a : Nat) (b : Byte) (h : m.Pairwise (fun c d => c.1 < d.1))
    (hn : ∀ c ∈ m, c.1 ≠ a) : (memInsert m a b).Pairwise (fun c d => c.1 < d.1) := by
  induction m with
  | nil => simp [memInsert]
  | cons e r ih =>
    obtain ⟨k, d⟩ := e
    rw [List.pairwise_cons] at h
    have hk : k ≠ a := hn (k, d) (by simp)
    unfold memInsert
    split
    · next hlt =>
      rw [List.pairwise_cons, List.pairwise_cons]
      refine ⟨fun c hc => ?_, h⟩
      rcases List.mem_cons.mp hc with rfl | hc
      · exact hlt
      · exact lt_trans hlt (h.1 c hc)
    · next hge =>
      rw [List.pairwise_cons]
      refine ⟨fun c hc => ?_, ih h.2 (fun c hc => hn c (by simp [hc]))⟩
      rcases (memInsert_mem r a b c).mp hc with rfl | hc
      · show k < a; omega
      · exact h.1 c hc

/-- A byte written keeps the form. -/
theorem memWf_write {m : List Host.Cell} (a : Nat) (b : Byte) (h : memWf m = true) : memWf (memWrite m a b) = true := by
  unfold memWrite
  simp only
  have hf := memWf_filter (fun c => c.1 ≠ a) h
  split
  · exact hf
  · next hb =>
    rw [memWf_iff] at hf ⊢
    refine ⟨memInsert_pairwise _ a b hf.1 (fun c hc => by simpa using (List.mem_filter.mp hc).2), fun c hc => ?_⟩
    rcases (memInsert_mem _ a b c).mp hc with rfl | hc
    · exact hb
    · exact hf.2 c hc

/-- Bytes written keep the form. -/
theorem memWf_writeBytes (l : List Byte) {m : List Host.Cell} (a : Nat) (h : memWf m = true) :
    memWf (memWriteBytes m a l) = true := by
  induction l generalizing m a with
  | nil => exact h
  | cons b r ih => exact ih (a + 1) (memWf_write a b h)

/-- A word written keeps the form. -/
theorem memWf_writeWord {m : List Host.Cell} (a : Nat) (w : Word) (h : memWf m = true) : memWf (memWriteWord m a w) = true :=
  memWf_writeBytes _ _ h

end Sys2Proof.Machine
end

