-- ==== Sys2Proof/Laws/Tab.lean ====
section
/-! SUPPORT. Sparse tables: a key read after a key put, deleted, or cleared in a range. -/

namespace Sys2Proof.Machine

variable {α : Type}

theorem Tab.find_put_same (t : Tab α) (i : Nat) (v : α) : Tab.find (Tab.put t i v) i = some v := by
  induction t with
  | nil => simp [Tab.put, Tab.find]
  | cons e r ih =>
    obtain ⟨k, w⟩ := e
    unfold Tab.put
    split
    · simp [Tab.find]
    · split
      · simp [Tab.find]
      · simp [Tab.find, *]

theorem Tab.find_put_other (t : Tab α) {i j : Nat} (v : α) (h : i ≠ j) :
    Tab.find (Tab.put t i v) j = Tab.find t j := by
  induction t with
  | nil => simp [Tab.put, Tab.find, h]
  | cons e r ih =>
    obtain ⟨k, w⟩ := e
    unfold Tab.put
    split
    · subst_vars; simp [Tab.find, h]
    · split
      · simp [Tab.find, h]
      · simp [Tab.find, ih]

@[simp] theorem Tab.get_put_same (d : α) (t : Tab α) (i : Nat) (v : α) : Tab.get d (Tab.put t i v) i = v := by
  simp [Tab.get, Tab.find_put_same]

theorem Tab.get_put_other (d : α) (t : Tab α) {i j : Nat} (v : α) (h : i ≠ j) :
    Tab.get d (Tab.put t i v) j = Tab.get d t j := by
  simp [Tab.get, Tab.find_put_other t v h]

theorem Tab.find_filter (t : Tab α) (p : Nat → Bool) (j : Nat) :
    Tab.find (t.filter (fun e => p e.1)) j = if p j then Tab.find t j else none := by
  induction t with
  | nil => simp [Tab.find]
  | cons e r ih =>
    obtain ⟨k, w⟩ := e
    by_cases hk : p k
    · simp only [List.filter_cons, hk, if_true, Tab.find]
      by_cases hj : k = j
      · subst hj; simp [hk]
      · simp [hj, ih]
    · simp only [List.filter_cons, hk, Tab.find]
      by_cases hj : k = j
      · subst hj; simpa [hk] using ih
      · simpa [hj] using ih

end Sys2Proof.Machine
end

