-- ==== Sys2Proof/Laws/State.lean ====
section
/-! SUPPORT. The updates of State: what each leaves, field by field, and what reads after it. -/

namespace Sys2Proof.Machine

variable (s : State)

@[simp] theorem State.setReg_pending (a : Nat) (w : Word) : (s.setReg a w).pending = s.pending := rfl
@[simp] theorem State.setReg_free (a : Nat) (w : Word) : (s.setReg a w).free = s.free := rfl
@[simp] theorem State.setReg_el (a : Nat) (w : Word) : (s.setReg a w).el = s.el := rfl
@[simp] theorem State.setReg_pset (a : Nat) (w : Word) : (s.setReg a w).pset = s.pset := rfl
@[simp] theorem State.setReg_cset (a : Nat) (w : Word) : (s.setReg a w).cset = s.cset := rfl
@[simp] theorem State.setReg_rdata (a : Nat) (w : Word) : (s.setReg a w).rdata = s.rdata := rfl
@[simp] theorem State.setReg_snaps (a : Nat) (w : Word) : (s.setReg a w).snaps = s.snaps := rfl
@[simp] theorem State.setReg_mem (a : Nat) (w : Word) : (s.setReg a w).mem = s.mem := rfl
@[simp] theorem State.setReg_merges (a : Nat) (w : Word) : (s.setReg a w).merges = s.merges := rfl
@[simp] theorem State.setReg_arrived (a : Nat) (w : Word) : (s.setReg a w).arrived = s.arrived := rfl
@[simp] theorem State.setReg_faultWait (a : Nat) (w : Word) : (s.setReg a w).faultWait = s.faultWait := rfl
@[simp] theorem State.setReg_faults (a : Nat) (w : Word) : (s.setReg a w).faults = s.faults := rfl
@[simp] theorem State.setReg_faultLost (a : Nat) (w : Word) : (s.setReg a w).faultLost = s.faultLost := rfl
@[simp] theorem State.setReg_faultLostGts (a : Nat) (w : Word) : (s.setReg a w).faultLostGts = s.faultLostGts := rfl
@[simp] theorem State.setReg_owner (a : Nat) (w : Word) : (s.setReg a w).owner = s.owner := rfl
@[simp] theorem State.setReg_dom (a : Nat) (w : Word) : (s.setReg a w).dom = s.dom := rfl
@[simp] theorem State.setReg_time (a : Nat) (w : Word) : (s.setReg a w).time = s.time := rfl
@[simp] theorem State.setReg_tiles (a : Nat) (w : Word) : (s.setReg a w).tiles = s.tiles := rfl
@[simp] theorem State.setReg_lanes (a : Nat) (w : Word) : (s.setReg a w).lanes = s.lanes := rfl
@[simp] theorem State.setReg_portQ (a : Nat) (w : Word) : (s.setReg a w).portQ = s.portQ := rfl
@[simp] theorem State.setReg_engines (a : Nat) (w : Word) : (s.setReg a w).engines = s.engines := rfl
@[simp] theorem State.setReg_slices (a : Nat) (w : Word) : (s.setReg a w).slices = s.slices := rfl
@[simp] theorem State.setReg_stp (a : Nat) (w : Word) : (s.setReg a w).stp = s.stp := rfl
@[simp] theorem State.setReg_rings (a : Nat) (w : Word) : (s.setReg a w).rings = s.rings := rfl
@[simp] theorem State.setReg_handles (a : Nat) (w : Word) : (s.setReg a w).handles = s.handles := rfl
@[simp] theorem State.setReg_flusher (a : Nat) (w : Word) : (s.setReg a w).flusher = s.flusher := rfl
@[simp] theorem State.setReg_hwuCache (a : Nat) (w : Word) : (s.setReg a w).hwuCache = s.hwuCache := rfl
@[simp] theorem State.setReg_sense (a : Nat) (w : Word) : (s.setReg a w).sense = s.sense := rfl
@[simp] theorem State.setReg_events (a : Nat) (w : Word) : (s.setReg a w).events = s.events := rfl
@[simp] theorem State.setReg_pwr (a : Nat) (w : Word) : (s.setReg a w).pwr = s.pwr := rfl
@[simp] theorem State.setReg_ports (a : Nat) (w : Word) : (s.setReg a w).ports = s.ports := rfl
@[simp] theorem State.setReg_ohp (a : Nat) (w : Word) : (s.setReg a w).ohp = s.ohp := rfl
@[simp] theorem State.setReg_cores (a : Nat) (w : Word) : (s.setReg a w).cores = s.cores := rfl
@[simp] theorem State.setReg_mbx (a : Nat) (w : Word) : (s.setReg a w).mbx = s.mbx := rfl
@[simp] theorem State.setReg_timers (a : Nat) (w : Word) : (s.setReg a w).timers = s.timers := rfl
@[simp] theorem State.setReg_dither (a : Nat) (w : Word) : (s.setReg a w).dither = s.dither := rfl
@[simp] theorem State.setReg_tbus (a : Nat) (w : Word) : (s.setReg a w).tbus = s.tbus := rfl
@[simp] theorem State.setReg_twb (a : Nat) (w : Word) : (s.setReg a w).twb = s.twb := rfl
@[simp] theorem State.setReg_csp (a : Nat) (w : Word) : (s.setReg a w).csp = s.csp := rfl
@[simp] theorem State.setReg_islands (a : Nat) (w : Word) : (s.setReg a w).islands = s.islands := rfl
@[simp] theorem State.setReg_sup (a : Nat) (w : Word) : (s.setReg a w).sup = s.sup := rfl
@[simp] theorem State.setReg_sec (a : Nat) (w : Word) : (s.setReg a w).sec = s.sec := rfl
@[simp] theorem State.setReg_flx (a : Nat) (w : Word) : (s.setReg a w).flx = s.flx := rfl
@[simp] theorem State.setReg_mesh (a : Nat) (w : Word) : (s.setReg a w).mesh = s.mesh := rfl
@[simp] theorem State.setReg_pipe (a : Nat) (w : Word) : (s.setReg a w).pipe = s.pipe := rfl
@[simp] theorem State.setReg_copies (a : Nat) (w : Word) : (s.setReg a w).copies = s.copies := rfl

@[simp] theorem State.drawn_pending : (s.drawn ).pending = s.pending := rfl
@[simp] theorem State.drawn_el : (s.drawn ).el = s.el := rfl
@[simp] theorem State.drawn_regs : (s.drawn ).regs = s.regs := rfl
@[simp] theorem State.drawn_pset : (s.drawn ).pset = s.pset := rfl
@[simp] theorem State.drawn_cset : (s.drawn ).cset = s.cset := rfl
@[simp] theorem State.drawn_rdata : (s.drawn ).rdata = s.rdata := rfl
@[simp] theorem State.drawn_snaps : (s.drawn ).snaps = s.snaps := rfl
@[simp] theorem State.drawn_mem : (s.drawn ).mem = s.mem := rfl
@[simp] theorem State.drawn_merges : (s.drawn ).merges = s.merges := rfl
@[simp] theorem State.drawn_arrived : (s.drawn ).arrived = s.arrived := rfl
@[simp] theorem State.drawn_faultWait : (s.drawn ).faultWait = s.faultWait := rfl
@[simp] theorem State.drawn_faults : (s.drawn ).faults = s.faults := rfl
@[simp] theorem State.drawn_faultLost : (s.drawn ).faultLost = s.faultLost := rfl
@[simp] theorem State.drawn_faultLostGts : (s.drawn ).faultLostGts = s.faultLostGts := rfl
@[simp] theorem State.drawn_owner : (s.drawn ).owner = s.owner := rfl
@[simp] theorem State.drawn_dom : (s.drawn ).dom = s.dom := rfl
@[simp] theorem State.drawn_time : (s.drawn ).time = s.time := rfl
@[simp] theorem State.drawn_tiles : (s.drawn ).tiles = s.tiles := rfl
@[simp] theorem State.drawn_lanes : (s.drawn ).lanes = s.lanes := rfl
@[simp] theorem State.drawn_portQ : (s.drawn ).portQ = s.portQ := rfl
@[simp] theorem State.drawn_engines : (s.drawn ).engines = s.engines := rfl
@[simp] theorem State.drawn_slices : (s.drawn ).slices = s.slices := rfl
@[simp] theorem State.drawn_stp : (s.drawn ).stp = s.stp := rfl
@[simp] theorem State.drawn_rings : (s.drawn ).rings = s.rings := rfl
@[simp] theorem State.drawn_handles : (s.drawn ).handles = s.handles := rfl
@[simp] theorem State.drawn_flusher : (s.drawn ).flusher = s.flusher := rfl
@[simp] theorem State.drawn_hwuCache : (s.drawn ).hwuCache = s.hwuCache := rfl
@[simp] theorem State.drawn_sense : (s.drawn ).sense = s.sense := rfl
@[simp] theorem State.drawn_events : (s.drawn ).events = s.events := rfl
@[simp] theorem State.drawn_pwr : (s.drawn ).pwr = s.pwr := rfl
@[simp] theorem State.drawn_ports : (s.drawn ).ports = s.ports := rfl
@[simp] theorem State.drawn_ohp : (s.drawn ).ohp = s.ohp := rfl
@[simp] theorem State.drawn_cores : (s.drawn ).cores = s.cores := rfl
@[simp] theorem State.drawn_mbx : (s.drawn ).mbx = s.mbx := rfl
@[simp] theorem State.drawn_timers : (s.drawn ).timers = s.timers := rfl
@[simp] theorem State.drawn_dither : (s.drawn ).dither = s.dither := rfl
@[simp] theorem State.drawn_tbus : (s.drawn ).tbus = s.tbus := rfl
@[simp] theorem State.drawn_twb : (s.drawn ).twb = s.twb := rfl
@[simp] theorem State.drawn_csp : (s.drawn ).csp = s.csp := rfl
@[simp] theorem State.drawn_islands : (s.drawn ).islands = s.islands := rfl
@[simp] theorem State.drawn_sup : (s.drawn ).sup = s.sup := rfl
@[simp] theorem State.drawn_sec : (s.drawn ).sec = s.sec := rfl
@[simp] theorem State.drawn_flx : (s.drawn ).flx = s.flx := rfl
@[simp] theorem State.drawn_mesh : (s.drawn ).mesh = s.mesh := rfl

@[simp] theorem State.returns_pending (r : Nat) (w : Word) : (s.returns r w).pending = s.pending := rfl
@[simp] theorem State.returns_free (r : Nat) (w : Word) : (s.returns r w).free = s.free := rfl
@[simp] theorem State.returns_el (r : Nat) (w : Word) : (s.returns r w).el = s.el := rfl
@[simp] theorem State.returns_regs (r : Nat) (w : Word) : (s.returns r w).regs = s.regs := rfl
@[simp] theorem State.returns_pset (r : Nat) (w : Word) : (s.returns r w).pset = s.pset := rfl
@[simp] theorem State.returns_cset (r : Nat) (w : Word) : (s.returns r w).cset = s.cset := rfl
@[simp] theorem State.returns_snaps (r : Nat) (w : Word) : (s.returns r w).snaps = s.snaps := rfl
@[simp] theorem State.returns_mem (r : Nat) (w : Word) : (s.returns r w).mem = s.mem := rfl
@[simp] theorem State.returns_merges (r : Nat) (w : Word) : (s.returns r w).merges = s.merges := rfl
@[simp] theorem State.returns_arrived (r : Nat) (w : Word) : (s.returns r w).arrived = s.arrived := rfl
@[simp] theorem State.returns_faultWait (r : Nat) (w : Word) : (s.returns r w).faultWait = s.faultWait := rfl
@[simp] theorem State.returns_faults (r : Nat) (w : Word) : (s.returns r w).faults = s.faults := rfl
@[simp] theorem State.returns_faultLost (r : Nat) (w : Word) : (s.returns r w).faultLost = s.faultLost := rfl
@[simp] theorem State.returns_faultLostGts (r : Nat) (w : Word) : (s.returns r w).faultLostGts = s.faultLostGts := rfl
@[simp] theorem State.returns_owner (r : Nat) (w : Word) : (s.returns r w).owner = s.owner := rfl
@[simp] theorem State.returns_dom (r : Nat) (w : Word) : (s.returns r w).dom = s.dom := rfl
@[simp] theorem State.returns_time (r : Nat) (w : Word) : (s.returns r w).time = s.time := rfl
@[simp] theorem State.returns_tiles (r : Nat) (w : Word) : (s.returns r w).tiles = s.tiles := rfl
@[simp] theorem State.returns_lanes (r : Nat) (w : Word) : (s.returns r w).lanes = s.lanes := rfl
@[simp] theorem State.returns_portQ (r : Nat) (w : Word) : (s.returns r w).portQ = s.portQ := rfl
@[simp] theorem State.returns_engines (r : Nat) (w : Word) : (s.returns r w).engines = s.engines := rfl
@[simp] theorem State.returns_slices (r : Nat) (w : Word) : (s.returns r w).slices = s.slices := rfl
@[simp] theorem State.returns_stp (r : Nat) (w : Word) : (s.returns r w).stp = s.stp := rfl
@[simp] theorem State.returns_rings (r : Nat) (w : Word) : (s.returns r w).rings = s.rings := rfl
@[simp] theorem State.returns_handles (r : Nat) (w : Word) : (s.returns r w).handles = s.handles := rfl
@[simp] theorem State.returns_flusher (r : Nat) (w : Word) : (s.returns r w).flusher = s.flusher := rfl
@[simp] theorem State.returns_hwuCache (r : Nat) (w : Word) : (s.returns r w).hwuCache = s.hwuCache := rfl
@[simp] theorem State.returns_sense (r : Nat) (w : Word) : (s.returns r w).sense = s.sense := rfl
@[simp] theorem State.returns_events (r : Nat) (w : Word) : (s.returns r w).events = s.events := rfl
@[simp] theorem State.returns_pwr (r : Nat) (w : Word) : (s.returns r w).pwr = s.pwr := rfl
@[simp] theorem State.returns_ports (r : Nat) (w : Word) : (s.returns r w).ports = s.ports := rfl
@[simp] theorem State.returns_ohp (r : Nat) (w : Word) : (s.returns r w).ohp = s.ohp := rfl
@[simp] theorem State.returns_cores (r : Nat) (w : Word) : (s.returns r w).cores = s.cores := rfl
@[simp] theorem State.returns_mbx (r : Nat) (w : Word) : (s.returns r w).mbx = s.mbx := rfl
@[simp] theorem State.returns_timers (r : Nat) (w : Word) : (s.returns r w).timers = s.timers := rfl
@[simp] theorem State.returns_dither (r : Nat) (w : Word) : (s.returns r w).dither = s.dither := rfl
@[simp] theorem State.returns_tbus (r : Nat) (w : Word) : (s.returns r w).tbus = s.tbus := rfl
@[simp] theorem State.returns_twb (r : Nat) (w : Word) : (s.returns r w).twb = s.twb := rfl
@[simp] theorem State.returns_csp (r : Nat) (w : Word) : (s.returns r w).csp = s.csp := rfl
@[simp] theorem State.returns_islands (r : Nat) (w : Word) : (s.returns r w).islands = s.islands := rfl
@[simp] theorem State.returns_sup (r : Nat) (w : Word) : (s.returns r w).sup = s.sup := rfl
@[simp] theorem State.returns_sec (r : Nat) (w : Word) : (s.returns r w).sec = s.sec := rfl
@[simp] theorem State.returns_flx (r : Nat) (w : Word) : (s.returns r w).flx = s.flx := rfl
@[simp] theorem State.returns_mesh (r : Nat) (w : Word) : (s.returns r w).mesh = s.mesh := rfl
@[simp] theorem State.returns_pipe (r : Nat) (w : Word) : (s.returns r w).pipe = s.pipe := rfl
@[simp] theorem State.returns_copies (r : Nat) (w : Word) : (s.returns r w).copies = s.copies := rfl

@[simp] theorem State.setDom_pending (d : Nat) (x : DomState) : (s.setDom d x).pending = s.pending := rfl
@[simp] theorem State.setDom_free (d : Nat) (x : DomState) : (s.setDom d x).free = s.free := rfl
@[simp] theorem State.setDom_el (d : Nat) (x : DomState) : (s.setDom d x).el = s.el := rfl
@[simp] theorem State.setDom_regs (d : Nat) (x : DomState) : (s.setDom d x).regs = s.regs := rfl
@[simp] theorem State.setDom_pset (d : Nat) (x : DomState) : (s.setDom d x).pset = s.pset := rfl
@[simp] theorem State.setDom_cset (d : Nat) (x : DomState) : (s.setDom d x).cset = s.cset := rfl
@[simp] theorem State.setDom_rdata (d : Nat) (x : DomState) : (s.setDom d x).rdata = s.rdata := rfl
@[simp] theorem State.setDom_snaps (d : Nat) (x : DomState) : (s.setDom d x).snaps = s.snaps := rfl
@[simp] theorem State.setDom_mem (d : Nat) (x : DomState) : (s.setDom d x).mem = s.mem := rfl
@[simp] theorem State.setDom_merges (d : Nat) (x : DomState) : (s.setDom d x).merges = s.merges := rfl
@[simp] theorem State.setDom_arrived (d : Nat) (x : DomState) : (s.setDom d x).arrived = s.arrived := rfl
@[simp] theorem State.setDom_faultWait (d : Nat) (x : DomState) : (s.setDom d x).faultWait = s.faultWait := rfl
@[simp] theorem State.setDom_faults (d : Nat) (x : DomState) : (s.setDom d x).faults = s.faults := rfl
@[simp] theorem State.setDom_faultLost (d : Nat) (x : DomState) : (s.setDom d x).faultLost = s.faultLost := rfl
@[simp] theorem State.setDom_faultLostGts (d : Nat) (x : DomState) : (s.setDom d x).faultLostGts = s.faultLostGts := rfl
@[simp] theorem State.setDom_owner (d : Nat) (x : DomState) : (s.setDom d x).owner = s.owner := rfl
@[simp] theorem State.setDom_time (d : Nat) (x : DomState) : (s.setDom d x).time = s.time := rfl
@[simp] theorem State.setDom_tiles (d : Nat) (x : DomState) : (s.setDom d x).tiles = s.tiles := rfl
@[simp] theorem State.setDom_lanes (d : Nat) (x : DomState) : (s.setDom d x).lanes = s.lanes := rfl
@[simp] theorem State.setDom_portQ (d : Nat) (x : DomState) : (s.setDom d x).portQ = s.portQ := rfl
@[simp] theorem State.setDom_engines (d : Nat) (x : DomState) : (s.setDom d x).engines = s.engines := rfl
@[simp] theorem State.setDom_slices (d : Nat) (x : DomState) : (s.setDom d x).slices = s.slices := rfl
@[simp] theorem State.setDom_stp (d : Nat) (x : DomState) : (s.setDom d x).stp = s.stp := rfl
@[simp] theorem State.setDom_rings (d : Nat) (x : DomState) : (s.setDom d x).rings = s.rings := rfl
@[simp] theorem State.setDom_handles (d : Nat) (x : DomState) : (s.setDom d x).handles = s.handles := rfl
@[simp] theorem State.setDom_flusher (d : Nat) (x : DomState) : (s.setDom d x).flusher = s.flusher := rfl
@[simp] theorem State.setDom_hwuCache (d : Nat) (x : DomState) : (s.setDom d x).hwuCache = s.hwuCache := rfl
@[simp] theorem State.setDom_sense (d : Nat) (x : DomState) : (s.setDom d x).sense = s.sense := rfl
@[simp] theorem State.setDom_events (d : Nat) (x : DomState) : (s.setDom d x).events = s.events := rfl
@[simp] theorem State.setDom_pwr (d : Nat) (x : DomState) : (s.setDom d x).pwr = s.pwr := rfl
@[simp] theorem State.setDom_ports (d : Nat) (x : DomState) : (s.setDom d x).ports = s.ports := rfl
@[simp] theorem State.setDom_ohp (d : Nat) (x : DomState) : (s.setDom d x).ohp = s.ohp := rfl
@[simp] theorem State.setDom_cores (d : Nat) (x : DomState) : (s.setDom d x).cores = s.cores := rfl
@[simp] theorem State.setDom_mbx (d : Nat) (x : DomState) : (s.setDom d x).mbx = s.mbx := rfl
@[simp] theorem State.setDom_timers (d : Nat) (x : DomState) : (s.setDom d x).timers = s.timers := rfl
@[simp] theorem State.setDom_dither (d : Nat) (x : DomState) : (s.setDom d x).dither = s.dither := rfl
@[simp] theorem State.setDom_tbus (d : Nat) (x : DomState) : (s.setDom d x).tbus = s.tbus := rfl
@[simp] theorem State.setDom_twb (d : Nat) (x : DomState) : (s.setDom d x).twb = s.twb := rfl
@[simp] theorem State.setDom_csp (d : Nat) (x : DomState) : (s.setDom d x).csp = s.csp := rfl
@[simp] theorem State.setDom_islands (d : Nat) (x : DomState) : (s.setDom d x).islands = s.islands := rfl
@[simp] theorem State.setDom_sup (d : Nat) (x : DomState) : (s.setDom d x).sup = s.sup := rfl
@[simp] theorem State.setDom_sec (d : Nat) (x : DomState) : (s.setDom d x).sec = s.sec := rfl
@[simp] theorem State.setDom_flx (d : Nat) (x : DomState) : (s.setDom d x).flx = s.flx := rfl
@[simp] theorem State.setDom_mesh (d : Nat) (x : DomState) : (s.setDom d x).mesh = s.mesh := rfl
@[simp] theorem State.setDom_pipe (d : Nat) (x : DomState) : (s.setDom d x).pipe = s.pipe := rfl
@[simp] theorem State.setDom_copies (d : Nat) (x : DomState) : (s.setDom d x).copies = s.copies := rfl

@[simp] theorem State.setTile_pending (t : Nat) (x : Tile) : (s.setTile t x).pending = s.pending := rfl
@[simp] theorem State.setTile_free (t : Nat) (x : Tile) : (s.setTile t x).free = s.free := rfl
@[simp] theorem State.setTile_el (t : Nat) (x : Tile) : (s.setTile t x).el = s.el := rfl
@[simp] theorem State.setTile_regs (t : Nat) (x : Tile) : (s.setTile t x).regs = s.regs := rfl
@[simp] theorem State.setTile_pset (t : Nat) (x : Tile) : (s.setTile t x).pset = s.pset := rfl
@[simp] theorem State.setTile_cset (t : Nat) (x : Tile) : (s.setTile t x).cset = s.cset := rfl
@[simp] theorem State.setTile_rdata (t : Nat) (x : Tile) : (s.setTile t x).rdata = s.rdata := rfl
@[simp] theorem State.setTile_snaps (t : Nat) (x : Tile) : (s.setTile t x).snaps = s.snaps := rfl
@[simp] theorem State.setTile_mem (t : Nat) (x : Tile) : (s.setTile t x).mem = s.mem := rfl
@[simp] theorem State.setTile_merges (t : Nat) (x : Tile) : (s.setTile t x).merges = s.merges := rfl
@[simp] theorem State.setTile_arrived (t : Nat) (x : Tile) : (s.setTile t x).arrived = s.arrived := rfl
@[simp] theorem State.setTile_faultWait (t : Nat) (x : Tile) : (s.setTile t x).faultWait = s.faultWait := rfl
@[simp] theorem State.setTile_faults (t : Nat) (x : Tile) : (s.setTile t x).faults = s.faults := rfl
@[simp] theorem State.setTile_faultLost (t : Nat) (x : Tile) : (s.setTile t x).faultLost = s.faultLost := rfl
@[simp] theorem State.setTile_faultLostGts (t : Nat) (x : Tile) : (s.setTile t x).faultLostGts = s.faultLostGts := rfl
@[simp] theorem State.setTile_owner (t : Nat) (x : Tile) : (s.setTile t x).owner = s.owner := rfl
@[simp] theorem State.setTile_dom (t : Nat) (x : Tile) : (s.setTile t x).dom = s.dom := rfl
@[simp] theorem State.setTile_time (t : Nat) (x : Tile) : (s.setTile t x).time = s.time := rfl
@[simp] theorem State.setTile_lanes (t : Nat) (x : Tile) : (s.setTile t x).lanes = s.lanes := rfl
@[simp] theorem State.setTile_portQ (t : Nat) (x : Tile) : (s.setTile t x).portQ = s.portQ := rfl
@[simp] theorem State.setTile_engines (t : Nat) (x : Tile) : (s.setTile t x).engines = s.engines := rfl
@[simp] theorem State.setTile_slices (t : Nat) (x : Tile) : (s.setTile t x).slices = s.slices := rfl
@[simp] theorem State.setTile_stp (t : Nat) (x : Tile) : (s.setTile t x).stp = s.stp := rfl
@[simp] theorem State.setTile_rings (t : Nat) (x : Tile) : (s.setTile t x).rings = s.rings := rfl
@[simp] theorem State.setTile_handles (t : Nat) (x : Tile) : (s.setTile t x).handles = s.handles := rfl
@[simp] theorem State.setTile_flusher (t : Nat) (x : Tile) : (s.setTile t x).flusher = s.flusher := rfl
@[simp] theorem State.setTile_hwuCache (t : Nat) (x : Tile) : (s.setTile t x).hwuCache = s.hwuCache := rfl
@[simp] theorem State.setTile_sense (t : Nat) (x : Tile) : (s.setTile t x).sense = s.sense := rfl
@[simp] theorem State.setTile_events (t : Nat) (x : Tile) : (s.setTile t x).events = s.events := rfl
@[simp] theorem State.setTile_pwr (t : Nat) (x : Tile) : (s.setTile t x).pwr = s.pwr := rfl
@[simp] theorem State.setTile_ports (t : Nat) (x : Tile) : (s.setTile t x).ports = s.ports := rfl
@[simp] theorem State.setTile_ohp (t : Nat) (x : Tile) : (s.setTile t x).ohp = s.ohp := rfl
@[simp] theorem State.setTile_cores (t : Nat) (x : Tile) : (s.setTile t x).cores = s.cores := rfl
@[simp] theorem State.setTile_mbx (t : Nat) (x : Tile) : (s.setTile t x).mbx = s.mbx := rfl
@[simp] theorem State.setTile_timers (t : Nat) (x : Tile) : (s.setTile t x).timers = s.timers := rfl
@[simp] theorem State.setTile_dither (t : Nat) (x : Tile) : (s.setTile t x).dither = s.dither := rfl
@[simp] theorem State.setTile_tbus (t : Nat) (x : Tile) : (s.setTile t x).tbus = s.tbus := rfl
@[simp] theorem State.setTile_twb (t : Nat) (x : Tile) : (s.setTile t x).twb = s.twb := rfl
@[simp] theorem State.setTile_csp (t : Nat) (x : Tile) : (s.setTile t x).csp = s.csp := rfl
@[simp] theorem State.setTile_islands (t : Nat) (x : Tile) : (s.setTile t x).islands = s.islands := rfl
@[simp] theorem State.setTile_sup (t : Nat) (x : Tile) : (s.setTile t x).sup = s.sup := rfl
@[simp] theorem State.setTile_sec (t : Nat) (x : Tile) : (s.setTile t x).sec = s.sec := rfl
@[simp] theorem State.setTile_flx (t : Nat) (x : Tile) : (s.setTile t x).flx = s.flx := rfl
@[simp] theorem State.setTile_mesh (t : Nat) (x : Tile) : (s.setTile t x).mesh = s.mesh := rfl
@[simp] theorem State.setTile_pipe (t : Nat) (x : Tile) : (s.setTile t x).pipe = s.pipe := rfl
@[simp] theorem State.setTile_copies (t : Nat) (x : Tile) : (s.setTile t x).copies = s.copies := rfl

@[simp] theorem State.setEngine_pending (e : Nat) (x : Engine) : (s.setEngine e x).pending = s.pending := rfl
@[simp] theorem State.setEngine_free (e : Nat) (x : Engine) : (s.setEngine e x).free = s.free := rfl
@[simp] theorem State.setEngine_el (e : Nat) (x : Engine) : (s.setEngine e x).el = s.el := rfl
@[simp] theorem State.setEngine_regs (e : Nat) (x : Engine) : (s.setEngine e x).regs = s.regs := rfl
@[simp] theorem State.setEngine_pset (e : Nat) (x : Engine) : (s.setEngine e x).pset = s.pset := rfl
@[simp] theorem State.setEngine_cset (e : Nat) (x : Engine) : (s.setEngine e x).cset = s.cset := rfl
@[simp] theorem State.setEngine_rdata (e : Nat) (x : Engine) : (s.setEngine e x).rdata = s.rdata := rfl
@[simp] theorem State.setEngine_snaps (e : Nat) (x : Engine) : (s.setEngine e x).snaps = s.snaps := rfl
@[simp] theorem State.setEngine_mem (e : Nat) (x : Engine) : (s.setEngine e x).mem = s.mem := rfl
@[simp] theorem State.setEngine_merges (e : Nat) (x : Engine) : (s.setEngine e x).merges = s.merges := rfl
@[simp] theorem State.setEngine_arrived (e : Nat) (x : Engine) : (s.setEngine e x).arrived = s.arrived := rfl
@[simp] theorem State.setEngine_faultWait (e : Nat) (x : Engine) : (s.setEngine e x).faultWait = s.faultWait := rfl
@[simp] theorem State.setEngine_faults (e : Nat) (x : Engine) : (s.setEngine e x).faults = s.faults := rfl
@[simp] theorem State.setEngine_faultLost (e : Nat) (x : Engine) : (s.setEngine e x).faultLost = s.faultLost := rfl
@[simp] theorem State.setEngine_faultLostGts (e : Nat) (x : Engine) : (s.setEngine e x).faultLostGts = s.faultLostGts := rfl
@[simp] theorem State.setEngine_owner (e : Nat) (x : Engine) : (s.setEngine e x).owner = s.owner := rfl
@[simp] theorem State.setEngine_dom (e : Nat) (x : Engine) : (s.setEngine e x).dom = s.dom := rfl
@[simp] theorem State.setEngine_time (e : Nat) (x : Engine) : (s.setEngine e x).time = s.time := rfl
@[simp] theorem State.setEngine_tiles (e : Nat) (x : Engine) : (s.setEngine e x).tiles = s.tiles := rfl
@[simp] theorem State.setEngine_lanes (e : Nat) (x : Engine) : (s.setEngine e x).lanes = s.lanes := rfl
@[simp] theorem State.setEngine_portQ (e : Nat) (x : Engine) : (s.setEngine e x).portQ = s.portQ := rfl
@[simp] theorem State.setEngine_slices (e : Nat) (x : Engine) : (s.setEngine e x).slices = s.slices := rfl
@[simp] theorem State.setEngine_stp (e : Nat) (x : Engine) : (s.setEngine e x).stp = s.stp := rfl
@[simp] theorem State.setEngine_rings (e : Nat) (x : Engine) : (s.setEngine e x).rings = s.rings := rfl
@[simp] theorem State.setEngine_handles (e : Nat) (x : Engine) : (s.setEngine e x).handles = s.handles := rfl
@[simp] theorem State.setEngine_flusher (e : Nat) (x : Engine) : (s.setEngine e x).flusher = s.flusher := rfl
@[simp] theorem State.setEngine_hwuCache (e : Nat) (x : Engine) : (s.setEngine e x).hwuCache = s.hwuCache := rfl
@[simp] theorem State.setEngine_sense (e : Nat) (x : Engine) : (s.setEngine e x).sense = s.sense := rfl
@[simp] theorem State.setEngine_events (e : Nat) (x : Engine) : (s.setEngine e x).events = s.events := rfl
@[simp] theorem State.setEngine_pwr (e : Nat) (x : Engine) : (s.setEngine e x).pwr = s.pwr := rfl
@[simp] theorem State.setEngine_ports (e : Nat) (x : Engine) : (s.setEngine e x).ports = s.ports := rfl
@[simp] theorem State.setEngine_ohp (e : Nat) (x : Engine) : (s.setEngine e x).ohp = s.ohp := rfl
@[simp] theorem State.setEngine_cores (e : Nat) (x : Engine) : (s.setEngine e x).cores = s.cores := rfl
@[simp] theorem State.setEngine_mbx (e : Nat) (x : Engine) : (s.setEngine e x).mbx = s.mbx := rfl
@[simp] theorem State.setEngine_timers (e : Nat) (x : Engine) : (s.setEngine e x).timers = s.timers := rfl
@[simp] theorem State.setEngine_dither (e : Nat) (x : Engine) : (s.setEngine e x).dither = s.dither := rfl
@[simp] theorem State.setEngine_tbus (e : Nat) (x : Engine) : (s.setEngine e x).tbus = s.tbus := rfl
@[simp] theorem State.setEngine_twb (e : Nat) (x : Engine) : (s.setEngine e x).twb = s.twb := rfl
@[simp] theorem State.setEngine_csp (e : Nat) (x : Engine) : (s.setEngine e x).csp = s.csp := rfl
@[simp] theorem State.setEngine_islands (e : Nat) (x : Engine) : (s.setEngine e x).islands = s.islands := rfl
@[simp] theorem State.setEngine_sup (e : Nat) (x : Engine) : (s.setEngine e x).sup = s.sup := rfl
@[simp] theorem State.setEngine_sec (e : Nat) (x : Engine) : (s.setEngine e x).sec = s.sec := rfl
@[simp] theorem State.setEngine_flx (e : Nat) (x : Engine) : (s.setEngine e x).flx = s.flx := rfl
@[simp] theorem State.setEngine_mesh (e : Nat) (x : Engine) : (s.setEngine e x).mesh = s.mesh := rfl
@[simp] theorem State.setEngine_pipe (e : Nat) (x : Engine) : (s.setEngine e x).pipe = s.pipe := rfl
@[simp] theorem State.setEngine_copies (e : Nat) (x : Engine) : (s.setEngine e x).copies = s.copies := rfl

@[simp] theorem State.setSlice_pending (n : Nat) (x : Slice) : (s.setSlice n x).pending = s.pending := rfl
@[simp] theorem State.setSlice_free (n : Nat) (x : Slice) : (s.setSlice n x).free = s.free := rfl
@[simp] theorem State.setSlice_el (n : Nat) (x : Slice) : (s.setSlice n x).el = s.el := rfl
@[simp] theorem State.setSlice_regs (n : Nat) (x : Slice) : (s.setSlice n x).regs = s.regs := rfl
@[simp] theorem State.setSlice_pset (n : Nat) (x : Slice) : (s.setSlice n x).pset = s.pset := rfl
@[simp] theorem State.setSlice_cset (n : Nat) (x : Slice) : (s.setSlice n x).cset = s.cset := rfl
@[simp] theorem State.setSlice_rdata (n : Nat) (x : Slice) : (s.setSlice n x).rdata = s.rdata := rfl
@[simp] theorem State.setSlice_snaps (n : Nat) (x : Slice) : (s.setSlice n x).snaps = s.snaps := rfl
@[simp] theorem State.setSlice_mem (n : Nat) (x : Slice) : (s.setSlice n x).mem = s.mem := rfl
@[simp] theorem State.setSlice_merges (n : Nat) (x : Slice) : (s.setSlice n x).merges = s.merges := rfl
@[simp] theorem State.setSlice_arrived (n : Nat) (x : Slice) : (s.setSlice n x).arrived = s.arrived := rfl
@[simp] theorem State.setSlice_faultWait (n : Nat) (x : Slice) : (s.setSlice n x).faultWait = s.faultWait := rfl
@[simp] theorem State.setSlice_faults (n : Nat) (x : Slice) : (s.setSlice n x).faults = s.faults := rfl
@[simp] theorem State.setSlice_faultLost (n : Nat) (x : Slice) : (s.setSlice n x).faultLost = s.faultLost := rfl
@[simp] theorem State.setSlice_faultLostGts (n : Nat) (x : Slice) : (s.setSlice n x).faultLostGts = s.faultLostGts := rfl
@[simp] theorem State.setSlice_owner (n : Nat) (x : Slice) : (s.setSlice n x).owner = s.owner := rfl
@[simp] theorem State.setSlice_dom (n : Nat) (x : Slice) : (s.setSlice n x).dom = s.dom := rfl
@[simp] theorem State.setSlice_time (n : Nat) (x : Slice) : (s.setSlice n x).time = s.time := rfl
@[simp] theorem State.setSlice_tiles (n : Nat) (x : Slice) : (s.setSlice n x).tiles = s.tiles := rfl
@[simp] theorem State.setSlice_lanes (n : Nat) (x : Slice) : (s.setSlice n x).lanes = s.lanes := rfl
@[simp] theorem State.setSlice_portQ (n : Nat) (x : Slice) : (s.setSlice n x).portQ = s.portQ := rfl
@[simp] theorem State.setSlice_engines (n : Nat) (x : Slice) : (s.setSlice n x).engines = s.engines := rfl
@[simp] theorem State.setSlice_stp (n : Nat) (x : Slice) : (s.setSlice n x).stp = s.stp := rfl
@[simp] theorem State.setSlice_rings (n : Nat) (x : Slice) : (s.setSlice n x).rings = s.rings := rfl
@[simp] theorem State.setSlice_handles (n : Nat) (x : Slice) : (s.setSlice n x).handles = s.handles := rfl
@[simp] theorem State.setSlice_flusher (n : Nat) (x : Slice) : (s.setSlice n x).flusher = s.flusher := rfl
@[simp] theorem State.setSlice_hwuCache (n : Nat) (x : Slice) : (s.setSlice n x).hwuCache = s.hwuCache := rfl
@[simp] theorem State.setSlice_sense (n : Nat) (x : Slice) : (s.setSlice n x).sense = s.sense := rfl
@[simp] theorem State.setSlice_events (n : Nat) (x : Slice) : (s.setSlice n x).events = s.events := rfl
@[simp] theorem State.setSlice_pwr (n : Nat) (x : Slice) : (s.setSlice n x).pwr = s.pwr := rfl
@[simp] theorem State.setSlice_ports (n : Nat) (x : Slice) : (s.setSlice n x).ports = s.ports := rfl
@[simp] theorem State.setSlice_ohp (n : Nat) (x : Slice) : (s.setSlice n x).ohp = s.ohp := rfl
@[simp] theorem State.setSlice_cores (n : Nat) (x : Slice) : (s.setSlice n x).cores = s.cores := rfl
@[simp] theorem State.setSlice_mbx (n : Nat) (x : Slice) : (s.setSlice n x).mbx = s.mbx := rfl
@[simp] theorem State.setSlice_timers (n : Nat) (x : Slice) : (s.setSlice n x).timers = s.timers := rfl
@[simp] theorem State.setSlice_dither (n : Nat) (x : Slice) : (s.setSlice n x).dither = s.dither := rfl
@[simp] theorem State.setSlice_tbus (n : Nat) (x : Slice) : (s.setSlice n x).tbus = s.tbus := rfl
@[simp] theorem State.setSlice_twb (n : Nat) (x : Slice) : (s.setSlice n x).twb = s.twb := rfl
@[simp] theorem State.setSlice_csp (n : Nat) (x : Slice) : (s.setSlice n x).csp = s.csp := rfl
@[simp] theorem State.setSlice_islands (n : Nat) (x : Slice) : (s.setSlice n x).islands = s.islands := rfl
@[simp] theorem State.setSlice_sup (n : Nat) (x : Slice) : (s.setSlice n x).sup = s.sup := rfl
@[simp] theorem State.setSlice_sec (n : Nat) (x : Slice) : (s.setSlice n x).sec = s.sec := rfl
@[simp] theorem State.setSlice_flx (n : Nat) (x : Slice) : (s.setSlice n x).flx = s.flx := rfl
@[simp] theorem State.setSlice_mesh (n : Nat) (x : Slice) : (s.setSlice n x).mesh = s.mesh := rfl
@[simp] theorem State.setSlice_pipe (n : Nat) (x : Slice) : (s.setSlice n x).pipe = s.pipe := rfl
@[simp] theorem State.setSlice_copies (n : Nat) (x : Slice) : (s.setSlice n x).copies = s.copies := rfl

@[simp] theorem State.setRing_pending (n : Nat) (x : BatchRing) : (s.setRing n x).pending = s.pending := rfl
@[simp] theorem State.setRing_free (n : Nat) (x : BatchRing) : (s.setRing n x).free = s.free := rfl
@[simp] theorem State.setRing_el (n : Nat) (x : BatchRing) : (s.setRing n x).el = s.el := rfl
@[simp] theorem State.setRing_regs (n : Nat) (x : BatchRing) : (s.setRing n x).regs = s.regs := rfl
@[simp] theorem State.setRing_pset (n : Nat) (x : BatchRing) : (s.setRing n x).pset = s.pset := rfl
@[simp] theorem State.setRing_cset (n : Nat) (x : BatchRing) : (s.setRing n x).cset = s.cset := rfl
@[simp] theorem State.setRing_rdata (n : Nat) (x : BatchRing) : (s.setRing n x).rdata = s.rdata := rfl
@[simp] theorem State.setRing_snaps (n : Nat) (x : BatchRing) : (s.setRing n x).snaps = s.snaps := rfl
@[simp] theorem State.setRing_mem (n : Nat) (x : BatchRing) : (s.setRing n x).mem = s.mem := rfl
@[simp] theorem State.setRing_merges (n : Nat) (x : BatchRing) : (s.setRing n x).merges = s.merges := rfl
@[simp] theorem State.setRing_arrived (n : Nat) (x : BatchRing) : (s.setRing n x).arrived = s.arrived := rfl
@[simp] theorem State.setRing_faultWait (n : Nat) (x : BatchRing) : (s.setRing n x).faultWait = s.faultWait := rfl
@[simp] theorem State.setRing_faults (n : Nat) (x : BatchRing) : (s.setRing n x).faults = s.faults := rfl
@[simp] theorem State.setRing_faultLost (n : Nat) (x : BatchRing) : (s.setRing n x).faultLost = s.faultLost := rfl
@[simp] theorem State.setRing_faultLostGts (n : Nat) (x : BatchRing) : (s.setRing n x).faultLostGts = s.faultLostGts := rfl
@[simp] theorem State.setRing_owner (n : Nat) (x : BatchRing) : (s.setRing n x).owner = s.owner := rfl
@[simp] theorem State.setRing_dom (n : Nat) (x : BatchRing) : (s.setRing n x).dom = s.dom := rfl
@[simp] theorem State.setRing_time (n : Nat) (x : BatchRing) : (s.setRing n x).time = s.time := rfl
@[simp] theorem State.setRing_tiles (n : Nat) (x : BatchRing) : (s.setRing n x).tiles = s.tiles := rfl
@[simp] theorem State.setRing_lanes (n : Nat) (x : BatchRing) : (s.setRing n x).lanes = s.lanes := rfl
@[simp] theorem State.setRing_portQ (n : Nat) (x : BatchRing) : (s.setRing n x).portQ = s.portQ := rfl
@[simp] theorem State.setRing_engines (n : Nat) (x : BatchRing) : (s.setRing n x).engines = s.engines := rfl
@[simp] theorem State.setRing_slices (n : Nat) (x : BatchRing) : (s.setRing n x).slices = s.slices := rfl
@[simp] theorem State.setRing_stp (n : Nat) (x : BatchRing) : (s.setRing n x).stp = s.stp := rfl
@[simp] theorem State.setRing_handles (n : Nat) (x : BatchRing) : (s.setRing n x).handles = s.handles := rfl
@[simp] theorem State.setRing_flusher (n : Nat) (x : BatchRing) : (s.setRing n x).flusher = s.flusher := rfl
@[simp] theorem State.setRing_hwuCache (n : Nat) (x : BatchRing) : (s.setRing n x).hwuCache = s.hwuCache := rfl
@[simp] theorem State.setRing_sense (n : Nat) (x : BatchRing) : (s.setRing n x).sense = s.sense := rfl
@[simp] theorem State.setRing_events (n : Nat) (x : BatchRing) : (s.setRing n x).events = s.events := rfl
@[simp] theorem State.setRing_pwr (n : Nat) (x : BatchRing) : (s.setRing n x).pwr = s.pwr := rfl
@[simp] theorem State.setRing_ports (n : Nat) (x : BatchRing) : (s.setRing n x).ports = s.ports := rfl
@[simp] theorem State.setRing_ohp (n : Nat) (x : BatchRing) : (s.setRing n x).ohp = s.ohp := rfl
@[simp] theorem State.setRing_cores (n : Nat) (x : BatchRing) : (s.setRing n x).cores = s.cores := rfl
@[simp] theorem State.setRing_mbx (n : Nat) (x : BatchRing) : (s.setRing n x).mbx = s.mbx := rfl
@[simp] theorem State.setRing_timers (n : Nat) (x : BatchRing) : (s.setRing n x).timers = s.timers := rfl
@[simp] theorem State.setRing_dither (n : Nat) (x : BatchRing) : (s.setRing n x).dither = s.dither := rfl
@[simp] theorem State.setRing_tbus (n : Nat) (x : BatchRing) : (s.setRing n x).tbus = s.tbus := rfl
@[simp] theorem State.setRing_twb (n : Nat) (x : BatchRing) : (s.setRing n x).twb = s.twb := rfl
@[simp] theorem State.setRing_csp (n : Nat) (x : BatchRing) : (s.setRing n x).csp = s.csp := rfl
@[simp] theorem State.setRing_islands (n : Nat) (x : BatchRing) : (s.setRing n x).islands = s.islands := rfl
@[simp] theorem State.setRing_sup (n : Nat) (x : BatchRing) : (s.setRing n x).sup = s.sup := rfl
@[simp] theorem State.setRing_sec (n : Nat) (x : BatchRing) : (s.setRing n x).sec = s.sec := rfl
@[simp] theorem State.setRing_flx (n : Nat) (x : BatchRing) : (s.setRing n x).flx = s.flx := rfl
@[simp] theorem State.setRing_mesh (n : Nat) (x : BatchRing) : (s.setRing n x).mesh = s.mesh := rfl
@[simp] theorem State.setRing_pipe (n : Nat) (x : BatchRing) : (s.setRing n x).pipe = s.pipe := rfl
@[simp] theorem State.setRing_copies (n : Nat) (x : BatchRing) : (s.setRing n x).copies = s.copies := rfl

@[simp] theorem State.setHandle_pending (n : Nat) (x : Handle) : (s.setHandle n x).pending = s.pending := rfl
@[simp] theorem State.setHandle_free (n : Nat) (x : Handle) : (s.setHandle n x).free = s.free := rfl
@[simp] theorem State.setHandle_el (n : Nat) (x : Handle) : (s.setHandle n x).el = s.el := rfl
@[simp] theorem State.setHandle_regs (n : Nat) (x : Handle) : (s.setHandle n x).regs = s.regs := rfl
@[simp] theorem State.setHandle_pset (n : Nat) (x : Handle) : (s.setHandle n x).pset = s.pset := rfl
@[simp] theorem State.setHandle_cset (n : Nat) (x : Handle) : (s.setHandle n x).cset = s.cset := rfl
@[simp] theorem State.setHandle_rdata (n : Nat) (x : Handle) : (s.setHandle n x).rdata = s.rdata := rfl
@[simp] theorem State.setHandle_snaps (n : Nat) (x : Handle) : (s.setHandle n x).snaps = s.snaps := rfl
@[simp] theorem State.setHandle_mem (n : Nat) (x : Handle) : (s.setHandle n x).mem = s.mem := rfl
@[simp] theorem State.setHandle_merges (n : Nat) (x : Handle) : (s.setHandle n x).merges = s.merges := rfl
@[simp] theorem State.setHandle_arrived (n : Nat) (x : Handle) : (s.setHandle n x).arrived = s.arrived := rfl
@[simp] theorem State.setHandle_faultWait (n : Nat) (x : Handle) : (s.setHandle n x).faultWait = s.faultWait := rfl
@[simp] theorem State.setHandle_faults (n : Nat) (x : Handle) : (s.setHandle n x).faults = s.faults := rfl
@[simp] theorem State.setHandle_faultLost (n : Nat) (x : Handle) : (s.setHandle n x).faultLost = s.faultLost := rfl
@[simp] theorem State.setHandle_faultLostGts (n : Nat) (x : Handle) : (s.setHandle n x).faultLostGts = s.faultLostGts := rfl
@[simp] theorem State.setHandle_owner (n : Nat) (x : Handle) : (s.setHandle n x).owner = s.owner := rfl
@[simp] theorem State.setHandle_dom (n : Nat) (x : Handle) : (s.setHandle n x).dom = s.dom := rfl
@[simp] theorem State.setHandle_time (n : Nat) (x : Handle) : (s.setHandle n x).time = s.time := rfl
@[simp] theorem State.setHandle_tiles (n : Nat) (x : Handle) : (s.setHandle n x).tiles = s.tiles := rfl
@[simp] theorem State.setHandle_lanes (n : Nat) (x : Handle) : (s.setHandle n x).lanes = s.lanes := rfl
@[simp] theorem State.setHandle_portQ (n : Nat) (x : Handle) : (s.setHandle n x).portQ = s.portQ := rfl
@[simp] theorem State.setHandle_engines (n : Nat) (x : Handle) : (s.setHandle n x).engines = s.engines := rfl
@[simp] theorem State.setHandle_slices (n : Nat) (x : Handle) : (s.setHandle n x).slices = s.slices := rfl
@[simp] theorem State.setHandle_stp (n : Nat) (x : Handle) : (s.setHandle n x).stp = s.stp := rfl
@[simp] theorem State.setHandle_rings (n : Nat) (x : Handle) : (s.setHandle n x).rings = s.rings := rfl
@[simp] theorem State.setHandle_flusher (n : Nat) (x : Handle) : (s.setHandle n x).flusher = s.flusher := rfl
@[simp] theorem State.setHandle_hwuCache (n : Nat) (x : Handle) : (s.setHandle n x).hwuCache = s.hwuCache := rfl
@[simp] theorem State.setHandle_sense (n : Nat) (x : Handle) : (s.setHandle n x).sense = s.sense := rfl
@[simp] theorem State.setHandle_events (n : Nat) (x : Handle) : (s.setHandle n x).events = s.events := rfl
@[simp] theorem State.setHandle_pwr (n : Nat) (x : Handle) : (s.setHandle n x).pwr = s.pwr := rfl
@[simp] theorem State.setHandle_ports (n : Nat) (x : Handle) : (s.setHandle n x).ports = s.ports := rfl
@[simp] theorem State.setHandle_ohp (n : Nat) (x : Handle) : (s.setHandle n x).ohp = s.ohp := rfl
@[simp] theorem State.setHandle_cores (n : Nat) (x : Handle) : (s.setHandle n x).cores = s.cores := rfl
@[simp] theorem State.setHandle_mbx (n : Nat) (x : Handle) : (s.setHandle n x).mbx = s.mbx := rfl
@[simp] theorem State.setHandle_timers (n : Nat) (x : Handle) : (s.setHandle n x).timers = s.timers := rfl
@[simp] theorem State.setHandle_dither (n : Nat) (x : Handle) : (s.setHandle n x).dither = s.dither := rfl
@[simp] theorem State.setHandle_tbus (n : Nat) (x : Handle) : (s.setHandle n x).tbus = s.tbus := rfl
@[simp] theorem State.setHandle_twb (n : Nat) (x : Handle) : (s.setHandle n x).twb = s.twb := rfl
@[simp] theorem State.setHandle_csp (n : Nat) (x : Handle) : (s.setHandle n x).csp = s.csp := rfl
@[simp] theorem State.setHandle_islands (n : Nat) (x : Handle) : (s.setHandle n x).islands = s.islands := rfl
@[simp] theorem State.setHandle_sup (n : Nat) (x : Handle) : (s.setHandle n x).sup = s.sup := rfl
@[simp] theorem State.setHandle_sec (n : Nat) (x : Handle) : (s.setHandle n x).sec = s.sec := rfl
@[simp] theorem State.setHandle_flx (n : Nat) (x : Handle) : (s.setHandle n x).flx = s.flx := rfl
@[simp] theorem State.setHandle_mesh (n : Nat) (x : Handle) : (s.setHandle n x).mesh = s.mesh := rfl
@[simp] theorem State.setHandle_pipe (n : Nat) (x : Handle) : (s.setHandle n x).pipe = s.pipe := rfl
@[simp] theorem State.setHandle_copies (n : Nat) (x : Handle) : (s.setHandle n x).copies = s.copies := rfl

@[simp] theorem State.setPort_pending (n : Nat) (x : Port) : (s.setPort n x).pending = s.pending := rfl
@[simp] theorem State.setPort_free (n : Nat) (x : Port) : (s.setPort n x).free = s.free := rfl
@[simp] theorem State.setPort_el (n : Nat) (x : Port) : (s.setPort n x).el = s.el := rfl
@[simp] theorem State.setPort_regs (n : Nat) (x : Port) : (s.setPort n x).regs = s.regs := rfl
@[simp] theorem State.setPort_pset (n : Nat) (x : Port) : (s.setPort n x).pset = s.pset := rfl
@[simp] theorem State.setPort_cset (n : Nat) (x : Port) : (s.setPort n x).cset = s.cset := rfl
@[simp] theorem State.setPort_rdata (n : Nat) (x : Port) : (s.setPort n x).rdata = s.rdata := rfl
@[simp] theorem State.setPort_snaps (n : Nat) (x : Port) : (s.setPort n x).snaps = s.snaps := rfl
@[simp] theorem State.setPort_mem (n : Nat) (x : Port) : (s.setPort n x).mem = s.mem := rfl
@[simp] theorem State.setPort_merges (n : Nat) (x : Port) : (s.setPort n x).merges = s.merges := rfl
@[simp] theorem State.setPort_arrived (n : Nat) (x : Port) : (s.setPort n x).arrived = s.arrived := rfl
@[simp] theorem State.setPort_faultWait (n : Nat) (x : Port) : (s.setPort n x).faultWait = s.faultWait := rfl
@[simp] theorem State.setPort_faults (n : Nat) (x : Port) : (s.setPort n x).faults = s.faults := rfl
@[simp] theorem State.setPort_faultLost (n : Nat) (x : Port) : (s.setPort n x).faultLost = s.faultLost := rfl
@[simp] theorem State.setPort_faultLostGts (n : Nat) (x : Port) : (s.setPort n x).faultLostGts = s.faultLostGts := rfl
@[simp] theorem State.setPort_owner (n : Nat) (x : Port) : (s.setPort n x).owner = s.owner := rfl
@[simp] theorem State.setPort_dom (n : Nat) (x : Port) : (s.setPort n x).dom = s.dom := rfl
@[simp] theorem State.setPort_time (n : Nat) (x : Port) : (s.setPort n x).time = s.time := rfl
@[simp] theorem State.setPort_tiles (n : Nat) (x : Port) : (s.setPort n x).tiles = s.tiles := rfl
@[simp] theorem State.setPort_lanes (n : Nat) (x : Port) : (s.setPort n x).lanes = s.lanes := rfl
@[simp] theorem State.setPort_portQ (n : Nat) (x : Port) : (s.setPort n x).portQ = s.portQ := rfl
@[simp] theorem State.setPort_engines (n : Nat) (x : Port) : (s.setPort n x).engines = s.engines := rfl
@[simp] theorem State.setPort_slices (n : Nat) (x : Port) : (s.setPort n x).slices = s.slices := rfl
@[simp] theorem State.setPort_stp (n : Nat) (x : Port) : (s.setPort n x).stp = s.stp := rfl
@[simp] theorem State.setPort_rings (n : Nat) (x : Port) : (s.setPort n x).rings = s.rings := rfl
@[simp] theorem State.setPort_handles (n : Nat) (x : Port) : (s.setPort n x).handles = s.handles := rfl
@[simp] theorem State.setPort_flusher (n : Nat) (x : Port) : (s.setPort n x).flusher = s.flusher := rfl
@[simp] theorem State.setPort_hwuCache (n : Nat) (x : Port) : (s.setPort n x).hwuCache = s.hwuCache := rfl
@[simp] theorem State.setPort_sense (n : Nat) (x : Port) : (s.setPort n x).sense = s.sense := rfl
@[simp] theorem State.setPort_events (n : Nat) (x : Port) : (s.setPort n x).events = s.events := rfl
@[simp] theorem State.setPort_pwr (n : Nat) (x : Port) : (s.setPort n x).pwr = s.pwr := rfl
@[simp] theorem State.setPort_ohp (n : Nat) (x : Port) : (s.setPort n x).ohp = s.ohp := rfl
@[simp] theorem State.setPort_cores (n : Nat) (x : Port) : (s.setPort n x).cores = s.cores := rfl
@[simp] theorem State.setPort_mbx (n : Nat) (x : Port) : (s.setPort n x).mbx = s.mbx := rfl
@[simp] theorem State.setPort_timers (n : Nat) (x : Port) : (s.setPort n x).timers = s.timers := rfl
@[simp] theorem State.setPort_dither (n : Nat) (x : Port) : (s.setPort n x).dither = s.dither := rfl
@[simp] theorem State.setPort_tbus (n : Nat) (x : Port) : (s.setPort n x).tbus = s.tbus := rfl
@[simp] theorem State.setPort_twb (n : Nat) (x : Port) : (s.setPort n x).twb = s.twb := rfl
@[simp] theorem State.setPort_csp (n : Nat) (x : Port) : (s.setPort n x).csp = s.csp := rfl
@[simp] theorem State.setPort_islands (n : Nat) (x : Port) : (s.setPort n x).islands = s.islands := rfl
@[simp] theorem State.setPort_sup (n : Nat) (x : Port) : (s.setPort n x).sup = s.sup := rfl
@[simp] theorem State.setPort_sec (n : Nat) (x : Port) : (s.setPort n x).sec = s.sec := rfl
@[simp] theorem State.setPort_flx (n : Nat) (x : Port) : (s.setPort n x).flx = s.flx := rfl
@[simp] theorem State.setPort_mesh (n : Nat) (x : Port) : (s.setPort n x).mesh = s.mesh := rfl
@[simp] theorem State.setPort_pipe (n : Nat) (x : Port) : (s.setPort n x).pipe = s.pipe := rfl
@[simp] theorem State.setPort_copies (n : Nat) (x : Port) : (s.setPort n x).copies = s.copies := rfl

@[simp] theorem State.setMerge_pending (n : Nat) (x : Merge) : (s.setMerge n x).pending = s.pending := rfl
@[simp] theorem State.setMerge_free (n : Nat) (x : Merge) : (s.setMerge n x).free = s.free := rfl
@[simp] theorem State.setMerge_el (n : Nat) (x : Merge) : (s.setMerge n x).el = s.el := rfl
@[simp] theorem State.setMerge_regs (n : Nat) (x : Merge) : (s.setMerge n x).regs = s.regs := rfl
@[simp] theorem State.setMerge_pset (n : Nat) (x : Merge) : (s.setMerge n x).pset = s.pset := rfl
@[simp] theorem State.setMerge_cset (n : Nat) (x : Merge) : (s.setMerge n x).cset = s.cset := rfl
@[simp] theorem State.setMerge_rdata (n : Nat) (x : Merge) : (s.setMerge n x).rdata = s.rdata := rfl
@[simp] theorem State.setMerge_snaps (n : Nat) (x : Merge) : (s.setMerge n x).snaps = s.snaps := rfl
@[simp] theorem State.setMerge_mem (n : Nat) (x : Merge) : (s.setMerge n x).mem = s.mem := rfl
@[simp] theorem State.setMerge_arrived (n : Nat) (x : Merge) : (s.setMerge n x).arrived = s.arrived := rfl
@[simp] theorem State.setMerge_faultWait (n : Nat) (x : Merge) : (s.setMerge n x).faultWait = s.faultWait := rfl
@[simp] theorem State.setMerge_faults (n : Nat) (x : Merge) : (s.setMerge n x).faults = s.faults := rfl
@[simp] theorem State.setMerge_faultLost (n : Nat) (x : Merge) : (s.setMerge n x).faultLost = s.faultLost := rfl
@[simp] theorem State.setMerge_faultLostGts (n : Nat) (x : Merge) : (s.setMerge n x).faultLostGts = s.faultLostGts := rfl
@[simp] theorem State.setMerge_owner (n : Nat) (x : Merge) : (s.setMerge n x).owner = s.owner := rfl
@[simp] theorem State.setMerge_dom (n : Nat) (x : Merge) : (s.setMerge n x).dom = s.dom := rfl
@[simp] theorem State.setMerge_time (n : Nat) (x : Merge) : (s.setMerge n x).time = s.time := rfl
@[simp] theorem State.setMerge_tiles (n : Nat) (x : Merge) : (s.setMerge n x).tiles = s.tiles := rfl
@[simp] theorem State.setMerge_lanes (n : Nat) (x : Merge) : (s.setMerge n x).lanes = s.lanes := rfl
@[simp] theorem State.setMerge_portQ (n : Nat) (x : Merge) : (s.setMerge n x).portQ = s.portQ := rfl
@[simp] theorem State.setMerge_engines (n : Nat) (x : Merge) : (s.setMerge n x).engines = s.engines := rfl
@[simp] theorem State.setMerge_slices (n : Nat) (x : Merge) : (s.setMerge n x).slices = s.slices := rfl
@[simp] theorem State.setMerge_stp (n : Nat) (x : Merge) : (s.setMerge n x).stp = s.stp := rfl
@[simp] theorem State.setMerge_rings (n : Nat) (x : Merge) : (s.setMerge n x).rings = s.rings := rfl
@[simp] theorem State.setMerge_handles (n : Nat) (x : Merge) : (s.setMerge n x).handles = s.handles := rfl
@[simp] theorem State.setMerge_flusher (n : Nat) (x : Merge) : (s.setMerge n x).flusher = s.flusher := rfl
@[simp] theorem State.setMerge_hwuCache (n : Nat) (x : Merge) : (s.setMerge n x).hwuCache = s.hwuCache := rfl
@[simp] theorem State.setMerge_sense (n : Nat) (x : Merge) : (s.setMerge n x).sense = s.sense := rfl
@[simp] theorem State.setMerge_events (n : Nat) (x : Merge) : (s.setMerge n x).events = s.events := rfl
@[simp] theorem State.setMerge_pwr (n : Nat) (x : Merge) : (s.setMerge n x).pwr = s.pwr := rfl
@[simp] theorem State.setMerge_ports (n : Nat) (x : Merge) : (s.setMerge n x).ports = s.ports := rfl
@[simp] theorem State.setMerge_ohp (n : Nat) (x : Merge) : (s.setMerge n x).ohp = s.ohp := rfl
@[simp] theorem State.setMerge_cores (n : Nat) (x : Merge) : (s.setMerge n x).cores = s.cores := rfl
@[simp] theorem State.setMerge_mbx (n : Nat) (x : Merge) : (s.setMerge n x).mbx = s.mbx := rfl
@[simp] theorem State.setMerge_timers (n : Nat) (x : Merge) : (s.setMerge n x).timers = s.timers := rfl
@[simp] theorem State.setMerge_dither (n : Nat) (x : Merge) : (s.setMerge n x).dither = s.dither := rfl
@[simp] theorem State.setMerge_tbus (n : Nat) (x : Merge) : (s.setMerge n x).tbus = s.tbus := rfl
@[simp] theorem State.setMerge_twb (n : Nat) (x : Merge) : (s.setMerge n x).twb = s.twb := rfl
@[simp] theorem State.setMerge_csp (n : Nat) (x : Merge) : (s.setMerge n x).csp = s.csp := rfl
@[simp] theorem State.setMerge_islands (n : Nat) (x : Merge) : (s.setMerge n x).islands = s.islands := rfl
@[simp] theorem State.setMerge_sup (n : Nat) (x : Merge) : (s.setMerge n x).sup = s.sup := rfl
@[simp] theorem State.setMerge_sec (n : Nat) (x : Merge) : (s.setMerge n x).sec = s.sec := rfl
@[simp] theorem State.setMerge_flx (n : Nat) (x : Merge) : (s.setMerge n x).flx = s.flx := rfl
@[simp] theorem State.setMerge_mesh (n : Nat) (x : Merge) : (s.setMerge n x).mesh = s.mesh := rfl
@[simp] theorem State.setMerge_pipe (n : Nat) (x : Merge) : (s.setMerge n x).pipe = s.pipe := rfl
@[simp] theorem State.setMerge_copies (n : Nat) (x : Merge) : (s.setMerge n x).copies = s.copies := rfl

@[simp] theorem State.store_pending (a : Nat) (l : List Byte) : (s.store a l).pending = s.pending := rfl
@[simp] theorem State.store_free (a : Nat) (l : List Byte) : (s.store a l).free = s.free := rfl
@[simp] theorem State.store_el (a : Nat) (l : List Byte) : (s.store a l).el = s.el := rfl
@[simp] theorem State.store_regs (a : Nat) (l : List Byte) : (s.store a l).regs = s.regs := rfl
@[simp] theorem State.store_pset (a : Nat) (l : List Byte) : (s.store a l).pset = s.pset := rfl
@[simp] theorem State.store_cset (a : Nat) (l : List Byte) : (s.store a l).cset = s.cset := rfl
@[simp] theorem State.store_rdata (a : Nat) (l : List Byte) : (s.store a l).rdata = s.rdata := rfl
@[simp] theorem State.store_snaps (a : Nat) (l : List Byte) : (s.store a l).snaps = s.snaps := rfl
@[simp] theorem State.store_merges (a : Nat) (l : List Byte) : (s.store a l).merges = s.merges := rfl
@[simp] theorem State.store_arrived (a : Nat) (l : List Byte) : (s.store a l).arrived = s.arrived := rfl
@[simp] theorem State.store_faultWait (a : Nat) (l : List Byte) : (s.store a l).faultWait = s.faultWait := rfl
@[simp] theorem State.store_faults (a : Nat) (l : List Byte) : (s.store a l).faults = s.faults := rfl
@[simp] theorem State.store_faultLost (a : Nat) (l : List Byte) : (s.store a l).faultLost = s.faultLost := rfl
@[simp] theorem State.store_faultLostGts (a : Nat) (l : List Byte) : (s.store a l).faultLostGts = s.faultLostGts := rfl
@[simp] theorem State.store_owner (a : Nat) (l : List Byte) : (s.store a l).owner = s.owner := rfl
@[simp] theorem State.store_dom (a : Nat) (l : List Byte) : (s.store a l).dom = s.dom := rfl
@[simp] theorem State.store_time (a : Nat) (l : List Byte) : (s.store a l).time = s.time := rfl
@[simp] theorem State.store_tiles (a : Nat) (l : List Byte) : (s.store a l).tiles = s.tiles := rfl
@[simp] theorem State.store_lanes (a : Nat) (l : List Byte) : (s.store a l).lanes = s.lanes := rfl
@[simp] theorem State.store_portQ (a : Nat) (l : List Byte) : (s.store a l).portQ = s.portQ := rfl
@[simp] theorem State.store_engines (a : Nat) (l : List Byte) : (s.store a l).engines = s.engines := rfl
@[simp] theorem State.store_slices (a : Nat) (l : List Byte) : (s.store a l).slices = s.slices := rfl
@[simp] theorem State.store_stp (a : Nat) (l : List Byte) : (s.store a l).stp = s.stp := rfl
@[simp] theorem State.store_rings (a : Nat) (l : List Byte) : (s.store a l).rings = s.rings := rfl
@[simp] theorem State.store_handles (a : Nat) (l : List Byte) : (s.store a l).handles = s.handles := rfl
@[simp] theorem State.store_flusher (a : Nat) (l : List Byte) : (s.store a l).flusher = s.flusher := rfl
@[simp] theorem State.store_hwuCache (a : Nat) (l : List Byte) : (s.store a l).hwuCache = s.hwuCache := rfl
@[simp] theorem State.store_sense (a : Nat) (l : List Byte) : (s.store a l).sense = s.sense := rfl
@[simp] theorem State.store_events (a : Nat) (l : List Byte) : (s.store a l).events = s.events := rfl
@[simp] theorem State.store_pwr (a : Nat) (l : List Byte) : (s.store a l).pwr = s.pwr := rfl
@[simp] theorem State.store_ports (a : Nat) (l : List Byte) : (s.store a l).ports = s.ports := rfl
@[simp] theorem State.store_ohp (a : Nat) (l : List Byte) : (s.store a l).ohp = s.ohp := rfl
@[simp] theorem State.store_cores (a : Nat) (l : List Byte) : (s.store a l).cores = s.cores := rfl
@[simp] theorem State.store_mbx (a : Nat) (l : List Byte) : (s.store a l).mbx = s.mbx := rfl
@[simp] theorem State.store_timers (a : Nat) (l : List Byte) : (s.store a l).timers = s.timers := rfl
@[simp] theorem State.store_dither (a : Nat) (l : List Byte) : (s.store a l).dither = s.dither := rfl
@[simp] theorem State.store_tbus (a : Nat) (l : List Byte) : (s.store a l).tbus = s.tbus := rfl
@[simp] theorem State.store_twb (a : Nat) (l : List Byte) : (s.store a l).twb = s.twb := rfl
@[simp] theorem State.store_csp (a : Nat) (l : List Byte) : (s.store a l).csp = s.csp := rfl
@[simp] theorem State.store_islands (a : Nat) (l : List Byte) : (s.store a l).islands = s.islands := rfl
@[simp] theorem State.store_sup (a : Nat) (l : List Byte) : (s.store a l).sup = s.sup := rfl
@[simp] theorem State.store_sec (a : Nat) (l : List Byte) : (s.store a l).sec = s.sec := rfl
@[simp] theorem State.store_flx (a : Nat) (l : List Byte) : (s.store a l).flx = s.flx := rfl
@[simp] theorem State.store_mesh (a : Nat) (l : List Byte) : (s.store a l).mesh = s.mesh := rfl
@[simp] theorem State.store_pipe (a : Nat) (l : List Byte) : (s.store a l).pipe = s.pipe := rfl
@[simp] theorem State.store_copies (a : Nat) (l : List Byte) : (s.store a l).copies = s.copies := rfl

@[simp] theorem State.setBus_pending (n : Nat) (x : Twb) : (s.setBus n x).pending = s.pending := rfl
@[simp] theorem State.setBus_free (n : Nat) (x : Twb) : (s.setBus n x).free = s.free := rfl
@[simp] theorem State.setBus_el (n : Nat) (x : Twb) : (s.setBus n x).el = s.el := rfl
@[simp] theorem State.setBus_regs (n : Nat) (x : Twb) : (s.setBus n x).regs = s.regs := rfl
@[simp] theorem State.setBus_pset (n : Nat) (x : Twb) : (s.setBus n x).pset = s.pset := rfl
@[simp] theorem State.setBus_cset (n : Nat) (x : Twb) : (s.setBus n x).cset = s.cset := rfl
@[simp] theorem State.setBus_rdata (n : Nat) (x : Twb) : (s.setBus n x).rdata = s.rdata := rfl
@[simp] theorem State.setBus_snaps (n : Nat) (x : Twb) : (s.setBus n x).snaps = s.snaps := rfl
@[simp] theorem State.setBus_mem (n : Nat) (x : Twb) : (s.setBus n x).mem = s.mem := rfl
@[simp] theorem State.setBus_merges (n : Nat) (x : Twb) : (s.setBus n x).merges = s.merges := rfl
@[simp] theorem State.setBus_arrived (n : Nat) (x : Twb) : (s.setBus n x).arrived = s.arrived := rfl
@[simp] theorem State.setBus_faultWait (n : Nat) (x : Twb) : (s.setBus n x).faultWait = s.faultWait := rfl
@[simp] theorem State.setBus_faults (n : Nat) (x : Twb) : (s.setBus n x).faults = s.faults := rfl
@[simp] theorem State.setBus_faultLost (n : Nat) (x : Twb) : (s.setBus n x).faultLost = s.faultLost := rfl
@[simp] theorem State.setBus_faultLostGts (n : Nat) (x : Twb) : (s.setBus n x).faultLostGts = s.faultLostGts := rfl
@[simp] theorem State.setBus_owner (n : Nat) (x : Twb) : (s.setBus n x).owner = s.owner := rfl
@[simp] theorem State.setBus_dom (n : Nat) (x : Twb) : (s.setBus n x).dom = s.dom := rfl
@[simp] theorem State.setBus_time (n : Nat) (x : Twb) : (s.setBus n x).time = s.time := rfl
@[simp] theorem State.setBus_tiles (n : Nat) (x : Twb) : (s.setBus n x).tiles = s.tiles := rfl
@[simp] theorem State.setBus_lanes (n : Nat) (x : Twb) : (s.setBus n x).lanes = s.lanes := rfl
@[simp] theorem State.setBus_portQ (n : Nat) (x : Twb) : (s.setBus n x).portQ = s.portQ := rfl
@[simp] theorem State.setBus_engines (n : Nat) (x : Twb) : (s.setBus n x).engines = s.engines := rfl
@[simp] theorem State.setBus_slices (n : Nat) (x : Twb) : (s.setBus n x).slices = s.slices := rfl
@[simp] theorem State.setBus_stp (n : Nat) (x : Twb) : (s.setBus n x).stp = s.stp := rfl
@[simp] theorem State.setBus_rings (n : Nat) (x : Twb) : (s.setBus n x).rings = s.rings := rfl
@[simp] theorem State.setBus_handles (n : Nat) (x : Twb) : (s.setBus n x).handles = s.handles := rfl
@[simp] theorem State.setBus_flusher (n : Nat) (x : Twb) : (s.setBus n x).flusher = s.flusher := rfl
@[simp] theorem State.setBus_hwuCache (n : Nat) (x : Twb) : (s.setBus n x).hwuCache = s.hwuCache := rfl
@[simp] theorem State.setBus_sense (n : Nat) (x : Twb) : (s.setBus n x).sense = s.sense := rfl
@[simp] theorem State.setBus_events (n : Nat) (x : Twb) : (s.setBus n x).events = s.events := rfl
@[simp] theorem State.setBus_pwr (n : Nat) (x : Twb) : (s.setBus n x).pwr = s.pwr := rfl
@[simp] theorem State.setBus_ports (n : Nat) (x : Twb) : (s.setBus n x).ports = s.ports := rfl
@[simp] theorem State.setBus_ohp (n : Nat) (x : Twb) : (s.setBus n x).ohp = s.ohp := rfl
@[simp] theorem State.setBus_cores (n : Nat) (x : Twb) : (s.setBus n x).cores = s.cores := rfl
@[simp] theorem State.setBus_mbx (n : Nat) (x : Twb) : (s.setBus n x).mbx = s.mbx := rfl
@[simp] theorem State.setBus_timers (n : Nat) (x : Twb) : (s.setBus n x).timers = s.timers := rfl
@[simp] theorem State.setBus_dither (n : Nat) (x : Twb) : (s.setBus n x).dither = s.dither := rfl
@[simp] theorem State.setBus_tbus (n : Nat) (x : Twb) : (s.setBus n x).tbus = s.tbus := rfl
@[simp] theorem State.setBus_csp (n : Nat) (x : Twb) : (s.setBus n x).csp = s.csp := rfl
@[simp] theorem State.setBus_islands (n : Nat) (x : Twb) : (s.setBus n x).islands = s.islands := rfl
@[simp] theorem State.setBus_sup (n : Nat) (x : Twb) : (s.setBus n x).sup = s.sup := rfl
@[simp] theorem State.setBus_sec (n : Nat) (x : Twb) : (s.setBus n x).sec = s.sec := rfl
@[simp] theorem State.setBus_flx (n : Nat) (x : Twb) : (s.setBus n x).flx = s.flx := rfl
@[simp] theorem State.setBus_mesh (n : Nat) (x : Twb) : (s.setBus n x).mesh = s.mesh := rfl
@[simp] theorem State.setBus_pipe (n : Nat) (x : Twb) : (s.setBus n x).pipe = s.pipe := rfl
@[simp] theorem State.setBus_copies (n : Nat) (x : Twb) : (s.setBus n x).copies = s.copies := rfl

@[simp] theorem State.setCsport_pending (n : Nat) (x : Csp) : (s.setCsport n x).pending = s.pending := rfl
@[simp] theorem State.setCsport_free (n : Nat) (x : Csp) : (s.setCsport n x).free = s.free := rfl
@[simp] theorem State.setCsport_el (n : Nat) (x : Csp) : (s.setCsport n x).el = s.el := rfl
@[simp] theorem State.setCsport_regs (n : Nat) (x : Csp) : (s.setCsport n x).regs = s.regs := rfl
@[simp] theorem State.setCsport_pset (n : Nat) (x : Csp) : (s.setCsport n x).pset = s.pset := rfl
@[simp] theorem State.setCsport_cset (n : Nat) (x : Csp) : (s.setCsport n x).cset = s.cset := rfl
@[simp] theorem State.setCsport_rdata (n : Nat) (x : Csp) : (s.setCsport n x).rdata = s.rdata := rfl
@[simp] theorem State.setCsport_snaps (n : Nat) (x : Csp) : (s.setCsport n x).snaps = s.snaps := rfl
@[simp] theorem State.setCsport_mem (n : Nat) (x : Csp) : (s.setCsport n x).mem = s.mem := rfl
@[simp] theorem State.setCsport_merges (n : Nat) (x : Csp) : (s.setCsport n x).merges = s.merges := rfl
@[simp] theorem State.setCsport_arrived (n : Nat) (x : Csp) : (s.setCsport n x).arrived = s.arrived := rfl
@[simp] theorem State.setCsport_faultWait (n : Nat) (x : Csp) : (s.setCsport n x).faultWait = s.faultWait := rfl
@[simp] theorem State.setCsport_faults (n : Nat) (x : Csp) : (s.setCsport n x).faults = s.faults := rfl
@[simp] theorem State.setCsport_faultLost (n : Nat) (x : Csp) : (s.setCsport n x).faultLost = s.faultLost := rfl
@[simp] theorem State.setCsport_faultLostGts (n : Nat) (x : Csp) : (s.setCsport n x).faultLostGts = s.faultLostGts := rfl
@[simp] theorem State.setCsport_owner (n : Nat) (x : Csp) : (s.setCsport n x).owner = s.owner := rfl
@[simp] theorem State.setCsport_dom (n : Nat) (x : Csp) : (s.setCsport n x).dom = s.dom := rfl
@[simp] theorem State.setCsport_time (n : Nat) (x : Csp) : (s.setCsport n x).time = s.time := rfl
@[simp] theorem State.setCsport_tiles (n : Nat) (x : Csp) : (s.setCsport n x).tiles = s.tiles := rfl
@[simp] theorem State.setCsport_lanes (n : Nat) (x : Csp) : (s.setCsport n x).lanes = s.lanes := rfl
@[simp] theorem State.setCsport_portQ (n : Nat) (x : Csp) : (s.setCsport n x).portQ = s.portQ := rfl
@[simp] theorem State.setCsport_engines (n : Nat) (x : Csp) : (s.setCsport n x).engines = s.engines := rfl
@[simp] theorem State.setCsport_slices (n : Nat) (x : Csp) : (s.setCsport n x).slices = s.slices := rfl
@[simp] theorem State.setCsport_stp (n : Nat) (x : Csp) : (s.setCsport n x).stp = s.stp := rfl
@[simp] theorem State.setCsport_rings (n : Nat) (x : Csp) : (s.setCsport n x).rings = s.rings := rfl
@[simp] theorem State.setCsport_handles (n : Nat) (x : Csp) : (s.setCsport n x).handles = s.handles := rfl
@[simp] theorem State.setCsport_flusher (n : Nat) (x : Csp) : (s.setCsport n x).flusher = s.flusher := rfl
@[simp] theorem State.setCsport_hwuCache (n : Nat) (x : Csp) : (s.setCsport n x).hwuCache = s.hwuCache := rfl
@[simp] theorem State.setCsport_sense (n : Nat) (x : Csp) : (s.setCsport n x).sense = s.sense := rfl
@[simp] theorem State.setCsport_events (n : Nat) (x : Csp) : (s.setCsport n x).events = s.events := rfl
@[simp] theorem State.setCsport_pwr (n : Nat) (x : Csp) : (s.setCsport n x).pwr = s.pwr := rfl
@[simp] theorem State.setCsport_ports (n : Nat) (x : Csp) : (s.setCsport n x).ports = s.ports := rfl
@[simp] theorem State.setCsport_ohp (n : Nat) (x : Csp) : (s.setCsport n x).ohp = s.ohp := rfl
@[simp] theorem State.setCsport_cores (n : Nat) (x : Csp) : (s.setCsport n x).cores = s.cores := rfl
@[simp] theorem State.setCsport_mbx (n : Nat) (x : Csp) : (s.setCsport n x).mbx = s.mbx := rfl
@[simp] theorem State.setCsport_timers (n : Nat) (x : Csp) : (s.setCsport n x).timers = s.timers := rfl
@[simp] theorem State.setCsport_dither (n : Nat) (x : Csp) : (s.setCsport n x).dither = s.dither := rfl
@[simp] theorem State.setCsport_tbus (n : Nat) (x : Csp) : (s.setCsport n x).tbus = s.tbus := rfl
@[simp] theorem State.setCsport_twb (n : Nat) (x : Csp) : (s.setCsport n x).twb = s.twb := rfl
@[simp] theorem State.setCsport_islands (n : Nat) (x : Csp) : (s.setCsport n x).islands = s.islands := rfl
@[simp] theorem State.setCsport_sup (n : Nat) (x : Csp) : (s.setCsport n x).sup = s.sup := rfl
@[simp] theorem State.setCsport_sec (n : Nat) (x : Csp) : (s.setCsport n x).sec = s.sec := rfl
@[simp] theorem State.setCsport_flx (n : Nat) (x : Csp) : (s.setCsport n x).flx = s.flx := rfl
@[simp] theorem State.setCsport_mesh (n : Nat) (x : Csp) : (s.setCsport n x).mesh = s.mesh := rfl
@[simp] theorem State.setCsport_pipe (n : Nat) (x : Csp) : (s.setCsport n x).pipe = s.pipe := rfl
@[simp] theorem State.setCsport_copies (n : Nat) (x : Csp) : (s.setCsport n x).copies = s.copies := rfl

@[simp] theorem State.setTime_pending (x : Time) : (s.setTime x).pending = s.pending := rfl
@[simp] theorem State.setTime_free (x : Time) : (s.setTime x).free = s.free := rfl
@[simp] theorem State.setTime_el (x : Time) : (s.setTime x).el = s.el := rfl
@[simp] theorem State.setTime_regs (x : Time) : (s.setTime x).regs = s.regs := rfl
@[simp] theorem State.setTime_pset (x : Time) : (s.setTime x).pset = s.pset := rfl
@[simp] theorem State.setTime_cset (x : Time) : (s.setTime x).cset = s.cset := rfl
@[simp] theorem State.setTime_rdata (x : Time) : (s.setTime x).rdata = s.rdata := rfl
@[simp] theorem State.setTime_snaps (x : Time) : (s.setTime x).snaps = s.snaps := rfl
@[simp] theorem State.setTime_mem (x : Time) : (s.setTime x).mem = s.mem := rfl
@[simp] theorem State.setTime_merges (x : Time) : (s.setTime x).merges = s.merges := rfl
@[simp] theorem State.setTime_arrived (x : Time) : (s.setTime x).arrived = s.arrived := rfl
@[simp] theorem State.setTime_faultWait (x : Time) : (s.setTime x).faultWait = s.faultWait := rfl
@[simp] theorem State.setTime_faults (x : Time) : (s.setTime x).faults = s.faults := rfl
@[simp] theorem State.setTime_faultLost (x : Time) : (s.setTime x).faultLost = s.faultLost := rfl
@[simp] theorem State.setTime_faultLostGts (x : Time) : (s.setTime x).faultLostGts = s.faultLostGts := rfl
@[simp] theorem State.setTime_owner (x : Time) : (s.setTime x).owner = s.owner := rfl
@[simp] theorem State.setTime_dom (x : Time) : (s.setTime x).dom = s.dom := rfl
@[simp] theorem State.setTime_tiles (x : Time) : (s.setTime x).tiles = s.tiles := rfl
@[simp] theorem State.setTime_lanes (x : Time) : (s.setTime x).lanes = s.lanes := rfl
@[simp] theorem State.setTime_portQ (x : Time) : (s.setTime x).portQ = s.portQ := rfl
@[simp] theorem State.setTime_engines (x : Time) : (s.setTime x).engines = s.engines := rfl
@[simp] theorem State.setTime_slices (x : Time) : (s.setTime x).slices = s.slices := rfl
@[simp] theorem State.setTime_stp (x : Time) : (s.setTime x).stp = s.stp := rfl
@[simp] theorem State.setTime_rings (x : Time) : (s.setTime x).rings = s.rings := rfl
@[simp] theorem State.setTime_handles (x : Time) : (s.setTime x).handles = s.handles := rfl
@[simp] theorem State.setTime_flusher (x : Time) : (s.setTime x).flusher = s.flusher := rfl
@[simp] theorem State.setTime_hwuCache (x : Time) : (s.setTime x).hwuCache = s.hwuCache := rfl
@[simp] theorem State.setTime_sense (x : Time) : (s.setTime x).sense = s.sense := rfl
@[simp] theorem State.setTime_events (x : Time) : (s.setTime x).events = s.events := rfl
@[simp] theorem State.setTime_pwr (x : Time) : (s.setTime x).pwr = s.pwr := rfl
@[simp] theorem State.setTime_ports (x : Time) : (s.setTime x).ports = s.ports := rfl
@[simp] theorem State.setTime_ohp (x : Time) : (s.setTime x).ohp = s.ohp := rfl
@[simp] theorem State.setTime_cores (x : Time) : (s.setTime x).cores = s.cores := rfl
@[simp] theorem State.setTime_mbx (x : Time) : (s.setTime x).mbx = s.mbx := rfl
@[simp] theorem State.setTime_timers (x : Time) : (s.setTime x).timers = s.timers := rfl
@[simp] theorem State.setTime_dither (x : Time) : (s.setTime x).dither = s.dither := rfl
@[simp] theorem State.setTime_tbus (x : Time) : (s.setTime x).tbus = s.tbus := rfl
@[simp] theorem State.setTime_twb (x : Time) : (s.setTime x).twb = s.twb := rfl
@[simp] theorem State.setTime_csp (x : Time) : (s.setTime x).csp = s.csp := rfl
@[simp] theorem State.setTime_islands (x : Time) : (s.setTime x).islands = s.islands := rfl
@[simp] theorem State.setTime_sup (x : Time) : (s.setTime x).sup = s.sup := rfl
@[simp] theorem State.setTime_sec (x : Time) : (s.setTime x).sec = s.sec := rfl
@[simp] theorem State.setTime_flx (x : Time) : (s.setTime x).flx = s.flx := rfl
@[simp] theorem State.setTime_mesh (x : Time) : (s.setTime x).mesh = s.mesh := rfl
@[simp] theorem State.setTime_pipe (x : Time) : (s.setTime x).pipe = s.pipe := rfl
@[simp] theorem State.setTime_copies (x : Time) : (s.setTime x).copies = s.copies := rfl

@[simp] theorem State.setCore_pending (c : Nat) (x : Core) : (s.setCore c x).pending = s.pending := rfl
@[simp] theorem State.setCore_free (c : Nat) (x : Core) : (s.setCore c x).free = s.free := rfl
@[simp] theorem State.setCore_el (c : Nat) (x : Core) : (s.setCore c x).el = s.el := rfl
@[simp] theorem State.setCore_regs (c : Nat) (x : Core) : (s.setCore c x).regs = s.regs := rfl
@[simp] theorem State.setCore_pset (c : Nat) (x : Core) : (s.setCore c x).pset = s.pset := rfl
@[simp] theorem State.setCore_cset (c : Nat) (x : Core) : (s.setCore c x).cset = s.cset := rfl
@[simp] theorem State.setCore_rdata (c : Nat) (x : Core) : (s.setCore c x).rdata = s.rdata := rfl
@[simp] theorem State.setCore_snaps (c : Nat) (x : Core) : (s.setCore c x).snaps = s.snaps := rfl
@[simp] theorem State.setCore_mem (c : Nat) (x : Core) : (s.setCore c x).mem = s.mem := rfl
@[simp] theorem State.setCore_merges (c : Nat) (x : Core) : (s.setCore c x).merges = s.merges := rfl
@[simp] theorem State.setCore_arrived (c : Nat) (x : Core) : (s.setCore c x).arrived = s.arrived := rfl
@[simp] theorem State.setCore_faultWait (c : Nat) (x : Core) : (s.setCore c x).faultWait = s.faultWait := rfl
@[simp] theorem State.setCore_faults (c : Nat) (x : Core) : (s.setCore c x).faults = s.faults := rfl
@[simp] theorem State.setCore_faultLost (c : Nat) (x : Core) : (s.setCore c x).faultLost = s.faultLost := rfl
@[simp] theorem State.setCore_faultLostGts (c : Nat) (x : Core) : (s.setCore c x).faultLostGts = s.faultLostGts := rfl
@[simp] theorem State.setCore_owner (c : Nat) (x : Core) : (s.setCore c x).owner = s.owner := rfl
@[simp] theorem State.setCore_dom (c : Nat) (x : Core) : (s.setCore c x).dom = s.dom := rfl
@[simp] theorem State.setCore_time (c : Nat) (x : Core) : (s.setCore c x).time = s.time := rfl
@[simp] theorem State.setCore_tiles (c : Nat) (x : Core) : (s.setCore c x).tiles = s.tiles := rfl
@[simp] theorem State.setCore_lanes (c : Nat) (x : Core) : (s.setCore c x).lanes = s.lanes := rfl
@[simp] theorem State.setCore_portQ (c : Nat) (x : Core) : (s.setCore c x).portQ = s.portQ := rfl
@[simp] theorem State.setCore_engines (c : Nat) (x : Core) : (s.setCore c x).engines = s.engines := rfl
@[simp] theorem State.setCore_slices (c : Nat) (x : Core) : (s.setCore c x).slices = s.slices := rfl
@[simp] theorem State.setCore_stp (c : Nat) (x : Core) : (s.setCore c x).stp = s.stp := rfl
@[simp] theorem State.setCore_rings (c : Nat) (x : Core) : (s.setCore c x).rings = s.rings := rfl
@[simp] theorem State.setCore_handles (c : Nat) (x : Core) : (s.setCore c x).handles = s.handles := rfl
@[simp] theorem State.setCore_flusher (c : Nat) (x : Core) : (s.setCore c x).flusher = s.flusher := rfl
@[simp] theorem State.setCore_hwuCache (c : Nat) (x : Core) : (s.setCore c x).hwuCache = s.hwuCache := rfl
@[simp] theorem State.setCore_sense (c : Nat) (x : Core) : (s.setCore c x).sense = s.sense := rfl
@[simp] theorem State.setCore_events (c : Nat) (x : Core) : (s.setCore c x).events = s.events := rfl
@[simp] theorem State.setCore_pwr (c : Nat) (x : Core) : (s.setCore c x).pwr = s.pwr := rfl
@[simp] theorem State.setCore_ports (c : Nat) (x : Core) : (s.setCore c x).ports = s.ports := rfl
@[simp] theorem State.setCore_ohp (c : Nat) (x : Core) : (s.setCore c x).ohp = s.ohp := rfl
@[simp] theorem State.setCore_mbx (c : Nat) (x : Core) : (s.setCore c x).mbx = s.mbx := rfl
@[simp] theorem State.setCore_timers (c : Nat) (x : Core) : (s.setCore c x).timers = s.timers := rfl
@[simp] theorem State.setCore_dither (c : Nat) (x : Core) : (s.setCore c x).dither = s.dither := rfl
@[simp] theorem State.setCore_tbus (c : Nat) (x : Core) : (s.setCore c x).tbus = s.tbus := rfl
@[simp] theorem State.setCore_twb (c : Nat) (x : Core) : (s.setCore c x).twb = s.twb := rfl
@[simp] theorem State.setCore_csp (c : Nat) (x : Core) : (s.setCore c x).csp = s.csp := rfl
@[simp] theorem State.setCore_islands (c : Nat) (x : Core) : (s.setCore c x).islands = s.islands := rfl
@[simp] theorem State.setCore_sup (c : Nat) (x : Core) : (s.setCore c x).sup = s.sup := rfl
@[simp] theorem State.setCore_sec (c : Nat) (x : Core) : (s.setCore c x).sec = s.sec := rfl
@[simp] theorem State.setCore_flx (c : Nat) (x : Core) : (s.setCore c x).flx = s.flx := rfl
@[simp] theorem State.setCore_mesh (c : Nat) (x : Core) : (s.setCore c x).mesh = s.mesh := rfl
@[simp] theorem State.setCore_pipe (c : Nat) (x : Core) : (s.setCore c x).pipe = s.pipe := rfl
@[simp] theorem State.setCore_copies (c : Nat) (x : Core) : (s.setCore c x).copies = s.copies := rfl

@[simp] theorem State.setTimer_pending (n : Nat) (x : Timer) : (s.setTimer n x).pending = s.pending := rfl
@[simp] theorem State.setTimer_free (n : Nat) (x : Timer) : (s.setTimer n x).free = s.free := rfl
@[simp] theorem State.setTimer_el (n : Nat) (x : Timer) : (s.setTimer n x).el = s.el := rfl
@[simp] theorem State.setTimer_regs (n : Nat) (x : Timer) : (s.setTimer n x).regs = s.regs := rfl
@[simp] theorem State.setTimer_pset (n : Nat) (x : Timer) : (s.setTimer n x).pset = s.pset := rfl
@[simp] theorem State.setTimer_cset (n : Nat) (x : Timer) : (s.setTimer n x).cset = s.cset := rfl
@[simp] theorem State.setTimer_rdata (n : Nat) (x : Timer) : (s.setTimer n x).rdata = s.rdata := rfl
@[simp] theorem State.setTimer_snaps (n : Nat) (x : Timer) : (s.setTimer n x).snaps = s.snaps := rfl
@[simp] theorem State.setTimer_mem (n : Nat) (x : Timer) : (s.setTimer n x).mem = s.mem := rfl
@[simp] theorem State.setTimer_merges (n : Nat) (x : Timer) : (s.setTimer n x).merges = s.merges := rfl
@[simp] theorem State.setTimer_arrived (n : Nat) (x : Timer) : (s.setTimer n x).arrived = s.arrived := rfl
@[simp] theorem State.setTimer_faultWait (n : Nat) (x : Timer) : (s.setTimer n x).faultWait = s.faultWait := rfl
@[simp] theorem State.setTimer_faults (n : Nat) (x : Timer) : (s.setTimer n x).faults = s.faults := rfl
@[simp] theorem State.setTimer_faultLost (n : Nat) (x : Timer) : (s.setTimer n x).faultLost = s.faultLost := rfl
@[simp] theorem State.setTimer_faultLostGts (n : Nat) (x : Timer) : (s.setTimer n x).faultLostGts = s.faultLostGts := rfl
@[simp] theorem State.setTimer_owner (n : Nat) (x : Timer) : (s.setTimer n x).owner = s.owner := rfl
@[simp] theorem State.setTimer_dom (n : Nat) (x : Timer) : (s.setTimer n x).dom = s.dom := rfl
@[simp] theorem State.setTimer_time (n : Nat) (x : Timer) : (s.setTimer n x).time = s.time := rfl
@[simp] theorem State.setTimer_tiles (n : Nat) (x : Timer) : (s.setTimer n x).tiles = s.tiles := rfl
@[simp] theorem State.setTimer_lanes (n : Nat) (x : Timer) : (s.setTimer n x).lanes = s.lanes := rfl
@[simp] theorem State.setTimer_portQ (n : Nat) (x : Timer) : (s.setTimer n x).portQ = s.portQ := rfl
@[simp] theorem State.setTimer_engines (n : Nat) (x : Timer) : (s.setTimer n x).engines = s.engines := rfl
@[simp] theorem State.setTimer_slices (n : Nat) (x : Timer) : (s.setTimer n x).slices = s.slices := rfl
@[simp] theorem State.setTimer_stp (n : Nat) (x : Timer) : (s.setTimer n x).stp = s.stp := rfl
@[simp] theorem State.setTimer_rings (n : Nat) (x : Timer) : (s.setTimer n x).rings = s.rings := rfl
@[simp] theorem State.setTimer_handles (n : Nat) (x : Timer) : (s.setTimer n x).handles = s.handles := rfl
@[simp] theorem State.setTimer_flusher (n : Nat) (x : Timer) : (s.setTimer n x).flusher = s.flusher := rfl
@[simp] theorem State.setTimer_hwuCache (n : Nat) (x : Timer) : (s.setTimer n x).hwuCache = s.hwuCache := rfl
@[simp] theorem State.setTimer_sense (n : Nat) (x : Timer) : (s.setTimer n x).sense = s.sense := rfl
@[simp] theorem State.setTimer_events (n : Nat) (x : Timer) : (s.setTimer n x).events = s.events := rfl
@[simp] theorem State.setTimer_pwr (n : Nat) (x : Timer) : (s.setTimer n x).pwr = s.pwr := rfl
@[simp] theorem State.setTimer_ports (n : Nat) (x : Timer) : (s.setTimer n x).ports = s.ports := rfl
@[simp] theorem State.setTimer_ohp (n : Nat) (x : Timer) : (s.setTimer n x).ohp = s.ohp := rfl
@[simp] theorem State.setTimer_cores (n : Nat) (x : Timer) : (s.setTimer n x).cores = s.cores := rfl
@[simp] theorem State.setTimer_mbx (n : Nat) (x : Timer) : (s.setTimer n x).mbx = s.mbx := rfl
@[simp] theorem State.setTimer_dither (n : Nat) (x : Timer) : (s.setTimer n x).dither = s.dither := rfl
@[simp] theorem State.setTimer_tbus (n : Nat) (x : Timer) : (s.setTimer n x).tbus = s.tbus := rfl
@[simp] theorem State.setTimer_twb (n : Nat) (x : Timer) : (s.setTimer n x).twb = s.twb := rfl
@[simp] theorem State.setTimer_csp (n : Nat) (x : Timer) : (s.setTimer n x).csp = s.csp := rfl
@[simp] theorem State.setTimer_islands (n : Nat) (x : Timer) : (s.setTimer n x).islands = s.islands := rfl
@[simp] theorem State.setTimer_sup (n : Nat) (x : Timer) : (s.setTimer n x).sup = s.sup := rfl
@[simp] theorem State.setTimer_sec (n : Nat) (x : Timer) : (s.setTimer n x).sec = s.sec := rfl
@[simp] theorem State.setTimer_flx (n : Nat) (x : Timer) : (s.setTimer n x).flx = s.flx := rfl
@[simp] theorem State.setTimer_mesh (n : Nat) (x : Timer) : (s.setTimer n x).mesh = s.mesh := rfl
@[simp] theorem State.setTimer_pipe (n : Nat) (x : Timer) : (s.setTimer n x).pipe = s.pipe := rfl
@[simp] theorem State.setTimer_copies (n : Nat) (x : Timer) : (s.setTimer n x).copies = s.copies := rfl

@[simp] theorem State.setMailbox_pending (n : Nat) (x : Mbx) : (s.setMailbox n x).pending = s.pending := rfl
@[simp] theorem State.setMailbox_free (n : Nat) (x : Mbx) : (s.setMailbox n x).free = s.free := rfl
@[simp] theorem State.setMailbox_el (n : Nat) (x : Mbx) : (s.setMailbox n x).el = s.el := rfl
@[simp] theorem State.setMailbox_regs (n : Nat) (x : Mbx) : (s.setMailbox n x).regs = s.regs := rfl
@[simp] theorem State.setMailbox_pset (n : Nat) (x : Mbx) : (s.setMailbox n x).pset = s.pset := rfl
@[simp] theorem State.setMailbox_cset (n : Nat) (x : Mbx) : (s.setMailbox n x).cset = s.cset := rfl
@[simp] theorem State.setMailbox_rdata (n : Nat) (x : Mbx) : (s.setMailbox n x).rdata = s.rdata := rfl
@[simp] theorem State.setMailbox_snaps (n : Nat) (x : Mbx) : (s.setMailbox n x).snaps = s.snaps := rfl
@[simp] theorem State.setMailbox_mem (n : Nat) (x : Mbx) : (s.setMailbox n x).mem = s.mem := rfl
@[simp] theorem State.setMailbox_merges (n : Nat) (x : Mbx) : (s.setMailbox n x).merges = s.merges := rfl
@[simp] theorem State.setMailbox_arrived (n : Nat) (x : Mbx) : (s.setMailbox n x).arrived = s.arrived := rfl
@[simp] theorem State.setMailbox_faultWait (n : Nat) (x : Mbx) : (s.setMailbox n x).faultWait = s.faultWait := rfl
@[simp] theorem State.setMailbox_faults (n : Nat) (x : Mbx) : (s.setMailbox n x).faults = s.faults := rfl
@[simp] theorem State.setMailbox_faultLost (n : Nat) (x : Mbx) : (s.setMailbox n x).faultLost = s.faultLost := rfl
@[simp] theorem State.setMailbox_faultLostGts (n : Nat) (x : Mbx) : (s.setMailbox n x).faultLostGts = s.faultLostGts := rfl
@[simp] theorem State.setMailbox_owner (n : Nat) (x : Mbx) : (s.setMailbox n x).owner = s.owner := rfl
@[simp] theorem State.setMailbox_dom (n : Nat) (x : Mbx) : (s.setMailbox n x).dom = s.dom := rfl
@[simp] theorem State.setMailbox_time (n : Nat) (x : Mbx) : (s.setMailbox n x).time = s.time := rfl
@[simp] theorem State.setMailbox_tiles (n : Nat) (x : Mbx) : (s.setMailbox n x).tiles = s.tiles := rfl
@[simp] theorem State.setMailbox_lanes (n : Nat) (x : Mbx) : (s.setMailbox n x).lanes = s.lanes := rfl
@[simp] theorem State.setMailbox_portQ (n : Nat) (x : Mbx) : (s.setMailbox n x).portQ = s.portQ := rfl
@[simp] theorem State.setMailbox_engines (n : Nat) (x : Mbx) : (s.setMailbox n x).engines = s.engines := rfl
@[simp] theorem State.setMailbox_slices (n : Nat) (x : Mbx) : (s.setMailbox n x).slices = s.slices := rfl
@[simp] theorem State.setMailbox_stp (n : Nat) (x : Mbx) : (s.setMailbox n x).stp = s.stp := rfl
@[simp] theorem State.setMailbox_rings (n : Nat) (x : Mbx) : (s.setMailbox n x).rings = s.rings := rfl
@[simp] theorem State.setMailbox_handles (n : Nat) (x : Mbx) : (s.setMailbox n x).handles = s.handles := rfl
@[simp] theorem State.setMailbox_flusher (n : Nat) (x : Mbx) : (s.setMailbox n x).flusher = s.flusher := rfl
@[simp] theorem State.setMailbox_hwuCache (n : Nat) (x : Mbx) : (s.setMailbox n x).hwuCache = s.hwuCache := rfl
@[simp] theorem State.setMailbox_sense (n : Nat) (x : Mbx) : (s.setMailbox n x).sense = s.sense := rfl
@[simp] theorem State.setMailbox_events (n : Nat) (x : Mbx) : (s.setMailbox n x).events = s.events := rfl
@[simp] theorem State.setMailbox_pwr (n : Nat) (x : Mbx) : (s.setMailbox n x).pwr = s.pwr := rfl
@[simp] theorem State.setMailbox_ports (n : Nat) (x : Mbx) : (s.setMailbox n x).ports = s.ports := rfl
@[simp] theorem State.setMailbox_ohp (n : Nat) (x : Mbx) : (s.setMailbox n x).ohp = s.ohp := rfl
@[simp] theorem State.setMailbox_cores (n : Nat) (x : Mbx) : (s.setMailbox n x).cores = s.cores := rfl
@[simp] theorem State.setMailbox_timers (n : Nat) (x : Mbx) : (s.setMailbox n x).timers = s.timers := rfl
@[simp] theorem State.setMailbox_dither (n : Nat) (x : Mbx) : (s.setMailbox n x).dither = s.dither := rfl
@[simp] theorem State.setMailbox_tbus (n : Nat) (x : Mbx) : (s.setMailbox n x).tbus = s.tbus := rfl
@[simp] theorem State.setMailbox_twb (n : Nat) (x : Mbx) : (s.setMailbox n x).twb = s.twb := rfl
@[simp] theorem State.setMailbox_csp (n : Nat) (x : Mbx) : (s.setMailbox n x).csp = s.csp := rfl
@[simp] theorem State.setMailbox_islands (n : Nat) (x : Mbx) : (s.setMailbox n x).islands = s.islands := rfl
@[simp] theorem State.setMailbox_sup (n : Nat) (x : Mbx) : (s.setMailbox n x).sup = s.sup := rfl
@[simp] theorem State.setMailbox_sec (n : Nat) (x : Mbx) : (s.setMailbox n x).sec = s.sec := rfl
@[simp] theorem State.setMailbox_flx (n : Nat) (x : Mbx) : (s.setMailbox n x).flx = s.flx := rfl
@[simp] theorem State.setMailbox_mesh (n : Nat) (x : Mbx) : (s.setMailbox n x).mesh = s.mesh := rfl
@[simp] theorem State.setMailbox_pipe (n : Nat) (x : Mbx) : (s.setMailbox n x).pipe = s.pipe := rfl
@[simp] theorem State.setMailbox_copies (n : Nat) (x : Mbx) : (s.setMailbox n x).copies = s.copies := rfl

/-! ## Reads after updates -/

@[simp] theorem State.reg_setReg_same (a : Nat) (w : Word) : (s.setReg a w).reg a = w := by
  simp [State.reg, State.setReg]

theorem State.reg_setReg_other {a b : Nat} (w : Word) (h : a ≠ b) : (s.setReg a w).reg b = s.reg b := by
  simp [State.reg, State.setReg, Tab.get_put_other _ _ _ h]

@[simp] theorem State.core_setCore_same (c : Nat) (x : Core) : (s.setCore c x).core c = x := by
  simp [State.core, State.setCore]

theorem State.core_setCore_other {c k : Nat} (x : Core) (h : c ≠ k) : (s.setCore c x).core k = s.core k := by
  simp [State.core, State.setCore, Tab.get_put_other _ _ _ h]

@[simp] theorem State.core_setReg (c a : Nat) (w : Word) : (s.setReg a w).core c = s.core c := rfl

@[simp] theorem State.core_store (c a : Nat) (l : List Byte) : (s.store a l).core c = s.core c := rfl

@[simp] theorem State.reg_setCore (a c : Nat) (x : Core) : (s.setCore c x).reg a = s.reg a := rfl

@[simp] theorem State.reg_store (a b : Nat) (l : List Byte) : (s.store b l).reg a = s.reg a := rfl

/-- A stored byte string keeps memory's canonical form. -/
theorem State.store_wf (a : Nat) (l : List Byte) (h : memWf s.mem = true) : memWf (s.store a l).mem = true :=
  memWf_writeBytes l a h

end Sys2Proof.Machine
end

