-- ==== Sys2Proof/Laws/Ops.lean ====
section
/-! SUPPORT. What the shared operations can do: publishing to a host port, asking for a wake, an access to a domain, and the
stacks of a processor that need no move. -/

namespace Sys2Proof.Machine

/-! ## Publishing, R332 and R333 -/

/-- Writing slots changes registers, memory and the ports only, and keeps memory's canonical form. -/
theorem State.flushSlots_frame (n fuel : Nat) : ∀ s : State, ∃ r m p,
    s.flushSlots n fuel = { s with regs := r, mem := m, ports := p } ∧ (memWf s.mem = true → memWf m = true) := by
  induction fuel with
  | zero => exact fun s => ⟨s.regs, s.mem, s.ports, rfl, id⟩
  | succ k ih =>
    intro s
    rw [State.flushSlots]
    split
    · exact ⟨s.regs, s.mem, s.ports, rfl, id⟩
    · split
      · exact ⟨s.regs, s.mem, s.ports, rfl, id⟩
      · obtain ⟨r, m, p, h, w⟩ := ih _
        exact ⟨r, m, p, h.trans (by simp only [State.setPort, State.setFld, State.setReg, State.store]),
          fun hs => w (by simp only [State.setPort, State.setFld, State.setReg]; exact State.store_wf s _ _ hs)⟩

/-- A reply, as every message published, changes registers, memory and the ports only, and keeps memory's canonical form. -/
theorem State.publish_frame (s : State) (n : Nat) (x : OutMsg) : ∃ r m p,
    s.publish n x = { s with regs := r, mem := m, ports := p } ∧ (memWf s.mem = true → memWf m = true) := by
  obtain ⟨r, m, p, h, w⟩ := State.flushSlots_frame n _ (s.setPort n { s.port n with outWait := (s.port n).outWait ++ [x] })
  exact ⟨r, m, p, h, w⟩

theorem State.reply_frame (s : State) (n : Nat) (m : Msg) (status : Nat) (fields : List Byte) : ∃ r l p,
    s.reply n m status fields = { s with regs := r, mem := l, ports := p } ∧ (memWf s.mem = true → memWf l = true) :=
  State.publish_frame s n _

/-! ## Domains, R445 -/

set_option maxRecDepth 4000 in
/-- The domains are listed in ascending order, so that the blocks of an entry are a table in Tab's form. -/
theorem allDomains_rising : allDomains.IsChain (· < ·) := by decide

/-- One domain's request changes the admission controller's queue only. -/
theorem State.askWake_frame (s : State) (d : Nat) :
    ∃ l, s.askWake d = { s with pwr := { s.pwr with queue := s.pwr.queue ++ l } } := by
  unfold State.askWake
  split
  · exact ⟨[], by simp⟩
  · exact ⟨_, rfl⟩

/-- Asking for a wake changes the admission controller's queue only. -/
theorem State.requestWake_frame (s : State) (d : Nat) :
    ∃ l, s.requestWake d = { s with pwr := { s.pwr with queue := s.pwr.queue ++ l } } := by
  unfold State.requestWake
  split
  next e _ =>
    split
    · exact s.askWake_frame d
    · obtain ⟨l, h⟩ := s.askWake_frame e
      obtain ⟨k, g⟩ := (s.askWake e).askWake_frame d
      exact ⟨l ++ k, by rw [g, h]; simp⟩
  next => exact s.askWake_frame d

/-- An access to a powered domain outside a mode entry is performed at once. -/
theorem State.withDomain_on {s : State} {d : Nat} (f : State → State) (h : s.isOn d = true) (e : s.pwr.entry = none) :
    s.withDomain d f = f s := by
  simp [State.withDomain, h, e]

/-- An access to a domain that is not powered asks for its wake. -/
theorem State.withDomain_off {s : State} {d : Nat} (f : State → State) (h : s.isOn d = false) :
    s.withDomain d f = s.requestWake d := by
  simp [State.withDomain, h]

/-- An access to an address outside a mode entry, whose domain is powered where it has one, is performed at once. -/
theorem State.access_reached {s : State} {a : Nat} (f : State → State) (e : s.pwr.entry = none)
    (h : (domainOf a).all (fun d => s.isOn d) = true) : s.access a f = f s := by
  unfold State.access
  split
  next d hd => exact State.withDomain_on f (by simpa [hd] using h) e
  · rfl

/-! ## Stacks, R252 -/

/-- An instruction for which no fill and no spill is due leaves the state as it is. -/
theorem State.prepare_fits (s : State) (c dIn dOut rIn rOut : Nat) (h1 : dIn ≤ (s.core c).ds.length)
    (h2 : dOut = 0 ∨ (s.core c).ds.length - dIn + dOut ≤ 12) (h3 : rIn ≤ (s.core c).rs.length)
    (h4 : rOut = 0 ∨ (s.core c).rs.length - rIn + rOut ≤ 12) : s.prepare c dIn dOut rIn rOut = .ok s () := by
  have e2 : (if dOut = 0 then 0 else (s.core c).ds.length - dIn + dOut - 12) = 0 := by split <;> omega
  have e4 : (if rOut = 0 then 0 else (s.core c).rs.length - rIn + rOut - 12) = 0 := by split <;> omega
  simp [State.prepare, State.prepareOne, Core.held, Nat.sub_eq_zero_of_le h1, e2, Nat.sub_eq_zero_of_le h3, e4,
    State.fills, State.spills, Ran.bind]

/-! ## The instruction cache, R289 -/

/-- Filling a line changes the processor's own instruction cache only. -/
theorem State.fillLine_frame (s : State) (c a : Nat) : ∃ p, s.fillLine c a = { s with pipe := p } ∧ p.cycles = s.pipe.cycles ∧
    ∀ k, k ≠ c → Tab.get [] p.caches k = Tab.get [] s.pipe.caches k := by
  unfold State.fillLine
  simp only
  split
  · exact ⟨s.pipe, rfl, rfl, fun _ _ => rfl⟩
  · exact ⟨_, rfl, rfl, fun k h => Tab.get_put_other _ _ _ (Ne.symm h)⟩

/-- A decode brings lines into the processor's own instruction cache and changes nothing else. -/
theorem State.lined_frame (s : State) (det : Bool) (c at_ : Nat) : ∃ p, s.lined det c at_ = { s with pipe := p } ∧
    p.cycles = s.pipe.cycles ∧ ∀ k, k ≠ c → Tab.get [] p.caches k = Tab.get [] s.pipe.caches k := by
  unfold State.lined
  split
  · exact ⟨s.pipe, rfl, rfl, fun _ _ => rfl⟩
  · simp only
    obtain ⟨p, h, h1, h2⟩ := State.fillLine_frame s c (if (s.core c).enc then at_ else 2 * at_)
    obtain ⟨q, g, g1, g2⟩ := State.fillLine_frame { s with pipe := p } c ((if (s.core c).enc then at_ else 2 * at_) + 7)
    rw [h, g]
    exact ⟨q, rfl, g1.trans h1, fun k e => (g2 k e).trans (h2 k e)⟩

/-- The inputs of an instruction are the words on top of the data stack. -/
theorem allSome_map (l : List Word) : allSome (l.map some) = some l := by
  induction l with
  | nil => rfl
  | cons w r ih => simp [allSome, ih]

end Sys2Proof.Machine
end

