-- ==== Sys2Proof/Laws/Gsi.lean ====
section
/-! SUPPORT. What a GSI command does on a processor that issues its instruction, and what one can answer at all. -/

namespace Sys2Proof.Machine

variable {s : State} {c : Nat} {d : Decoded} {sel : Op → Bool} {body : Decoded → State → Ran Nat}

/-- A processor that issues the command's instruction does what the instruction comes to. -/
theorem State.gsi_issues (h : Issues s c d) (hs : sel d.op = true) :
    s.gsi c sel body = match body d s with
      | .ok t next => .next ((t.setCore c ((t.core c).completed d.here next false)).lined (s.core c).det c d.here)
      | .waits t => .next t
      | .traps t v sub stk eval => .next (t.exception c v sub stk eval)
      | .eio => .fault .eioRegister := by
  obtain ⟨h1, h2, h3, h4⟩ := h
  simp [State.gsi, h1, h2, h3, h4, hs, Core.admits]
  all_goals (split <;> simp_all)

/-- A command whose instruction is not the one at the pc does nothing. -/
theorem State.gsi_other (h : Issues s c d) (hs : sel d.op = false) : s.gsi c sel body = .next s := by
  obtain ⟨h1, h2, h3, h4⟩ := h
  simp [State.gsi, h1, h2, h4, hs]

/-- A halted processor, and one whose domain is not powered, does nothing. -/
theorem State.gsi_stopped (h : (s.core c).halted = true ∨ s.works (coreBlock c) = false) : s.gsi c sel body = .next s := by
  simp only [State.gsi]
  rw [if_pos]
  simpa using h

/-- With its inputs on top of the data stack and no move due, an instruction on the stacks runs on those inputs. -/
theorem State.onStacks_ready {o : Op} {ins : List Word} {m : Nat} (f : State → List Word → Ran (List Word))
    (h : Ready s c d o ins m) (n : Nat) (hn : n = ins.length) :
    s.onStacks c d.keep n m 0 0 f = (f s ins).bind (fun t outs =>
      .ok (t.setCore c { t.core c with ds := outs.map some ++ (t.core c).ds.drop (if d.keep then 0 else n) }) ()) := by
  subst hn
  obtain ⟨-, -, h3, f1, f2, f3, f4⟩ := h
  have hp := State.prepare_fits s c ins.length (if d.keep then ins.length + m else m) 0 0 f1 f2 f3 f4
  simp [State.onStacks, hp, Ran.bind, h3, allSome_map]

/-- The core that a pure stack instruction leaves. -/
theorem State.pure_ready {o : Op} {ins : List Word} {m : Nat} (f : List Word → List Word)
    (h : Ready s c d o ins m) (n : Nat) (hn : n = ins.length) :
    s.pure c d n m f =
      .ok (s.setCore c { s.core c with ds := (f ins).map some ++ (s.core c).ds.drop (if d.keep then 0 else n) }) d.next := by
  simp only [State.pure, State.plain, State.onStacks_ready _ h n hn]
  rfl

/-- A state in which one processor was replaced differs in that processor only. -/
theorem onlyCore_setCore (s : State) (c : Nat) (x : Core) : OnlyCore s (s.setCore c x) c :=
  ⟨rfl, fun _ h => State.core_setCore_other s x (Ne.symm h)⟩

end Sys2Proof.Machine
end

