-- ==== Sys2Proof/Laws/Reload.lean ====
section
/-! SUPPORT. What Topcoat's copies and their reload can do: the copy of a domain, the KEEP alarm, the wake of a domain, and when
nothing is reloaded. -/

namespace Sys2Proof.Machine

/-- Copying a domain changes the copies only. -/
theorem State.keepCopy_frame (s : State) (d : Nat) : ∃ t, s.keepCopy d = { s with copies := t } := ⟨_, rfl⟩

/-- A domain that is off already keeps the copy that it has. -/
theorem State.copyDomain_off {s : State} {d : Nat} (t : Tab Copy) (h : s.domState d = .off) : s.copyDomain t d = t := by
  simp [State.copyDomain, h]

/-- The copy of another domain stays. -/
theorem State.copyDomain_other (s : State) (t : Tab Copy) {d k : Nat} (h : k ≠ d) :
    Tab.find (s.copyDomain t d) k = Tab.find t k := by
  unfold State.copyDomain
  split
  · rfl
  · exact Tab.find_put_other _ _ (Ne.symm h)

/-- The alarm that Topcoat sets changes registers only. -/
theorem State.setAlarm_frame (s : State) : ∃ r, s.setAlarm = { s with regs := r } := ⟨_, rfl⟩

/-- An alarm written changes the host's alarm only. -/
theorem State.noteAlarm_frame (s : State) : ∃ a, s.noteAlarm = { s with pwr := { s.pwr with hostAlarm := a } } := ⟨_, rfl⟩

/-- Where Topcoat holds no copy it reloads nothing. -/
theorem State.topcoatReloads_none {s : State} (h : s.copies = []) : s.topcoatReloads = s := by
  simp [State.topcoatReloads, h]

/-- Where Topcoat does not run it reloads nothing. -/
theorem State.topcoatReloads_down {s : State} (h : s.topcoatUp = false) : s.topcoatReloads = s := by
  simp [State.topcoatReloads, h]

/-- A domain without a commit takes the words of its copy. -/
theorem State.reload_words (s : State) (d : Nat) (x : Copy) (h : d / 256 = 0x23 ∨ d / 256 = 0x22) (e : x.cells = []) :
    s.reload d x = x.words.foldl (fun s w => s.setReg w.1 w.2) { s with copies := Tab.del s.copies d } := by
  rcases h with h | h <;> simp [State.reload, State.commitReload, h, e]

end Sys2Proof.Machine
end

