-- ==== Sys2Proof/Tests/Slice0.lean ====
section
/-! SUPPORT. Tests of well-formedness, of the spec's worked examples and of single steps; and for every statement with
hypotheses, clause by clause, a state and operands that meet them. -/

open Sys2Proof Sys2Proof.Machine
namespace Sys2Proof.Tests

-- Each test is checked before the next is read: in one text the tests would otherwise wait in threads of their own.
set_option Elab.async false

/-- A running processor with its domain on, code where it runs (narrow words or bytes), and what its stacks hold: core 0 in
the narrow or the byte encoding, or the Keeper running from MRAM. -/
def cpu (o : Op) (keep nf : Bool) (ds rs : List Word) : State :=
  { State.reset with
    mem := memWriteBytes [] (progMemBase 0) ((encodeNarrow o keep nf).flatMap (fun w => leBytes 2 w))
    dom := [(0x0100, .on), (0x0300, .on), (0x0400, .on)]
    cores := [(0, { Core.reset 0 with run := true, halted := false, fresh := false, ds := ds.map some, rs := rs })] }
/-- The same in the byte encoding. -/
def bpu (o : Op) (keep nf : Bool) (ds rs : List Word) : State :=
  { State.reset with
    mem := memWriteBytes [] (progMemBase 0 + 0x200) (encodeBytes o keep nf)
    dom := [(0x0100, .on), (0x0300, .on), (0x0400, .on)]
    cores := [(0, { Core.reset 0 with
      run := true, halted := false, fresh := false, enc := true, pc := 0x200, ds := ds.map some, rs := rs })] }
/-- The same on the Keeper. -/
def kpu (o : Op) (keep nf : Bool) (ds rs : List Word) : State :=
  { State.reset with
    mem := memWriteBytes [] 0x10000000 (encodeBytes o keep nf), dom := [(0x1700, .on)]
    cores := [(16, { Core.reset 16 with pc := 0x10000000, ds := ds.map some, rs := rs })] }
/-- The state with processor c changed. -/
def withCore (s : State) (c : Nat) (f : Core → Core) : State := s.setCore c (f (s.core c))
/-- The instruction at processor c's pc. -/
def dec (s : State) (c : Nat) : Decoded :=
  match s.fetch c (s.core c).pc with
  | .got _ d => d
  | _ => ⟨.zero 0, false, false, 0, 0⟩
/-- A committed field set. -/
def cf (a : Nat) (f : Fld) (v : Nat) (s : State) : State := { s with cset := Tab.put s.cset a (fset (s.cword a) f v) }
/-- A pending field set. -/
def pf (a : Nat) (f : Fld) (v : Nat) (s : State) : State := { s with pset := Tab.put s.pset a (fset (s.pword a) f v) }
/-- A register's field set. -/
def rf (a : Nat) (f : Fld) (v : Nat) (s : State) : State := s.setFld a f v
/-- Domains powered. -/
def lit (l : List Nat) (s : State) : State := l.foldl (fun s d => s.setDom d .on) s
/-- A package in a mode, its time locked, Topcoat running, at an instant of the model's clock. -/
def live (mode el : Nat) : State :=
  { State.reset with
    el, ohp := { Ohp.reset with running := true }
    time := { Time.reset with keepCarries := false, pll := .locked, state := .locked } }.setFld PWR_STATUS.addr PWR_STATUS.MODE mode
/-- A lane record. -/
def lrec (v : Word) : LaneRec := { gts := ⟨5, 1⟩, value := v, lane := 3, flags := 0, seq := 7, epoch := 0 }
/-- An instant. -/
def at5 : Stamp := ⟨⟨5, 1⟩, 0, none⟩
/-- An event record. -/
def erec (cause : Nat) : EvRec :=
  { gts := ⟨5, 1⟩, value := 9, kind := 2, subj := 3, rule := 4, cause, count := 1, trans := 0, eflags := 0, epoch := 0 }
/-- A message taken. -/
def hmsg (op : Nat) (lens : List Nat) (payload : List Byte) : Msg := { seq := 9, op, lens, payload }
/-- A RULE_LOAD for a cluster: its mask and the engines' bytes. -/
def ruleMsg (cluster : Nat) (mask : Nat) (body : List Byte) : Msg :=
  hmsg 0x22 [40 + body.length] (leBytes 8 cluster ++ leBytes 4 0x4D495247 ++ leBytes 4 1 ++ leBytes 4 mask ++ leBytes 4 body.length ++
    leBytes 4 (crc32 body) ++ List.replicate 12 0 ++ body)
/-- A package that serves port 3, whose one message taken is m. -/
def serving (mode : Nat) (m : Msg) : State :=
  { (live mode 5000 |> lit [0x1200, 0x1700, 0x163D, 0x163E, 0x163F] |> rf (HP_STATUS.addr 3) HP_STATUS.RINGS 1) with
    ports := [(3, { Port.reset with session := some 0x21, taken := [m] })] }
/-- The instruction at an address. -/
def decAt (s : State) (c pc : Nat) : Decoded :=
  match s.fetch c pc with
  | .got _ d => d
  | _ => ⟨.zero 0, false, false, 0, 0⟩

/-! ## Which commands are well formed -/

theorem test_wf_ring_period : (Instr.ringCalibration 0 0).wf = false := by decide
theorem test_wf_readback_length : (Instr.logBlockReadback (List.replicate 12 0)).wf = false := by decide
theorem test_wf_log_read_length : (Instr.logRead 0 (some (0, [0]))).wf = false := by decide
theorem test_wf_window_address : (Instr.windowRead 0 2 1).wf = false := by decide
theorem test_wf_late_words : (Instr.read 0 0 3 4).wf = false := by decide
theorem test_wf_flotex_length : (Instr.flxFrameReceive [0, 0] 0).wf = false := by decide
theorem test_wf_scrim_slot :
    (Instr.scrimFrameReceive { slot := 2, left := 0, domain := 1, tx := 2, rx := 3, fc := 4, mic := true, body := .leave } 0).wf
      = false := by decide
theorem test_wf_scrub_words : (Instr.scrubDone 513 []).wf = false := by decide
theorem test_wf_well_formed : (Instr.read 0 0 3 3).wf = true ∧ (Instr.add 0).wf = true := by decide

/-! ## The spec's own worked examples -/

/-- The 12 bytes of the example beside R49. -/
theorem test_gts_bytes :
    gtsBytes ⟨BitVec.ofNat 80 (820464149 * 2 ^ 40 + 2 ^ 38), 0x29C4⟩ =
      [0xC4, 0x29, 0x00, 0x00, 0x00, 0x00, 0x40, 0x15, 0x4A, 0xE7, 0x30, 0x00] := by decide +kernel
/-- The UNC of the same example is 10,000 ns. -/
theorem test_gts_uncertainty : decodeUnc 0x29C4 = 10000 := by decide
/-- The instruction words of the example beside R271: PUSHI 0x400, LOOP with its end at the ADD, IN 0x0120, STW at offset 0. -/
theorem test_narrow_words (k : Nat → Bool) :
    decodeNarrow k [0x2400, 0, 0, 0] = .op (.pushi 0x400) false false 1 ∧
    decodeNarrow k [0x0604, 0, 0, 0] = .op (.loop 4) false false 1 ∧
    decodeNarrow k [0x0E48, 0, 0, 0] = .op (.ioIn 0x120) false false 1 ∧
    decodeNarrow k [0x0280, 0, 0, 0] = .op (.mem 5 0) false false 1 := ⟨rfl, rfl, rfl, rfl⟩
/-- The same in bytes. -/
theorem test_byte_words (k : Nat → Bool) :
    decodeBytes k [0x81, 0x00, 0x04, 0] = .op (.pushi 0x400) false false 3 ∧
    decodeBytes k [0xB4, 0x08, 0, 0] = .op (.loop 8) false false 2 ∧
    decodeBytes k [0xB2, 0x20, 0x01, 0] = .op (.ioIn 0x120) false false 3 ∧
    decodeBytes k [0xA5, 0x00, 0, 0] = .op (.mem 5 0) false false 2 := ⟨rfl, rfl, rfl, rfl⟩
/-- The example of R193: a DV of zigzag(−1843) = 3685 takes 14 bits with KV 10. -/
theorem test_rice_code : zigzag (-1843) = 3685 ∧ (rice 10 33 3685).map List.length = some 14 := by decide
/-- The microcode of the example beside R282: DBANDS of 500, −100 and 200 with immediate 2 leaves 75. -/
theorem test_microcode_dbands :
    (match runMicro (memPort 0)
      [(0x40, 0x2DA2000000000000), (0x41, 0x29B0000000000000), (0x42, 0x0826000000000000), (0x43, 0xA00E000000000000)]
      1024 0x40 (setupU [200, -100, 500] 2) State.reset with
    | (_, .done u) => u.take 1
    | _ => []) = [75] := by decide +kernel
/-- The walk of the example beside R207: the page of window address 0x0152_3A10 at 0x0034_5000, through two tables. -/
theorem test_window_walk :
    (({ (State.reset |> cf (HWU_TBASE.addr 1) HWU_TBASE.ADDR (0x780040 / 64) |> cf (HWU_WSIZE.addr 1) HWU_WSIZE.PAGES 16384) with
      mem := memWriteBytes (memWriteBytes [] 0x780054 (leBytes 4 0x796001)) 0x79648C (leBytes 4 0x345001) } : State).walk 1
        (0x1523A10 / 0x1000)).toOption = some (0x345000, 0x345001) := by decide +kernel

/-! ## Single steps -/

/-- ADD wraps to 0 with C and Z, R265. -/
theorem test_add_wraps :
    (match step { cpu (.zero 0x10) false false [1, 0xFFFFFFFF] [] with pending := [.add 0] } with
    | .next t => some ((t.core 0).ds, flagC (t.core 0).flags, flagZ (t.core 0).flags, t.pending)
    | _ => none) = some ([some 0], true, true, []) := by decide +kernel
/-- SUB takes the top from the second, R271: 3 − 5. -/
theorem test_sub_order :
    (match step { cpu (.zero 0x11) false false [5, 3] [] with pending := [.sub 0] } with
    | .next t => (t.core 0).ds
    | _ => []) = [some 0xFFFFFFFE] := by decide +kernel
/-- The quotient of −2^31 by −1 wraps and the division by 0 traps, R271 and R274. -/
theorem test_div_wraps :
    (match divided State.reset 0xFFFFFFFF (BitVec.ofInt 32 (Int.tdiv (0x80000000 : Word).toInt (0xFFFFFFFF : Word).toInt)) with
    | .outs _ r => r
    | _ => []) = [0x80000000] := by decide +kernel
theorem test_div_by_zero : (match divided State.reset 0 7 with | .traps _ v _ => v | _ => 0) = 5 := by decide +kernel
/-- A reset that clears the core die ends the entry under way and leaves the reference settling, R38 and R45. -/
theorem test_core_die_reset :
    (match exec .coreDieReset { State.reset with sup := { State.reset.sup with lost := true }, el := 7
                                                 time := { Time.reset with refEn := false } } with
    | .next t => (t.pwr.waking, t.time.refEn, t.time.spanFrom)
    | _ => (true, false, 0)) = (false, true, 7) := by decide +kernel
/-- The cache serves a word that has changed in program memory since, R289. -/
theorem test_cache_keeps_its_line :
    (let s := (bpu (.zero 0x10) false false [] []).lined false 0 0x200
     ((s.store (progMemBase 0 + 0x200) [0x11]).byteAt 0 0x200, (s.emptyCache 0).store (progMemBase 0 + 0x200) [0x11] |>.byteAt 0 0x200))
      = (0x10, 0x11) := by decide +kernel
/-- R426: what a tile's passed set and a converter's register hold is copied as the domain goes off; what resets hold is not. -/
theorem test_keep_copy :
    (let s := (live 4 5 |> lit [0x0203, 0x2301] |> pf (TILE_PERIOD.addr 3) TILE_PERIOD.P 777 |> rf (TILE_PERIOD.addr 3) TILE_PERIOD.P 9 |>
        rf (ADC_SDCFG.addr 1) ADC_SDCFG.TCONV 5)
     ((Tab.find (s.keepCopy 0x0203).copies 0x0203).map (fun x => x.words.map (fun w => fget w.2 TILE_PERIOD.P)),
      (Tab.find (s.keepCopy 0x2301).copies 0x2301).map (fun x => x.words.length), (s.keepCopy 0x0204).copies.length)) =
      (some [777], some 1, 0) := by decide +kernel

/-- R520: of the host's alarm and 30 days ahead the earlier is armed. -/
theorem test_alarm_before_an_entry :
    (let s := live 4 5
     let u := (s.setPwr { s.pwr with hostAlarm := some 77 }).setAlarm
     ((s.setAlarm.reg PWR_KALARM0.addr).toNat, (u.reg PWR_KALARM0.addr).toNat, u.fld PWR_KALARM1.addr PWR_KALARM1.EN)) =
      (2592000, 77, 1) := by decide +kernel

/-- The tick of an idle machine, log entry 2. -/
theorem test_idle_tick : (match step State.reset with | .next t => t.el | _ => 0) = 1 := by decide +kernel

/-! ## What meets the hypotheses of the statements about the whole machine -/

/-- A state with no command waiting. -/
theorem witness_empty_queue_lets_time_pass : State.reset.pending = [] := rfl
/-- A canonical state that steps to a next state. -/
theorem witness_every_step_keeps_memory_canonical : ∃ s t : State, s.memOk ∧ step s = .next t :=
  ⟨State.reset, tick State.reset, by decide +kernel, rfl⟩
/-- An operand at the end of its range that the narrow encoding admits with both prefixes, and one with none. -/
theorem witness_narrow_decode_of_encode :
    ((Op.zero 0x11).narrowWf = true ∧ (Op.zero 0x11).accepts (fun _ => true) true true = true) ∧
    ((Op.branch 1 (-512)).narrowWf = true ∧ (Op.branch 1 (-512)).accepts (fun _ => true) false false = true) := by decide +kernel
/-- The same of the byte encoding, and a page-1 instruction with one prefix. -/
theorem witness_byte_decode_of_encode :
    ((Op.branch 1 (-32768)).byteWf = true ∧ (Op.branch 1 (-32768)).accepts (fun _ => true) false false = true) ∧
    ((Op.page1 1).byteWf = true ∧ (Op.page1 1).accepts (fun _ => true) true false = true ∧ (true && false) = false) := by
  decide +kernel

/-! ## What meets the hypotheses of the other statements, clause by clause -/

/-- An `OwTest` for the witnesses. -/
def aOwTest3 : OwTest :=
  { wire := 4, phase := OwPhase.windowA, since := 5, codesA := [1, 2, 3] }
/-- A `Waiting` for the witnesses. -/
def aWaiting2 : Waiting :=
  { ch := Channel.event, src := 3, dst := 15, pkt := Packet.attention 5 at5, flits := 1, since := 5, cycle := 10, order := 0 }
/-- A signal that waits. -/
def aSignal : Waiting :=
  { ch := .event, src := 7, dst := 7, pkt := .signal 3 255 at5, flits := 1, since := 5, cycle := 10, order := 0 }
/-- An `OwTest` for the witnesses. -/
def aOwTest2 : OwTest :=
  { wire := 4, phase := OwPhase.recovery, since := 5, codesA := [1, 2, 3] }
/-- A `TwbJob` for the witnesses. -/
def aTwbJob : TwbJob :=
  { user := BusUser.manual, desc := 5, at_ := 0, late := false, epoch := 0 }
/-- An `OwTest` for the witnesses. -/
def aOwTest : OwTest :=
  { wire := 4, phase := OwPhase.injecting, since := 5, codesA := [1, 2, 3] }
/-- A `Gathered` for the witnesses. -/
def aGathered : Gathered :=
  { ins := [1, -2], doubt := 1, gts := { t := 5, unc := 1 : Gts }, epoch := 0, times := [[5]] }
/-- An `Entry` for the witnesses. -/
def aEntry7 : Entry :=
  { from_ := 5, to_ := 1, phase := EntryPhase.handover, blocks := [], saves := [] }
/-- A `Waiting` for the witnesses. -/
def aWaiting : Waiting :=
  { ch := Channel.data, src := 2, dst := 8, pkt := Packet.laneRecord 1 (lrec 3), flits := 2, since := 5, cycle := 10, order := 0 }
/-- Its second flit. -/
def lastFlit : Waiting := { aWaiting with flits := 1 }
/-- An `Entry` for the witnesses. -/
def aEntry6 : Entry :=
  { from_ := 5, to_ := 3, phase := EntryPhase.powerDown, blocks := [], saves := [] }
/-- An `Entry` for the witnesses. -/
def aEntry5 : Entry :=
  { from_ := 5, to_ := 1, phase := EntryPhase.powerDown, blocks := [], saves := [] }
/-- A `SavedCore` for the witnesses. -/
def aSavedCore3 : SavedCore :=
  { pc := 85, ds := [], rs := [2], dsp := 256, rsp := 512, flags := 3, loops := [] }
/-- A `FaultRec` for the witnesses. -/
def aFaultRec : FaultRec :=
  { level := 4, cause := 5, unit := 6, gts := { t := 5, unc := 1 : Gts }, detail := 7 }
/-- A `SavedCore` for the witnesses. -/
def aSavedCore2 : SavedCore :=
  { pc := 85, ds := [some 1], rs := [2], dsp := 256, rsp := 512, flags := 3, loops := [] }
/-- A `Claim` for the witnesses. -/
def aClaim : Claim :=
  { kind := ClaimKind.nextPps, time := 7, unc := 3, force := false, since := 0, seq := 4, op := 16 }
/-- A `SavedCore` for the witnesses. -/
def aSavedCore : SavedCore :=
  { pc := 85, ds := [some 1], rs := [2], dsp := 256, rsp := 512, flags := 3, loops := [(1, 2, 3)] }
/-- An `Entry` for the witnesses. -/
def aEntry4 : Entry :=
  { from_ := 5, to_ := 3, phase := EntryPhase.query, blocks := [(4096, BlockState.asked)], saves := [] }
/-- An `Entry` for the witnesses. -/
def aEntry3 : Entry :=
  { from_ := 5, to_ := 4, phase := EntryPhase.query, blocks := [(4096, BlockState.asked)], saves := [] }
/-- A `Journal` for the witnesses. -/
def aJournal : Journal :=
  { seq := 3, active := 1, trial := false, trials := 2, version := 7, floor := 2, scrub := 0, passday := 0 }
/-- An `Entry` for the witnesses. -/
def aEntry2 : Entry :=
  { from_ := 5, to_ := 2, phase := EntryPhase.query, blocks := [(4096, BlockState.delayed 1000)], saves := [] }
/-- A `ScrimFrame` for the witnesses. -/
def aScrimFrame2 : ScrimFrame :=
  { slot := 0, left := 3, domain := 77, tx := 85, rx := 291, fc := 97, mic := true, body := ScrimBody.leave }
/-- A `Held` for the witnesses. -/
def aHeld : Held :=
  { lanes := 32768, gts := { t := 77, unc := 5 : Gts }, epoch := 0, val := Acq.code 5, ow := false, late := false }
/-- A `ScrimFrame` for the witnesses. -/
def aScrimFrame : ScrimFrame :=
  { slot := 0, left := 3, domain := 77, tx := 85, rx := 65535, fc := 200, mic := true, body := ScrimBody.leave }
/-- An ACK frame for the witnesses. -/
def anAckFrame : ScrimFrame := { aScrimFrame with body := ScrimBody.ack 85 9 291 5 false }
/-- A `MeshRep` for the witnesses. -/
def aMeshRep : MeshRep :=
  { gts := { t := 5, unc := 1 : Gts }, subj := 1, cause := 2, epoch := 0, count := 1, flags := 0, hops := 0,
    first := 1 }
/-- An `Entry` for the witnesses. -/
def aEntry : Entry :=
  { from_ := 5, to_ := 2, phase := EntryPhase.query, blocks := [(5888, BlockState.asked), (6144, BlockState.asked)],
    saves := [] }
/-- A `MeshMsg` for the witnesses. -/
def aMeshMsg2 : MeshMsg :=
  { handle := 3, port := 3, msg := 5, dkind := 0, dest := 102, epoch := 0, ack := true, data := [1, 2], sentAt := 5,
    sends := 2 }
/-- A `MeshMsg` for the witnesses. -/
def aMeshMsg : MeshMsg :=
  { handle := 3, port := 3, msg := 5, dkind := 0, dest := 102, epoch := 0, ack := true, data := [1, 2], sentAt := 5,
    sends := 3 }
/-- A `StpRun` for the witnesses. -/
def aStpRun2 : StpRun :=
  { slot := 7, rule := none, got := some aGathered }
/-- A `StpRun` for the witnesses. -/
def aStpRun : StpRun :=
  { slot := 2, rule := some 3, got := some aGathered }
/-- A `CspJob` for the witnesses. -/
def aCspJob2 : CspJob :=
  { user := BusUser.manual, desc := 5, addr := 7, len := 3, buf := 131070, at_ := 0, late := false, epoch := 0,
    since := 5, again := none }
/-- A `Coal` for the witnesses. -/
def aCoal2 : Coal :=
  { key := (2, 5, 9), close := 7, count := 3, gts := { t := 5, unc := 1 : Gts }, value := 4, valueAt := 5, trans := 3, rule := 255,
    eflags := 2, epoch := 0 }
/-- A `Coal` for the witnesses. -/
def aCoal : Coal :=
  { key := (2, 5, 9), close := 7, count := 0, gts := { t := 5, unc := 1 : Gts }, value := 4, valueAt := 5, trans := 3, rule := 255,
    eflags := 2, epoch := 0 }
/-- A `CspJob` for the witnesses. -/
def aCspJob : CspJob :=
  { user := BusUser.manual, desc := 5, addr := 7, len := 3, buf := 131070, at_ := 0, late := false, epoch := 0,
    since := 5, again := some 77 }
/-- A `Neigh` for the witnesses. -/
def aNeigh : Neigh :=
  { node := 85, heard := 5, role := 1, epoch := 2, hops := 1, parent := 102, unc := 5, watched := false,
    gateway := false, fc := 100, window := 5 }
/-- A `SnsWin` for the witnesses. -/
def aSnsWin2 : SnsWin :=
  { cmds := [{ port := 29, tile := 31, lanes := 32769 : SnsCmd }], since := 5, len := 100, est := true,
    gts := { t := 5, unc := 1 : Gts }, epoch := 0, bad := [] }
/-- A `SnsWin` for the witnesses. -/
def aSnsWin : SnsWin :=
  { cmds := [{ port := 31, tile := 31, lanes := 32769 : SnsCmd }], since := 5, len := 100, est := false,
    gts := { t := 5, unc := 1 : Gts }, epoch := 0, bad := [] }
/-- A `LongOp` for the witnesses. -/
def aLongOp9 : LongOp :=
  { kind := LongKind.sqrt, ins := [99], outs := 1, shadow := 0, saved := aSavedCore2 }
/-- A `LongOp` for the witnesses. -/
def aLongOp8 : LongOp :=
  { kind := LongKind.div, ins := [0, 5], outs := 1, shadow := 3, saved := aSavedCore2 }
/-- A `LongOp` for the witnesses. -/
def aLongOp7 : LongOp :=
  { kind := LongKind.rem, ins := [2, 7], outs := 1, shadow := 0, saved := aSavedCore2 }
/-- A `LongOp` for the witnesses. -/
def aLongOp6 : LongOp :=
  { kind := LongKind.div, ins := [2, 7], outs := 1, shadow := 0, saved := aSavedCore2 }
/-- A `LongOp` for the witnesses. -/
def aLongOp5 : LongOp :=
  { kind := LongKind.custom 1 3, ins := [7, 5], outs := 1, shadow := 0, saved := aSavedCore3 }
/-- A `LongOp` for the witnesses. -/
def aLongOp4 : LongOp :=
  { kind := LongKind.remu, ins := [2, 7], outs := 1, shadow := 0, saved := aSavedCore2 }
/-- A `LongOp` for the witnesses. -/
def aLongOp3 : LongOp :=
  { kind := LongKind.divu, ins := [2, 7], outs := 1, shadow := 0, saved := aSavedCore2 }
/-- A `LongOp` for the witnesses. -/
def aLongOp2 : LongOp :=
  { kind := LongKind.movb, ins := [8, 512, 256], outs := 0, shadow := 0, saved := aSavedCore3 }
/-- A `RepEntry` for the witnesses. -/
def aRepEntry2 : RepEntry :=
  { rep := aMeshRep, closeAt := 9, ready := true, order := 0 }
/-- A `LongOp` for the witnesses. -/
def aLongOp : LongOp :=
  { kind := LongKind.div, ins := [3, 7], outs := 1, shadow := 2, saved := aSavedCore }
/-- A `RepEntry` for the witnesses. -/
def aRepEntry : RepEntry :=
  { rep := aMeshRep, closeAt := 9, ready := false, order := 0 }
/-- A `SnsResult` for the witnesses. -/
def aSnsResult : SnsResult :=
  { port := 29, chan := 3, code := 77, ow := false, est := true, chip := true, gts := { t := 5, unc := 1 : Gts },
    epoch := 0, cmds := [{ port := 29, tile := 31, lanes := 32769 : SnsCmd }] }
/-- A `Profile` for the witnesses. -/
def aProfile : Profile :=
  { leadReq := false, leadOk := false, domain := 77, node := 291, csp := 5, pin := 47, beacon := 10, lostn := 3,
    window := 100, quota := 5, watched := true, gateway := false, repAlarm := false, txLat := 3, rxLat := 4 }
/-- A `Seg` for the witnesses. -/
def aSeg2 : Seg :=
  { page := 130, sseq := 4, epoch := 0, fmt := 0, kt := 0, kv := 0, base := { t := 3, unc := 1 : Gts }, nrec := 2,
    used := 48, closed := true, aged := false, cut := false, lost := false, flushed := false, lastT := 5, ctx := [] }
/-- A `Seg` for the witnesses. -/
def aSeg : Seg :=
  { page := 130, sseq := 4, epoch := 0, fmt := 0, kt := 0, kv := 0, base := { t := 3, unc := 1 : Gts }, nrec := 2,
    used := 48, closed := false, aged := false, cut := false, lost := false, flushed := false, lastT := 5, ctx := [] }

/-- States that meet the hypotheses of UnassignedEncodingsRaiseIllegal, clause by clause. -/
theorem witness_unassigned_encodings_raise_illegal :
    (Instr.add 0 ∈ [Instr.nop 0, Instr.add 0, Instr.ldw 0, Instr.br 0, Instr.custom 0, Instr.reti 0, Instr.barrier 0,
         Instr.rsr 0] ∧ ((cpu (Op.zero 13) false false [] [1]).core 0).halted = false ∧
      (cpu (Op.zero 13) false false [] [1]).works (coreBlock 0) = true ∧
      ((cpu (Op.zero 13) false false [] [1]).core 0).long = none ∧
      (cpu (Op.zero 13) false false [] [1]).fetch 0 ((cpu (Op.zero 13) false false [] [1]).core 0).pc = Fetch.illegal
        (cpu (Op.zero 13) false false [] [1]) 1037 ∧ ((cpu (Op.zero 13) false false [] [1]).core 0).rs.length ≤ 14) ∧
    (1037 ∈ [1037, 1065, 1077, 1105, 1860, 1796, 1855]) ∧
    (13 ∈ [13, 41, 53, 81, 131, 152, 182, 224, 255]) :=
  ⟨by decide +kernel,
   by decide +kernel,
   by decide +kernel⟩

/-- States that meet the hypotheses of StackMovesFollowTheirStackEffects, clause by clause. -/
theorem witness_stack_moves_follow_their_stack_effects :
    (∃ s : State, (dec s 0).keep = false ∧ Ready s 0 (dec s 0) (Op.zero 0) [] 0) ∧
    (∃ s : State, (dec s 0).keep = false ∧ Ready s 0 (dec s 0) (Op.zero 1) [1] 2) ∧
    (∃ s : State, (dec s 16).keep = false ∧ Ready s 16 (dec s 16) (Op.zero 2) [1] 0) ∧
    (∃ s : State, (dec s 0).keep = false ∧ Ready s 0 (dec s 0) (Op.zero 3) [2, 1] 2) ∧
    (∃ s : State, (dec s 0).keep = false ∧ Ready s 0 (dec s 0) (Op.zero 4) [2, 1] 3) ∧
    (∃ s : State, (dec s 0).keep = false ∧ Ready s 0 (dec s 0) (Op.zero 5) [3, 2, 1] 3) ∧
    (∃ s : State, (dec s 16).keep = false ∧ Ready s 16 (dec s 16) (Op.zero 6) [2, 1] 1) ∧
    (∃ s : State, (dec s 0).keep = false ∧ Ready s 0 (dec s 0) (Op.zero 7) [2, 1] 3) ∧
    (∃ s : State, (dec s 0).keep = false ∧ Ready s 0 (dec s 0) (Op.zero 8) [2, 1] 4) ∧
    (∃ s : State, (dec s 0).keep = false ∧ Ready s 0 (dec s 0) (Op.zero 9) [2, 1] 0) ∧
    (∃ s : State, (dec s 16).keep = false ∧ Ready s 16 (dec s 16) (Op.zero 10) [1] 0 ∧ (s.core 16).rs.length < 12) ∧
    (∃ s : State, (dec s 0).keep = false ∧ Ready s 0 (dec s 0) (Op.zero 11) [] 1 ∧ (s.core 0).rs = [4294967295, 9]) ∧
    (∃ s : State, (dec s 0).keep = false ∧ Ready s 0 (dec s 0) (Op.zero 12) [] 1 ∧ (s.core 0).rs = [4294967295, 9]) ∧
    (∃ s : State, (dec s 0).keep = false ∧ Ready s 0 (dec s 0) (Op.pushi 4294967295) [] 1) :=
  ⟨⟨cpu (.zero 0x00) false false [] [], by decide +kernel⟩,
   ⟨bpu (.zero 0x01) false false [1] [], by decide +kernel⟩,
   ⟨kpu (.zero 0x02) false false [1] [], by decide +kernel⟩,
   ⟨cpu (.zero 0x03) false false [2, 1] [], by decide +kernel⟩,
   ⟨cpu (.zero 0x04) false false [2, 1] [], by decide +kernel⟩,
   ⟨bpu (.zero 0x05) false false [3, 2, 1] [], by decide +kernel⟩,
   ⟨kpu (.zero 0x06) false false [2, 1] [], by decide +kernel⟩,
   ⟨cpu (.zero 0x07) false false [2, 1] [], by decide +kernel⟩,
   ⟨cpu (.zero 0x08) false false [2, 1] [], by decide +kernel⟩,
   ⟨bpu (.zero 0x09) false false [2, 1] [], by decide +kernel⟩,
   ⟨withCore (kpu (.zero 0x0A) false false [1] []) 16 (fun x => { x with rs := [0xFFFFFFFF, 9] }), by decide +kernel⟩,
   ⟨withCore (cpu (.zero 0x0B) false false [] []) 0 (fun x => { x with rs := [0xFFFFFFFF, 9] }), by decide +kernel⟩,
   ⟨withCore (cpu (.zero 0x0C) false false [] []) 0 (fun x => { x with rs := [0xFFFFFFFF, 9] }), by decide +kernel⟩,
   ⟨bpu (.pushi 0xFFFFFFFF) false false [] [], by decide +kernel⟩⟩

/-- States that meet the hypotheses of StacksFillAndSpill, clause by clause. -/
theorem witness_stacks_fill_and_spill :
    (∃ s : State, Issues s 0 (dec s 0) ∧ (dec s 0).keep = false ∧ (dec s 0).op = Op.zero 1 ∧ (s.core 0).ds = [] ∧
      (s.core 0).rs.length ≤ 12 ∧ (s.core 0).stores = [] ∧
      BitVec.toNat (s.core 0).dsp < BitVec.toNat (s.core 0).dsbase ∧ BitVec.toNat (s.core 0).dsp % 4 = 0 ∧
      BitVec.toNat (s.core 0).dsp + 4 ≤ 131072) ∧
    (∃ s : State, Issues s 0 (dec s 0) ∧ (dec s 0).keep = false ∧ (dec s 0).op = Op.pushi 2 ∧
      (s.core 0).ds.length = 12 ∧ (s.core 0).ds.getLast? = some (some 1) ∧ (s.core 0).rs.length ≤ 12 ∧
      (s.core 0).stores.length < 4 ∧ BitVec.toNat (s.core 0).dslim + 4 ≤ BitVec.toNat (s.core 0).dsp ∧
      BitVec.toNat (s.core 0).dsp % 4 = 0 ∧ BitVec.toNat (s.core 0).dsp ≤ 131072) ∧
    (∃ s : State, Issues s 0 (dec s 0) ∧ (dec s 0).keep = false ∧ (dec s 0).op = Op.zero 11 ∧ (s.core 0).rs = [] ∧
      (s.core 0).ds.length < 12 ∧ (s.core 0).stores = [] ∧
      BitVec.toNat (s.core 0).rsp < BitVec.toNat (s.core 0).rsbase ∧ BitVec.toNat (s.core 0).rsp % 4 = 0 ∧
      BitVec.toNat (s.core 0).rsp + 4 ≤ 131072) ∧
    (∃ s : State, Issues s 0 (dec s 0) ∧ (dec s 0).keep = false ∧ (dec s 0).op = Op.zero 10 ∧
      (s.core 0).rs.length = 12 ∧ (s.core 0).rs.getLast? = some 1 ∧ (s.core 0).ds.head? = some (some 2) ∧
      (s.core 0).ds.length ≤ 12 ∧ (s.core 0).stores.length < 4 ∧
      BitVec.toNat (s.core 0).rslim + 4 ≤ BitVec.toNat (s.core 0).rsp ∧ BitVec.toNat (s.core 0).rsp % 4 = 0 ∧
      BitVec.toNat (s.core 0).rsp ≤ 131072) :=
  ⟨⟨withCore (bpu (.zero 0x01) false false [] []) 0 (fun x => { x with dsp := 0xFFFC }), by decide +kernel⟩,
   ⟨bpu (.pushi 2) false false [12, 11, 10, 9, 8, 7, 6, 5, 4, 3, 2, 1] [], by decide +kernel⟩,
   ⟨withCore (cpu (.zero 0x0B) false false [] []) 0 (fun x => { x with rsp := 0xF400 }), by decide +kernel⟩,
   ⟨bpu (.zero 0x0A) false false [2] [12, 11, 10, 9, 8, 7, 6, 5, 4, 3, 2, 1], by decide +kernel⟩⟩

/-- States that meet the hypotheses of StackFaultsArePrecise, clause by clause. -/
theorem witness_stack_faults_are_precise :
    (∃ s : State, Issues s 0 (dec s 0) ∧ (dec s 0).keep = false ∧ (dec s 0).op = Op.pushi 2 ∧
      (s.core 0).ds.length = 12 ∧ (s.core 0).ds.getLast? = some (some 1) ∧ (s.core 0).rs.length ≤ 12 ∧
      BitVec.toNat (s.core 0).dsp < BitVec.toNat (s.core 0).dslim + 4) ∧
    (∃ s : State, Issues s 0 (dec s 0) ∧ (dec s 0).keep = false ∧ (dec s 0).op = Op.zero 2 ∧ (s.core 0).ds = [] ∧
      (s.core 0).rs.length ≤ 12 ∧ BitVec.toNat (s.core 0).dsbase ≤ BitVec.toNat (s.core 0).dsp) ∧
    (∃ s : State, Issues s 0 (dec s 0) ∧ (dec s 0).keep = false ∧ (dec s 0).op = Op.zero 2 ∧ (s.core 0).ds = [] ∧
      (s.core 0).rs.length ≤ 12 ∧ BitVec.toNat (s.core 0).dsp < BitVec.toNat (s.core 0).dsbase ∧
      131072 < BitVec.toNat (s.core 0).dsp + 4) ∧
    (∃ s : State, Issues s 0 (dec s 0) ∧ (dec s 0).keep = false ∧ (dec s 0).op = Op.zero 10 ∧
      (s.core 0).rs.length = 12 ∧ (s.core 0).ds.head? = some (some 2) ∧ (s.core 0).ds.length ≤ 12 ∧
      BitVec.toNat (s.core 0).rsp < BitVec.toNat (s.core 0).rslim + 4) ∧
    (∃ s : State, Issues s 0 (dec s 0) ∧ (dec s 0).keep = false ∧ (dec s 0).op = Op.zero 11 ∧ (s.core 0).rs = [] ∧
      (s.core 0).ds.length < 12 ∧ BitVec.toNat (s.core 0).rsbase ≤ BitVec.toNat (s.core 0).rsp) ∧
    (∃ s : State, Issues s 0 (dec s 0) ∧ (dec s 0).keep = false ∧ (dec s 0).op = Op.zero 2 ∧ (s.core 0).ds = [] ∧
      12 < (s.core 0).rs.length ∧ BitVec.toNat (s.core 0).dsbase ≤ BitVec.toNat (s.core 0).dsp) :=
  ⟨⟨withCore (cpu (.pushi 2) false false [12, 11, 10, 9, 8, 7, 6, 5, 4, 3, 2, 1] []) 0
       (fun x => { x with dsp := 0xF800, dslim := 0xF800 }), by decide +kernel⟩,
   ⟨cpu (.zero 2) false false [] [], by decide +kernel⟩,
   ⟨withCore (bpu (.zero 2) false false [] []) 0 (fun x => { x with dsp := 0x1FFFE, dsbase := 0x30000 }),
      by decide +kernel⟩,
   ⟨withCore (cpu (.zero 0x0A) false false [2] [12, 11, 10, 9, 8, 7, 6, 5, 4, 3, 2, 1]) 0
       (fun x => { x with rsp := 0xF000, rslim := 0xF000 }), by decide +kernel⟩,
   ⟨cpu (.zero 0x0B) false false [] [], by decide +kernel⟩,
   ⟨bpu (.zero 2) false false [] [13, 12, 11, 10, 9, 8, 7, 6, 5, 4, 3, 2, 1], by decide +kernel⟩⟩

/-- States that meet the hypotheses of ArithmeticSetsFlags, clause by clause. -/
theorem witness_arithmetic_sets_flags :
    (∃ s : State, Ready s 0 (dec s 0) (Op.zero 16) [7, 5] 1) ∧
    (∃ s : State, Ready s 0 (dec s 0) (Op.zero 17) [7, 5] 1) ∧
    (∃ s : State, Ready s 0 (dec s 0) (Op.zero 18) [7, 5] 1) ∧
    (∃ s : State, Ready s 0 (dec s 0) (Op.zero 19) [7, 5] 1) ∧
    (∃ s : State, Ready s 0 (dec s 0) (Op.zero 20) [0] 1) ∧
    (∃ s : State, Ready s 0 (dec s 0) (Op.zero 21) [0] 1) ∧
    (∃ s : State, Ready s 0 (dec s 0) (Op.zero 22) [0] 1) ∧
    (∃ s : State, Ready s 0 (dec s 0) (Op.zero 23) [0] 1) ∧
    (∃ s : State, Ready s 0 (dec s 0) (Op.zero 32) [7, 5] 0) ∧
    (∃ s : State, Ready s 0 (dec s 0) (Op.zero 33) [0] 0) ∧
    (∃ s : State, Ready s 0 (dec s 0) (Op.zero 34) [7, 5] 1) ∧
    (∃ s : State, Ready s 0 (dec s 0) (Op.zero 35) [7, 5] 1) ∧
    (∃ s : State, Ready s 0 (dec s 0) (Op.zero 36) [7, 5] 1) ∧
    (∃ s : State, Ready s 0 (dec s 0) (Op.zero 37) [7, 5] 1) :=
  ⟨⟨withCore (cpu (.zero 16) false false [7, 5] []) 0 (fun x => { x with flags := 10 }), by decide +kernel⟩,
   ⟨withCore (cpu (.zero 17) false false [7, 5] []) 0 (fun x => { x with flags := 5 }), by decide +kernel⟩,
   ⟨withCore (cpu (.zero 18) true true [7, 5] []) 0 (fun x => { x with flags := 10 }), by decide +kernel⟩,
   ⟨withCore (cpu (.zero 19) true true [7, 5] []) 0 (fun x => { x with flags := 10 }), by decide +kernel⟩,
   ⟨withCore (cpu (.zero 20) false false [0] []) 0 (fun x => { x with flags := 5 }), by decide +kernel⟩,
   ⟨withCore (cpu (.zero 21) false false [0] []) 0 (fun x => { x with flags := 10 }), by decide +kernel⟩,
   ⟨withCore (cpu (.zero 22) true true [0] []) 0 (fun x => { x with flags := 10 }), by decide +kernel⟩,
   ⟨withCore (cpu (.zero 23) false false [0] []) 0 (fun x => { x with flags := 5 }), by decide +kernel⟩,
   ⟨withCore (cpu (.zero 32) false false [7, 5] []) 0 (fun x => { x with flags := 10 }), by decide +kernel⟩,
   ⟨withCore (cpu (.zero 33) false false [0] []) 0 (fun x => { x with flags := 5 }), by decide +kernel⟩,
   ⟨withCore (cpu (.zero 34) false false [7, 5] []) 0 (fun x => { x with flags := 10 }), by decide +kernel⟩,
   ⟨withCore (cpu (.zero 35) false false [7, 5] []) 0 (fun x => { x with flags := 5 }), by decide +kernel⟩,
   ⟨withCore (cpu (.zero 36) false false [7, 5] []) 0 (fun x => { x with flags := 5 }), by decide +kernel⟩,
   ⟨withCore (cpu (.zero 37) false false [7, 5] []) 0 (fun x => { x with flags := 5 }), by decide +kernel⟩⟩

/-- States that meet the hypotheses of LogicShiftsAndCounts, clause by clause. -/
theorem witness_logic_shifts_and_counts :
    (∃ s : State, Ready s 0 (dec s 0) (Op.zero 24) [1, 305419904] 1) ∧
    (∃ s : State, Ready s 0 (dec s 0) (Op.zero 25) [1, 305419904] 1) ∧
    (∃ s : State, Ready s 0 (dec s 0) (Op.zero 26) [1, 305419904] 1) ∧
    (∃ s : State, Ready s 0 (dec s 0) (Op.zero 27) [0] 1) ∧
    (∃ s : State, Ready s 0 (dec s 0) (Op.zero 28) [1, 305419904] 1) ∧
    (∃ s : State, Ready s 0 (dec s 0) (Op.zero 29) [1, 305419904] 1) ∧
    (∃ s : State, Ready s 0 (dec s 0) (Op.zero 30) [1, 305419904] 1) ∧
    (∃ s : State, Ready s 0 (dec s 0) (Op.zero 31) [1, 305419904] 1) ∧
    (∃ s : State, Ready s 0 (dec s 0) (Op.zero 38) [0] 1) ∧
    (∃ s : State, Ready s 0 (dec s 0) (Op.zero 39) [0] 1) ∧
    (∃ s : State, Ready s 0 (dec s 0) (Op.zero 40) [0] 1 ∧ (32 < 32 ∧ 1 ≤ 0 ∧ 0 < 1 ∨ 32 = 32 ∧ 0 = 0)) ∧
    (∃ s : State, Ready s 0 (dec s 0) (Op.page1 1) [0] 1) ∧
    (∃ s : State, Ready s 0 (dec s 0) (Op.page1 3) [0] 1 ∧ (32 < 32 ∧ 0 = 4294967296 ∨ 32 = 32 ∧ 0 = 0)) ∧
    (∃ s : State, Ready s 0 (dec s 0) (Op.page1 2) [0] 1) :=
  ⟨⟨withCore (cpu (.zero 0x18) false false [1, 0x12345680] []) 0 (fun x => { x with flags := 5 }), by decide +kernel⟩,
   ⟨withCore (cpu (.zero 0x19) false false [1, 0x12345680] []) 0 (fun x => { x with flags := 5 }), by decide +kernel⟩,
   ⟨withCore (cpu (.zero 0x1A) false false [1, 0x12345680] []) 0 (fun x => { x with flags := 5 }), by decide +kernel⟩,
   ⟨withCore (cpu (.zero 0x1B) false false [0] []) 0 (fun x => { x with flags := 5 }), by decide +kernel⟩,
   ⟨withCore (cpu (.zero 0x1C) false false [1, 0x12345680] []) 0 (fun x => { x with flags := 5 }), by decide +kernel⟩,
   ⟨withCore (cpu (.zero 0x1D) false false [1, 0x12345680] []) 0 (fun x => { x with flags := 5 }), by decide +kernel⟩,
   ⟨withCore (cpu (.zero 0x1E) false false [1, 0x12345680] []) 0 (fun x => { x with flags := 5 }), by decide +kernel⟩,
   ⟨withCore (cpu (.zero 0x1F) false false [1, 0x12345680] []) 0 (fun x => { x with flags := 5 }), by decide +kernel⟩,
   ⟨withCore (cpu (.zero 0x26) false false [0] []) 0 (fun x => { x with flags := 5 }), by decide +kernel⟩,
   ⟨withCore (cpu (.zero 0x27) false false [0] []) 0 (fun x => { x with flags := 5 }), by decide +kernel⟩,
   ⟨withCore (cpu (.zero 0x28) false false [0] []) 0 (fun x => { x with flags := 5 }), by decide +kernel⟩,
   ⟨withCore (cpu (.page1 1) false false [0] []) 0 (fun x => { x with flags := 5 }), by decide +kernel⟩,
   ⟨withCore (cpu (.page1 3) false false [0] []) 0 (fun x => { x with flags := 5 }), by decide +kernel⟩,
   ⟨withCore (cpu (.page1 2) false false [0] []) 0 (fun x => { x with flags := 5 }), by decide +kernel⟩⟩

/-- States that meet the hypotheses of ProductsLandInIssueOrder, clause by clause. -/
theorem witness_products_land_in_issue_order :
    (∃ s : State, Ready s 0 (dec s 0) (Op.zero 44) [4294967295, 2147483648] 0) ∧
    (∃ s : State, Ready s 0 (dec s 0) (Op.zero 45) [4294967295, 2147483648] 0) ∧
    (∃ s : State, (s.core 0).products = [(1, 2), (3, 4)]) ∧
    (∃ s : State, Ready s 0 (dec s 0) (Op.zero 46) [] 1) ∧
    (∃ s : State, Ready s 0 (dec s 0) (Op.zero 47) [] 1) :=
  ⟨⟨withCore (cpu (.zero 0x2C) false false [0xFFFFFFFF, 0x80000000] []) 0
       (fun x => { x with ph := 5, pl := 6, products := [(1,2),(3,4)] }), by decide +kernel⟩,
   ⟨withCore (cpu (.zero 0x2D) false false [0xFFFFFFFF, 0x80000000] []) 0
       (fun x => { x with ph := 5, pl := 6, products := [(1,2),(3,4)] }), by decide +kernel⟩,
   ⟨withCore (cpu (.zero 0) false false [] []) 0 (fun x => { x with ph := 5, pl := 6, products := [(1,2),(3,4)] }),
      by decide +kernel⟩,
   ⟨withCore (cpu (.zero 0x2E) false false [] []) 0 (fun x => { x with ph := 5, pl := 6, products := [(1,2),(3,4)] }),
      by decide +kernel⟩,
   ⟨withCore (cpu (.zero 0x2F) false false [] []) 0 (fun x => { x with ph := 5, pl := 6, products := [(1,2),(3,4)] }),
      by decide +kernel⟩⟩

/-- States that meet the hypotheses of LoadsAndStoresReachDataSpace, clause by clause. -/
theorem witness_loads_and_stores_reach_data_space :
    (∃ s : State, Ready s 0 (dec s 0) (Op.zero 56) [131068] 1 ∧ (0 = 0 ∧ 131072 ≤ 131072) ∧ (s.core 0).stores = []) ∧
    (∃ s : State, Ready s 0 (dec s 0) (Op.zero 57) [131068] 1 ∧ (0 = 0 ∧ 131070 ≤ 131072) ∧ (s.core 0).stores = []) ∧
    (∃ s : State, Ready s 0 (dec s 0) (Op.zero 58) [131068] 1 ∧ (0 = 0 ∧ 131070 ≤ 131072) ∧ (s.core 0).stores = []) ∧
    (∃ s : State, Ready s 0 (dec s 0) (Op.zero 59) [131068] 1 ∧ (0 = 0 ∧ 131069 ≤ 131072) ∧ (s.core 0).stores = []) ∧
    (∃ s : State, Ready s 0 (dec s 0) (Op.zero 60) [131068] 1 ∧ (0 = 0 ∧ 131069 ≤ 131072) ∧ (s.core 0).stores = []) ∧
    (∃ s : State, Ready s 0 (dec s 0) (Op.mem 0 2) [256] 1 ∧ (0 = 0 ∧ 268 ≤ 131072) ∧ (s.core 0).stores = []) ∧
    (∃ s : State, Ready s 0 (dec s 0) (Op.mem 1 2) [256] 1 ∧ (0 = 0 ∧ 262 ≤ 131072) ∧ (s.core 0).stores = []) ∧
    (∃ s : State, Ready s 0 (dec s 0) (Op.mem 2 2) [256] 1 ∧ (0 = 0 ∧ 262 ≤ 131072) ∧ (s.core 0).stores = []) ∧
    (∃ s : State, Ready s 0 (dec s 0) (Op.mem 3 2) [256] 1 ∧ (0 = 0 ∧ 259 ≤ 131072) ∧ (s.core 0).stores = []) ∧
    (∃ s : State, Ready s 0 (dec s 0) (Op.mem 4 2) [256] 1 ∧ (0 = 0 ∧ 259 ≤ 131072) ∧ (s.core 0).stores = []) ∧
    (∃ s : State, Ready s 0 (dec s 0) (Op.zero 61) [260, 2864434397] 0 ∧ (0 = 0 ∧ 264 ≤ 131072) ∧
      (s.core 0).stores.length < 4) ∧
    (∃ s : State, Ready s 0 (dec s 0) (Op.zero 62) [260, 2864434397] 0 ∧ (0 = 0 ∧ 262 ≤ 131072) ∧
      (s.core 0).stores.length < 4) ∧
    (∃ s : State, Ready s 0 (dec s 0) (Op.zero 63) [260, 2864434397] 0 ∧ (0 = 0 ∧ 261 ≤ 131072) ∧
      (s.core 0).stores.length < 4) ∧
    (∃ s : State, Ready s 0 (dec s 0) (Op.mem 5 2) [260, 2864434397] 0 ∧ (0 = 0 ∧ 272 ≤ 131072) ∧
      (s.core 0).stores.length < 4) ∧
    (∃ s : State, Ready s 0 (dec s 0) (Op.mem 6 2) [260, 2864434397] 0 ∧ (0 = 0 ∧ 266 ≤ 131072) ∧
      (s.core 0).stores.length < 4) ∧
    (∃ s : State, Ready s 0 (dec s 0) (Op.mem 7 2) [260, 2864434397] 0 ∧ (0 = 0 ∧ 263 ≤ 131072) ∧
      (s.core 0).stores.length < 4) ∧
    (∃ s : State, Ready s 0 (dec s 0) (Op.zero 64) [8] 1 ∧ (s.core 0).enc = true) ∧
    (∃ s : State, Ready s 0 (dec s 0) (Op.zero 64) [8] 1 ∧ (s.core 0).enc = false) :=
  ⟨⟨bpu (.zero 56) false false [131068] [], by decide +kernel⟩,
   ⟨cpu (.zero 57) false false [131068] [], by decide +kernel⟩,
   ⟨cpu (.zero 58) false false [131068] [], by decide +kernel⟩,
   ⟨cpu (.zero 59) false false [131068] [], by decide +kernel⟩,
   ⟨bpu (.zero 60) false false [131068] [], by decide +kernel⟩,
   ⟨{ (cpu (.mem 0 2) false false [256] []) with
           mem := memWriteBytes (memWriteBytes [] (progMemBase 0)
              ((encodeNarrow (.mem 0 2) false false).flatMap (fun w => leBytes 2 w))) (dataMemBase 0 + 0x100)
             [0xF1,0xF2,0xF3,0xF4,0xF5] }, by decide +kernel⟩,
   ⟨{ (cpu (.mem 1 2) false false [256] []) with
           mem := memWriteBytes (memWriteBytes [] (progMemBase 0)
              ((encodeNarrow (.mem 1 2) false false).flatMap (fun w => leBytes 2 w))) (dataMemBase 0 + 0x100)
             [0xF1,0xF2,0xF3,0xF4,0xF5] }, by decide +kernel⟩,
   ⟨{ (cpu (.mem 2 2) false false [256] []) with
           mem := memWriteBytes (memWriteBytes [] (progMemBase 0)
              ((encodeNarrow (.mem 2 2) false false).flatMap (fun w => leBytes 2 w))) (dataMemBase 0 + 0x100)
             [0xF1,0xF2,0xF3,0xF4,0xF5] }, by decide +kernel⟩,
   ⟨{ (cpu (.mem 3 2) false false [256] []) with
           mem := memWriteBytes (memWriteBytes [] (progMemBase 0)
              ((encodeNarrow (.mem 3 2) false false).flatMap (fun w => leBytes 2 w))) (dataMemBase 0 + 0x100)
             [0xF1,0xF2,0xF3,0xF4,0xF5] }, by decide +kernel⟩,
   ⟨{ (cpu (.mem 4 2) false false [256] []) with
           mem := memWriteBytes (memWriteBytes [] (progMemBase 0)
              ((encodeNarrow (.mem 4 2) false false).flatMap (fun w => leBytes 2 w))) (dataMemBase 0 + 0x100)
             [0xF1,0xF2,0xF3,0xF4,0xF5] }, by decide +kernel⟩,
   ⟨cpu (.zero 61) false false [260, 2864434397] [], by decide +kernel⟩,
   ⟨cpu (.zero 62) false false [260, 2864434397] [], by decide +kernel⟩,
   ⟨cpu (.zero 63) false false [260, 2864434397] [], by decide +kernel⟩,
   ⟨cpu (.mem 5 2) false false [260, 2864434397] [], by decide +kernel⟩,
   ⟨cpu (.mem 6 2) false false [260, 2864434397] [], by decide +kernel⟩,
   ⟨cpu (.mem 7 2) false false [260, 2864434397] [], by decide +kernel⟩,
   ⟨bpu (.zero 0x40) false false [8] [], by decide +kernel⟩,
   ⟨cpu (.zero 0x40) false false [8] [], by decide +kernel⟩⟩

/-- States that meet the hypotheses of TheStoreBufferDrainsAndForwards, clause by clause. -/
theorem witness_the_store_buffer_drains_and_forwards :
    (∃ s : State, (s.core 0).stores = [{ addr := 256, bytes := [1, 2], shadow := false : StoreEntry },
         { addr := 4, bytes := [1], shadow := true : StoreEntry }] ∧
      { addr := 256, bytes := [1, 2], shadow := false : StoreEntry }.shadow = false) ∧
    (∃ s : State, (s.core 0).stores = [{ addr := 256, bytes := [1, 2], shadow := true : StoreEntry }] ∧
      { addr := 256, bytes := [1, 2], shadow := true : StoreEntry }.shadow = true) ∧
    (∃ s : State, Ready s 0 (dec s 0) (Op.zero 56) [256] 1 ∧
      (s.core 0).stores = [{ addr := 256, bytes := [1, 2], shadow := false : StoreEntry }] ++
        [{ addr := 256, bytes := leBytes 4 2864434397, shadow := false : StoreEntry }]) ∧
    (∃ s : State, Ready s 0 (dec s 0) (Op.zero 56) [256] 1 ∧
      (s.core 0).stores = [{ addr := 256, bytes := [7], shadow := false : StoreEntry }]) :=
  ⟨⟨withCore (cpu (.zero 0x38) false false [256] []) 0
       (fun x => { x with stores := [⟨0x100,[1,2],false⟩,⟨4,[1],true⟩] }), by decide +kernel⟩,
   ⟨withCore (cpu (.zero 0x38) false false [256] []) 0 (fun x => { x with stores := [⟨0x100,[1,2],true⟩] }),
      by decide +kernel⟩,
   ⟨withCore (cpu (.zero 0x38) false false [256] []) 0
       (fun x => { x with stores := [⟨0x100,[1,2],false⟩,⟨0x100,leBytes 4 0xAABBCCDD,false⟩] }), by decide +kernel⟩,
   ⟨withCore (cpu (.zero 0x38) false false [256] []) 0 (fun x => { x with stores := [⟨0x100,[7],false⟩] }),
      by decide +kernel⟩⟩

/-- States that meet the hypotheses of BadAddressesRaiseExceptions, clause by clause. -/
theorem witness_bad_addresses_raise_exceptions :
    (∃ s : State, Ready s 0 (dec s 0) (Op.zero 56) [131069] 1) ∧
    (∃ s : State, Ready s 0 (dec s 0) (Op.zero 56) [131065] 1) ∧
    (∃ s : State, Ready s 0 (dec s 0) (Op.zero 62) [131071, 1] 0) ∧
    (∃ s : State, Ready s 0 (dec s 0) (Op.zero 62) [131069, 1] 0) ∧
    (∃ s : State, Ready s 0 (dec s 0) (Op.zero 65) [17] 1) ∧
    (∃ s : State, Ready s 0 (dec s 0) (Op.zero 65) [252] 1 ∧ (s.core 0).stores = [] ∧ s.ioRead 0 252 = none) ∧
    (∃ s : State, Ready s 16 (dec s 16) (Op.zero 66) [65536, 1] 0 ∧ (s.core 16).stores = []) :=
  ⟨⟨cpu (.zero 0x38) false false [131069] [], by decide +kernel⟩,
   ⟨cpu (.zero 0x38) false false [131065] [], by decide +kernel⟩,
   ⟨cpu (.zero 0x3E) false false [131071, 1] [], by decide +kernel⟩,
   ⟨cpu (.zero 0x3E) false false [131069, 1] [], by decide +kernel⟩,
   ⟨cpu (.zero 0x41) false false [17] [], by decide +kernel⟩,
   ⟨bpu (.zero 0x41) false false [252] [], by decide +kernel⟩,
   ⟨kpu (.zero 0x42) false false [65536, 1] [], by decide +kernel⟩⟩

/-- States that meet the hypotheses of IoInstructionsReachRegisters, clause by clause. -/
theorem witness_io_instructions_reach_registers :
    (∃ s : State, Ready s 0 (dec s 0) (Op.zero 65) [36] 1 ∧ (s.core 0).stores = [] ∧ s.ioRead 0 36 = some (1, s)) ∧
    (∃ s : State, Ready s 0 (dec s 0) (Op.ioIn 0) [] 1 ∧ (s.core 0).stores = []) ∧
    (∃ s : State, Ready s 0 (dec s 0) (Op.ioIn 4) [] 1 ∧ (s.core 0).stores = []) ∧
    (∃ s : State, Ready s 0 (dec s 0) (Op.ioIn 12) [] 1 ∧ (s.core 0).stores = []) ∧
    (∃ s : State, Ready s 0 (dec s 0) (Op.ioIn 16) [] 1 ∧ (s.core 0).stores = []) ∧
    (∃ s : State, Ready s 0 (dec s 0) (Op.ioIn 20) [] 1 ∧ (s.core 0).stores = []) ∧
    (∃ s : State, Ready s 0 (dec s 0) (Op.ioIn 24) [] 1 ∧ (s.core 0).stores = []) ∧
    (∃ s : State, Ready s 0 (dec s 0) (Op.ioIn 28) [] 1 ∧ (s.core 0).stores = []) ∧
    (∃ s : State, Ready s 0 (dec s 0) (Op.ioIn 36) [] 1 ∧ (s.core 0).stores = []) ∧
    (∃ s : State, Ready s 0 (dec s 0) (Op.ioOut 0) [4294967287] 0 ∧ (s.core 0).stores = []) ∧
    (∃ s : State, Ready s 16 (dec s 16) (Op.zero 66) [0, 4294967287] 0 ∧ (s.core 16).stores = []) ∧
    (∃ s : State, Ready s 0 (dec s 0) (Op.ioOut 4) [4294967287] 0 ∧ (s.core 0).stores = []) ∧
    (∃ s : State, Ready s 0 (dec s 0) (Op.zero 66) [4, 4294967287] 0 ∧ (s.core 0).stores = []) ∧
    (∃ s : State, Ready s 0 (dec s 0) (Op.ioOut 12) [4294967287] 0 ∧ (s.core 0).stores = []) ∧
    (∃ s : State, Ready s 16 (dec s 16) (Op.zero 66) [12, 4294967287] 0 ∧ (s.core 16).stores = []) ∧
    (∃ s : State, Ready s 0 (dec s 0) (Op.ioOut 16) [4294967287] 0 ∧ (s.core 0).stores = []) ∧
    (∃ s : State, Ready s 0 (dec s 0) (Op.zero 66) [16, 4294967287] 0 ∧ (s.core 0).stores = []) ∧
    (∃ s : State, Ready s 0 (dec s 0) (Op.ioOut 36) [4294967287] 0 ∧ (s.core 0).stores = []) ∧
    (∃ s : State, Ready s 16 (dec s 16) (Op.zero 66) [36, 4294967287] 0 ∧ (s.core 16).stores = []) ∧
    (∃ s : State, Ready s 0 (dec s 0) (Op.ioOut 12) [1] 0 ∧ (s.core 0).stores ≠ []) :=
  ⟨⟨cpu (.zero 0x41) false false [36] [], by decide +kernel⟩,
   ⟨withCore (bpu (.ioIn 0) false false [] []) 0
       (fun x => { x with ie := true, ien := 5, vbase := 0x40, ecause := 9, eaddr := 8, eval := 7, thr := 3 }),
      by decide +kernel⟩,
   ⟨withCore (cpu (.ioIn 4) false false [] []) 0
       (fun x => { x with ie := true, ien := 5, vbase := 0x40, ecause := 9, eaddr := 8, eval := 7, thr := 3 }),
      by decide +kernel⟩,
   ⟨withCore (cpu (.ioIn 12) false false [] []) 0
       (fun x => { x with ie := true, ien := 5, vbase := 0x40, ecause := 9, eaddr := 8, eval := 7, thr := 3 }),
      by decide +kernel⟩,
   ⟨withCore (cpu (.ioIn 16) false false [] []) 0
       (fun x => { x with ie := true, ien := 5, vbase := 0x40, ecause := 9, eaddr := 8, eval := 7, thr := 3 }),
      by decide +kernel⟩,
   ⟨withCore (bpu (.ioIn 20) false false [] []) 0
       (fun x => { x with ie := true, ien := 5, vbase := 0x40, ecause := 9, eaddr := 8, eval := 7, thr := 3 }),
      by decide +kernel⟩,
   ⟨withCore (cpu (.ioIn 24) false false [] []) 0
       (fun x => { x with ie := true, ien := 5, vbase := 0x40, ecause := 9, eaddr := 8, eval := 7, thr := 3 }),
      by decide +kernel⟩,
   ⟨withCore (cpu (.ioIn 28) false false [] []) 0
       (fun x => { x with ie := true, ien := 5, vbase := 0x40, ecause := 9, eaddr := 8, eval := 7, thr := 3 }),
      by decide +kernel⟩,
   ⟨withCore (cpu (.ioIn 36) false false [] []) 0
       (fun x => { x with ie := true, ien := 5, vbase := 0x40, ecause := 9, eaddr := 8, eval := 7, thr := 3 }),
      by decide +kernel⟩,
   ⟨bpu (.ioOut 0) false false [4294967287] [], by decide +kernel⟩,
   ⟨kpu (.zero 0x42) false false [0, 4294967287] [], by decide +kernel⟩,
   ⟨cpu (.ioOut 4) false false [4294967287] [], by decide +kernel⟩,
   ⟨cpu (.zero 0x42) false false [4, 4294967287] [], by decide +kernel⟩,
   ⟨bpu (.ioOut 12) false false [4294967287] [], by decide +kernel⟩,
   ⟨kpu (.zero 0x42) false false [12, 4294967287] [], by decide +kernel⟩,
   ⟨cpu (.ioOut 16) false false [4294967287] [], by decide +kernel⟩,
   ⟨cpu (.zero 0x42) false false [16, 4294967287] [], by decide +kernel⟩,
   ⟨bpu (.ioOut 36) false false [4294967287] [], by decide +kernel⟩,
   ⟨kpu (.zero 0x42) false false [36, 4294967287] [], by decide +kernel⟩,
   ⟨withCore (cpu (.ioOut 0x0C) false false [1] []) 0 (fun x => { x with stores := [⟨0,[1],false⟩] }),
      by decide +kernel⟩⟩

/-- States that meet the hypotheses of BranchesAndCallsGoToTheirTargets, clause by clause. -/
theorem witness_branches_and_calls_go_to_their_targets :
    (∃ s : State, Issues s 0 (dec s 0) ∧ (dec s 0).op = Op.branch 0 (-2)) ∧
    (∃ s : State, Issues s 0 (dec s 0) ∧ (dec s 0).op = Op.branch 1 (-2)) ∧
    (∃ s : State, Issues s 0 (dec s 0) ∧ (dec s 0).op = Op.branch 2 (-2)) ∧
    (∃ s : State, Issues s 0 (dec s 0) ∧ (dec s 0).op = Op.branch 3 (-2)) ∧
    (∃ s : State, Issues s 0 (dec s 0) ∧ (dec s 0).op = Op.branch 4 (-2)) ∧
    (∃ s : State, Issues s 0 (dec s 0) ∧ (dec s 0).op = Op.branch 5 (-2)) ∧
    (∃ s : State, Issues s 0 (dec s 0) ∧ (dec s 0).op = Op.branch 6 (-2)) ∧
    (∃ s : State, Issues s 0 (dec s 0) ∧ (dec s 0).op = Op.branch 7 5 ∧ Fits (s.core 0) 0 0 0 1) ∧
    (∃ s : State, Issues s 16 (dec s 16) ∧ Ready s 16 (dec s 16) (Op.zero 74) [305419896] 0 ∧
      (dec s 16).keep = false ∧ (s.core 16).rs.length < 12) ∧
    (∃ s : State, Issues s 0 (dec s 0) ∧ Ready s 0 (dec s 0) (Op.zero 73) [305419896] 0 ∧ (dec s 0).keep = false) ∧
    (∃ s : State, Issues s 0 (dec s 0) ∧ (dec s 0).op = Op.zero 72 ∧ (s.core 0).rs = [305419896, 4] ∧
      Fits (s.core 0) 0 0 1 0) :=
  ⟨⟨withCore (cpu (.branch 0 (-2)) false false [] []) 0 (fun x => { x with flags := 0 }), by decide +kernel⟩,
   ⟨withCore (cpu (.branch 1 (-2)) false false [] []) 0 (fun x => { x with flags := 1 }), by decide +kernel⟩,
   ⟨withCore (cpu (.branch 2 (-2)) false false [] []) 0 (fun x => { x with flags := 2 }), by decide +kernel⟩,
   ⟨withCore (bpu (.branch 3 (-2)) false false [] []) 0 (fun x => { x with flags := 0 }), by decide +kernel⟩,
   ⟨withCore (cpu (.branch 4 (-2)) false false [] []) 0 (fun x => { x with flags := 0 }), by decide +kernel⟩,
   ⟨withCore (cpu (.branch 5 (-2)) false false [] []) 0 (fun x => { x with flags := 1 }), by decide +kernel⟩,
   ⟨withCore (cpu (.branch 6 (-2)) false false [] []) 0 (fun x => { x with flags := 2 }), by decide +kernel⟩,
   ⟨bpu (.branch 7 5) false false [] [9], by decide +kernel⟩,
   ⟨kpu (.zero 0x4A) false false [305419896] [], by decide +kernel⟩,
   ⟨cpu (.zero 0x49) false false [305419896] [], by decide +kernel⟩,
   ⟨cpu (.zero 0x48) false false [] [305419896, 4], by decide +kernel⟩⟩

/-- States that meet the hypotheses of TrapsEnterTheirVectors, clause by clause. -/
theorem witness_traps_enter_their_vectors :
    (∃ s : State, Issues s 0 (dec s 0) ∧ Ready s 0 (dec s 0) (Op.zero 78) [7] 0) ∧
    (∃ s : State, Issues s 16 (dec s 16) ∧ (dec s 16).op = Op.zero 79 ∧ (s.core 16).rs.length ≤ 14) :=
  ⟨⟨withCore (bpu (.zero 0x4E) false false [7] []) 0 (fun x => { x with flags := 5, ie := true, vbase := 0x123 }),
      by decide +kernel⟩,
   ⟨kpu (.zero 0x4F) false false [7] [1, 1, 1, 1, 1, 1, 1, 1, 1, 1, 1, 1, 1, 1], by decide +kernel⟩⟩

/-- States that meet the hypotheses of LoopsStartRepeatAndAreLeft, clause by clause. -/
theorem witness_loops_start_repeat_and_are_left :
    (∃ s : State, (dec s 16).keep = false ∧ Ready s 16 (dec s 16) (Op.loop 5) [3] 0 ∧ (s.core 16).loops.length < 4) ∧
    (∃ s : State, (dec s 0).keep = false ∧ Ready s 0 (dec s 0) (Op.loop 5) [0] 0 ∧ (s.core 0).loops.length < 4 ∧
      s.fetch 0 (((dec s 0).next + 5) % (s.core 0).space 0) = Fetch.got s
        (decAt s 0 (((dec s 0).next + 5) % (s.core 0).space 0))) ∧
    (∃ s : State, (dec s 0).keep = false ∧ Issues s 0 (dec s 0) ∧ (dec s 0).op = Op.loop 5 ∧
      (s.core 0).loops.length = 4 ∧ (s.core 0).rs.length ≤ 14) ∧
    (∃ s : State, (dec s 0).keep = false ∧ Ready s 0 (dec s 0) (Op.zero 0) [] 0 ∧
      (s.core 0).loops = [(7, (dec s 0).here, 2)] ∧ (s.core 0).masked < 1) ∧
    (∃ s : State, (dec s 0).keep = false ∧ Ready s 0 (dec s 0) (Op.zero 0) [] 0 ∧
      (s.core 0).loops = [(7, (dec s 0).here, 1)] ∧ (s.core 0).masked = 0) ∧
    (∃ s : State, (dec s 0).keep = false ∧ Ready s 0 (dec s 0) (Op.zero 0) [] 0 ∧
      (s.core 0).loops = [(7, (dec s 0).here, 4), (1, 2, 3)] ∧ 1 < (s.core 0).masked) ∧
    (∃ s : State, (dec s 0).keep = false ∧ Issues s 0 (dec s 0) ∧ (dec s 0).op = Op.zero 80 ∧
      (s.core 0).masked < (s.core 0).loops.length) ∧
    (∃ s : State, (dec s 16).keep = false ∧ Issues s 16 (dec s 16) ∧ (dec s 16).op = Op.zero 80 ∧
      (s.core 16).loops.length ≤ (s.core 16).masked) :=
  ⟨⟨kpu (.loop 5) false false [3] [], by decide +kernel⟩,
   ⟨cpu (.loop 5) false false [0] [], by decide +kernel⟩,
   ⟨withCore (cpu (.loop 5) false false [3] []) 0 (fun x => { x with loops := [(1,2,3),(1,2,3),(1,2,3),(1,2,3)] }),
      by decide +kernel⟩,
   ⟨withCore (cpu (.zero 0) false false [] []) 0 (fun x => { x with loops := [(7, x.pc, 2)] }), by decide +kernel⟩,
   ⟨withCore (cpu (.zero 0) false false [] []) 0 (fun x => { x with loops := [(7, x.pc, 1)] }), by decide +kernel⟩,
   ⟨withCore (cpu (.zero 0) false false [] []) 0 (fun x => { x with loops := [(7, x.pc, 4), (1,2,3)], masked := 2 }),
      by decide +kernel⟩,
   ⟨withCore (cpu (.zero 0x50) false false [] []) 0 (fun x => { x with loops := [(7, 9, 4), (1,2,3)], masked := 1 }),
      by decide +kernel⟩,
   ⟨kpu (.zero 0x50) false false [] [], by decide +kernel⟩⟩

/-- States that meet the hypotheses of SpecialRegisters, clause by clause. -/
theorem witness_special_registers :
    (∃ s : State, Ready s 0 (dec s 0) (Op.rsr 0) [] 1) ∧
    (∃ s : State, Ready s 0 (dec s 0) (Op.rsr 1) [] 1) ∧
    (∃ s : State, Ready s 0 (dec s 0) (Op.rsr 2) [] 1) ∧
    (∃ s : State, Ready s 0 (dec s 0) (Op.rsr 3) [] 1) ∧
    (∃ s : State, Ready s 0 (dec s 0) (Op.rsr 4) [] 1) ∧
    (∃ s : State, Ready s 0 (dec s 0) (Op.rsr 5) [] 1) ∧
    (∃ s : State, Ready s 0 (dec s 0) (Op.rsr 6) [] 1) ∧
    (∃ s : State, Ready s 0 (dec s 0) (Op.rsr 7) [] 1) ∧
    (∃ s : State, Ready s 0 (dec s 0) (Op.rsr 8) [] 1) ∧
    (∃ s : State, Ready s 0 (dec s 0) (Op.rsr 9) [] 1) ∧
    (∃ s : State, (s.core 0).loops = [(2, 3, 4)] ∧ Ready s 0 (dec s 0) (Op.rsr 10) [] 1) ∧
    (∃ s : State, (s.core 0).loops = [(2, 3, 4)] ∧ Ready s 0 (dec s 0) (Op.rsr 11) [] 1) ∧
    (∃ s : State, (s.core 0).loops = [(2, 3, 4)] ∧ Ready s 0 (dec s 0) (Op.rsr 12) [] 1) ∧
    (∃ s : State, (s.core 0).loops = [] ∧ Ready s 0 (dec s 0) (Op.rsr 10) [] 1) ∧
    (∃ s : State, (s.core 0).loops = [] ∧ Ready s 0 (dec s 0) (Op.rsr 11) [] 1) ∧
    (∃ s : State, (s.core 0).loops = [] ∧ Ready s 0 (dec s 0) (Op.rsr 12) [] 1) ∧
    (∃ s : State, Ready s 0 (dec s 0) (Op.rsr 13) [] 1) ∧
    (∃ s : State, Ready s 0 (dec s 0) (Op.rsr 14) [] 1) ∧
    (∃ s : State, Ready s 0 (dec s 0) (Op.wsr 0) [4294967291] 0 ∧ (dec s 0).keep = false) ∧
    (∃ s : State, Ready s 0 (dec s 0) (Op.wsr 1) [4294967291] 0 ∧ (dec s 0).keep = false) ∧
    (∃ s : State, Ready s 0 (dec s 0) (Op.wsr 2) [4294967291] 0 ∧ (dec s 0).keep = false) ∧
    (∃ s : State, (s.core 0).ds.length = 1 ∧ Ready s 0 (dec s 0) (Op.wsr 3) [4294967291] 0 ∧ (dec s 0).keep = false) ∧
    (∃ s : State, Ready s 0 (dec s 0) (Op.wsr 4) [4294967291] 0 ∧ (dec s 0).keep = false) ∧
    (∃ s : State, Ready s 0 (dec s 0) (Op.wsr 5) [4294967291] 0 ∧ (dec s 0).keep = false) ∧
    (∃ s : State, (s.core 0).rs = [] ∧ Ready s 0 (dec s 0) (Op.wsr 6) [4294967291] 0 ∧ (dec s 0).keep = false) ∧
    (∃ s : State, Ready s 0 (dec s 0) (Op.wsr 7) [4294967291] 0 ∧ (dec s 0).keep = false) ∧
    (∃ s : State, Ready s 0 (dec s 0) (Op.wsr 8) [4294967291] 0 ∧ (dec s 0).keep = false) ∧
    (∃ s : State, (s.core 0).loops = [(2, 3, 4)] ∧ Ready s 0 (dec s 0) (Op.wsr 12) [4294967291] 0 ∧
      (dec s 0).keep = false) ∧
    (∃ s : State, Ready s 0 (dec s 0) (Op.wsr 9) [4294967291] 0 ∧ (dec s 0).keep = false) ∧
    (∃ s : State, Ready s 0 (dec s 0) (Op.wsr 10) [4294967291] 0 ∧ (dec s 0).keep = false) ∧
    (∃ s : State, Ready s 0 (dec s 0) (Op.wsr 11) [4294967291] 0 ∧ (dec s 0).keep = false) ∧
    (∃ s : State, Ready s 0 (dec s 0) (Op.wsr 13) [4294967291] 0 ∧ (dec s 0).keep = false) ∧
    (∃ s : State, Ready s 0 (dec s 0) (Op.wsr 14) [4294967291] 0 ∧ (dec s 0).keep = false) ∧
    (∃ s : State, Issues s 0 (dec s 0) ∧ (dec s 0).op = Op.page1 0 ∧ (s.core 0).ds = [] ∧ (s.core 0).rs = []) :=
  ⟨⟨withCore (cpu (.rsr 0) false false [] []) 0
       (fun x => { x with flags := 5, ph := 6, pl := 7, loops := [(2,3,4)] }), by decide +kernel⟩,
   ⟨withCore (bpu (.rsr 1) false false [] []) 0
       (fun x => { x with flags := 5, ph := 6, pl := 7, loops := [(2,3,4)] }), by decide +kernel⟩,
   ⟨withCore (cpu (.rsr 2) false false [] []) 0
       (fun x => { x with flags := 5, ph := 6, pl := 7, loops := [(2,3,4)] }), by decide +kernel⟩,
   ⟨withCore (bpu (.rsr 3) false false [] []) 0
       (fun x => { x with flags := 5, ph := 6, pl := 7, loops := [(2,3,4)] }), by decide +kernel⟩,
   ⟨withCore (cpu (.rsr 4) false false [] []) 0
       (fun x => { x with flags := 5, ph := 6, pl := 7, loops := [(2,3,4)] }), by decide +kernel⟩,
   ⟨withCore (bpu (.rsr 5) false false [] []) 0
       (fun x => { x with flags := 5, ph := 6, pl := 7, loops := [(2,3,4)] }), by decide +kernel⟩,
   ⟨withCore (cpu (.rsr 6) false false [] []) 0
       (fun x => { x with flags := 5, ph := 6, pl := 7, loops := [(2,3,4)] }), by decide +kernel⟩,
   ⟨withCore (bpu (.rsr 7) false false [] []) 0
       (fun x => { x with flags := 5, ph := 6, pl := 7, loops := [(2,3,4)] }), by decide +kernel⟩,
   ⟨withCore (cpu (.rsr 8) false false [] []) 0
       (fun x => { x with flags := 5, ph := 6, pl := 7, loops := [(2,3,4)] }), by decide +kernel⟩,
   ⟨withCore (bpu (.rsr 9) false false [] []) 0
       (fun x => { x with flags := 5, ph := 6, pl := 7, loops := [(2,3,4)] }), by decide +kernel⟩,
   ⟨withCore (cpu (.rsr 10) false false [] []) 0
       (fun x => { x with flags := 5, ph := 6, pl := 7, loops := [(2,3,4)] }), by decide +kernel⟩,
   ⟨withCore (cpu (.rsr 11) false false [] []) 0
       (fun x => { x with flags := 5, ph := 6, pl := 7, loops := [(2,3,4)] }), by decide +kernel⟩,
   ⟨withCore (bpu (.rsr 12) false false [] []) 0
       (fun x => { x with flags := 5, ph := 6, pl := 7, loops := [(2,3,4)] }), by decide +kernel⟩,
   ⟨bpu (.rsr 10) false false [] [], by decide +kernel⟩,
   ⟨cpu (.rsr 11) false false [] [], by decide +kernel⟩,
   ⟨cpu (.rsr 12) false false [] [], by decide +kernel⟩,
   ⟨withCore (cpu (.rsr 13) false false [] []) 0
       (fun x => { x with flags := 5, ph := 6, pl := 7, loops := [(2,3,4)] }), by decide +kernel⟩,
   ⟨withCore (cpu (.rsr 14) false false [] []) 0
       (fun x => { x with flags := 5, ph := 6, pl := 7, loops := [(2,3,4)] }), by decide +kernel⟩,
   ⟨withCore (cpu (.wsr 0) false false [4294967291] []) 0
       (fun x => { x with flags := 5, ph := 6, pl := 7, loops := [(2,3,4)] }), by decide +kernel⟩,
   ⟨withCore (cpu (.wsr 1) false false [4294967291] []) 0
       (fun x => { x with flags := 5, ph := 6, pl := 7, loops := [(2,3,4)] }), by decide +kernel⟩,
   ⟨withCore (cpu (.wsr 2) false false [4294967291] []) 0
       (fun x => { x with flags := 5, ph := 6, pl := 7, loops := [(2,3,4)] }), by decide +kernel⟩,
   ⟨withCore (cpu (.wsr 3) false false [4294967291] []) 0
       (fun x => { x with flags := 5, ph := 6, pl := 7, loops := [(2,3,4)] }), by decide +kernel⟩,
   ⟨withCore (cpu (.wsr 4) false false [4294967291] []) 0
       (fun x => { x with flags := 5, ph := 6, pl := 7, loops := [(2,3,4)] }), by decide +kernel⟩,
   ⟨withCore (cpu (.wsr 5) false false [4294967291] []) 0
       (fun x => { x with flags := 5, ph := 6, pl := 7, loops := [(2,3,4)] }), by decide +kernel⟩,
   ⟨withCore (cpu (.wsr 6) false false [4294967291] []) 0
       (fun x => { x with flags := 5, ph := 6, pl := 7, loops := [(2,3,4)] }), by decide +kernel⟩,
   ⟨withCore (cpu (.wsr 7) false false [4294967291] []) 0
       (fun x => { x with flags := 5, ph := 6, pl := 7, loops := [(2,3,4)] }), by decide +kernel⟩,
   ⟨withCore (cpu (.wsr 8) false false [4294967291] []) 0
       (fun x => { x with flags := 5, ph := 6, pl := 7, loops := [(2,3,4)] }), by decide +kernel⟩,
   ⟨withCore (cpu (.wsr 12) false false [4294967291] []) 0
       (fun x => { x with flags := 5, ph := 6, pl := 7, loops := [(2,3,4)] }), by decide +kernel⟩,
   ⟨withCore (cpu (.wsr 9) false false [4294967291] []) 0
       (fun x => { x with flags := 5, ph := 6, pl := 7, loops := [(2,3,4)] }), by decide +kernel⟩,
   ⟨withCore (cpu (.wsr 10) false false [4294967291] []) 0
       (fun x => { x with flags := 5, ph := 6, pl := 7, loops := [(2,3,4)] }), by decide +kernel⟩,
   ⟨withCore (cpu (.wsr 11) false false [4294967291] []) 0
       (fun x => { x with flags := 5, ph := 6, pl := 7, loops := [(2,3,4)] }), by decide +kernel⟩,
   ⟨withCore (bpu (.wsr 13) false false [4294967291] []) 0
       (fun x => { x with flags := 5, ph := 6, pl := 7, loops := [(2,3,4)] }), by decide +kernel⟩,
   ⟨withCore (cpu (.wsr 14) false false [4294967291] []) 0
       (fun x => { x with flags := 5, ph := 6, pl := 7, loops := [(2,3,4)] }), by decide +kernel⟩,
   ⟨cpu (.page1 0) false false [] [], by decide +kernel⟩⟩

/-- States that meet the hypotheses of LongInstructionsIssue, clause by clause. -/
theorem witness_long_instructions_issue :
    (∃ s : State, (dec s 0).keep = false ∧ Ready s 0 (dec s 0) (Op.zero 48) [2, 1] 1) ∧
    (∃ s : State, (dec s 16).keep = false ∧ Ready s 16 (dec s 16) (Op.zero 49) [2, 1] 1) ∧
    (∃ s : State, (dec s 0).keep = false ∧ Ready s 0 (dec s 0) (Op.zero 50) [2, 1] 1) ∧
    (∃ s : State, (dec s 0).keep = false ∧ Ready s 0 (dec s 0) (Op.zero 51) [2, 1] 1) ∧
    (∃ s : State, (dec s 0).keep = false ∧ Ready s 0 (dec s 0) (Op.zero 52) [1] 1) ∧
    (∃ s : State, (dec s 16).keep = false ∧ Ready s 16 (dec s 16) (Op.zero 67) [3, 2, 1] 0) ∧
    (∃ s : State, (dec s 0).keep = false ∧
      Ready s 0 (dec s 0) (Op.custom 1 3) [2, 1] (slotDesc (Tab.get 0 (s.core 0).desc 1)).nout ∧
      2 = (slotDesc (Tab.get 0 (s.core 0).desc 1)).nin ∧ (slotDesc (Tab.get 0 (s.core 0).desc 1)).valid = true) ∧
    (∃ s : State, (dec s 0).keep = false ∧ Issues s 0 (dec s 0) ∧ (dec s 0).op = Op.custom 1 3 ∧
      (slotDesc (Tab.get 0 (s.core 0).desc 1)).valid = false ∧ (s.core 0).rs.length ≤ 14) :=
  ⟨⟨bpu (.zero 48) false false [2, 1, 9] [], by decide +kernel⟩,
   ⟨kpu (.zero 49) false false [2, 1, 9] [], by decide +kernel⟩,
   ⟨cpu (.zero 50) false false [2, 1, 9] [], by decide +kernel⟩,
   ⟨cpu (.zero 51) false false [2, 1, 9] [], by decide +kernel⟩,
   ⟨bpu (.zero 0x34) false false [1, 9] [], by decide +kernel⟩,
   ⟨kpu (.zero 0x43) false false [3, 2, 1, 9] [], by decide +kernel⟩,
   ⟨withCore (cpu (.custom 1 3) false false [2, 1] []) 0
       (fun x => { x with desc := [(1, BitVec.ofNat 64 (2^63 + 2^61))] }), by decide +kernel⟩,
   ⟨cpu (.custom 1 3) false false [2, 1] [], by decide +kernel⟩⟩

/-- States that meet the hypotheses of LongInstructionsRetire, clause by clause. -/
theorem witness_long_instructions_retire :
    (∃ s : State, s.works (coreBlock 0) = true ∧ (s.core 0).long = some aLongOp6 ∧ aLongOp6.outs = 1 ∧
      (s.core 0).ds = [none, some 4] ∧ none ∉ [some 4] ∧ aLongOp6.kind = LongKind.div ∧ aLongOp6.ins = [2, 7]) ∧
    (∃ s : State, s.works (coreBlock 0) = true ∧ (s.core 0).long = some aLongOp3 ∧ aLongOp3.outs = 1 ∧
      (s.core 0).ds = [none, some 4] ∧ none ∉ [some 4] ∧ aLongOp3.kind = LongKind.divu ∧ aLongOp3.ins = [2, 7]) ∧
    (∃ s : State, s.works (coreBlock 0) = true ∧ (s.core 0).long = some aLongOp7 ∧ aLongOp7.outs = 1 ∧
      (s.core 0).ds = [none, some 4] ∧ none ∉ [some 4] ∧ aLongOp7.kind = LongKind.rem ∧ aLongOp7.ins = [2, 7]) ∧
    (∃ s : State, s.works (coreBlock 0) = true ∧ (s.core 0).long = some aLongOp4 ∧ aLongOp4.outs = 1 ∧
      (s.core 0).ds = [none, some 4] ∧ none ∉ [some 4] ∧ aLongOp4.kind = LongKind.remu ∧ aLongOp4.ins = [2, 7]) ∧
    (∃ s : State, s.works (coreBlock 0) = true ∧ (s.core 0).long = some aLongOp9 ∧ aLongOp9.outs = 1 ∧
      (s.core 0).ds = [none, some 4] ∧ none ∉ [some 4] ∧ aLongOp9.kind = LongKind.sqrt ∧ aLongOp9.ins = [99]) ∧
    (∃ s : State, s.works (coreBlock 0) = true ∧ (s.core 0).long = some aLongOp8 ∧ aLongOp8.outs = 1 ∧
      (s.core 0).ds = [none, some 4] ∧ none ∉ [some 4] ∧ aLongOp8.kind = LongKind.div ∧ aLongOp8.ins = [0, 5] ∧
      (s.core 0).rs.length ≤ 14) :=
  ⟨⟨withCore (cpu (.zero 0) false false [] []) 0 (fun x => { x with
             ds := [none, some 4]
             long := some { kind := .div, ins := [2, 7], outs := 1, shadow := 0,
                            saved := { pc := 0x55, ds := [some 1], rs := [2], dsp := 0x100, rsp := 0x200, flags := 3,
                                       loops := [] } }
             stores := [⟨0,[1],true⟩] }), by decide +kernel⟩,
   ⟨withCore (cpu (.zero 0) false false [] []) 0 (fun x => { x with
             ds := [none, some 4]
             long := some { kind := .divu, ins := [2, 7], outs := 1, shadow := 0,
                            saved := { pc := 0x55, ds := [some 1], rs := [2], dsp := 0x100, rsp := 0x200, flags := 3,
                                       loops := [] } }
             stores := [⟨0,[1],true⟩] }), by decide +kernel⟩,
   ⟨withCore (cpu (.zero 0) false false [] []) 0 (fun x => { x with
             ds := [none, some 4]
             long := some { kind := .rem, ins := [2, 7], outs := 1, shadow := 0,
                            saved := { pc := 0x55, ds := [some 1], rs := [2], dsp := 0x100, rsp := 0x200, flags := 3,
                                       loops := [] } }
             stores := [⟨0,[1],true⟩] }), by decide +kernel⟩,
   ⟨withCore (cpu (.zero 0) false false [] []) 0 (fun x => { x with
             ds := [none, some 4]
             long := some { kind := .remu, ins := [2, 7], outs := 1, shadow := 0,
                            saved := { pc := 0x55, ds := [some 1], rs := [2], dsp := 0x100, rsp := 0x200, flags := 3,
                                       loops := [] } }
             stores := [⟨0,[1],true⟩] }), by decide +kernel⟩,
   ⟨withCore (bpu (.zero 0) false false [] []) 0 (fun x => { x with
             ds := [none, some 4]
             long := some { kind := .sqrt, ins := [99], outs := 1, shadow := 0,
                            saved := { pc := 0x55, ds := [some 1], rs := [2], dsp := 0x100, rsp := 0x200, flags := 3,
                                       loops := [] } }
             stores := [⟨0,[1],true⟩] }), by decide +kernel⟩,
   ⟨withCore (cpu (.zero 0) false false [] []) 0 (fun x => { x with
             ds := [none, some 4]
             long := some { kind := .div, ins := [0, 5], outs := 1, shadow := 3,
                            saved := { pc := 0x55, ds := [some 1], rs := [2], dsp := 0x100, rsp := 0x200, flags := 3,
                                       loops := [] } }
             stores := [⟨0,[1],true⟩] }), by decide +kernel⟩⟩

/-- States that meet the hypotheses of BlockCopyAndMicrocode, clause by clause. -/
theorem witness_block_copy_and_microcode :
    (∃ s : State, s.works (coreBlock 0) = true ∧ (s.core 0).long = some aLongOp2 ∧ (s.core 0).stores = [] ∧
      aLongOp2.kind = LongKind.movb ∧ aLongOp2.ins = [8, 512, 256] ∧ aLongOp2.outs = 0 ∧ none ∉ (s.core 0).ds ∧
      (264 ≤ 512 ∨ 520 ≤ 256)) ∧
    (∃ s : State, s.works (coreBlock 0) = true ∧ (s.core 0).long = some aLongOp5 ∧ (s.core 0).stores = [] ∧
      aLongOp5.kind = LongKind.custom 1 3 ∧ aLongOp5.ins = [7, 5] ∧ aLongOp5.outs = 1 ∧
      (slotDesc (Tab.get 0 (s.core 0).desc 1)).entry = 0 ∧ Tab.get 0 (s.core 0).micro 0 = 9512165362959908864 ∧
      (s.core 0).ds.head? = some none ∧ none ∉ List.drop 1 (s.core 0).ds) :=
  ⟨⟨((withCore (bpu (.zero 0) false false [] []) 0 (fun x => { x with
                 ds := [some 4]
                 long := some { kind := .movb, ins := [8, 512, 256], outs := 0, shadow := 0,
                                saved := { pc := 0x55, ds := [], rs := [2], dsp := 0x100, rsp := 0x200, flags := 3,
                                           loops := [] } } }))).store (dataMemBase 0 + 0x100) [1,2,3,4,5,6,7,8],
      by decide +kernel⟩,
   ⟨withCore (cpu (.zero 0) false false [] []) 0 (fun x => { x with
             ds := [none, some 4]
             long := some { kind := .custom 1 3, ins := [7, 5], outs := 1, shadow := 0,
                            saved := { pc := 0x55, ds := [], rs := [2], dsp := 0x100, rsp := 0x200, flags := 3,
                                       loops := [] } }
             desc := [(1, BitVec.ofNat 64 (2^63))]
             micro := [(0, 0x8402000000000000)] }), by decide +kernel⟩⟩

/-- States that meet the hypotheses of ShadowsAdmitWhatTheyMay, clause by clause. -/
theorem witness_shadows_admit_what_they_may :
    (∃ s : State, (s.core 0).halted = false ∧ s.works (coreBlock 0) = true ∧ (s.core 0).long = some aLongOp ∧
      s.fetch 0 (s.core 0).pc = Fetch.got s (dec s 0) ∧ (dec s 0).op = Op.pushi 5 ∧ (s.core 0).det = false ∧
      aLongOp.shadow < 16 ∧ (∀ p ∈ (s.core 0).loops, p.2.1 ≠ (dec s 0).here) ∧ (s.core 0).ds.length < 12 ∧
      (s.core 0).rs.length ≤ 12 ∧ (dec s 0).keep = false) ∧
    (∃ s : State, (s.core 0).halted = false ∧ s.works (coreBlock 0) = true ∧ (s.core 0).long = some aLongOp ∧
      s.fetch 0 (s.core 0).pc = Fetch.got s (dec s 0) ∧ (dec s 0).op = Op.zero 44) ∧
    (∃ s : State, (s.core 0).halted = false ∧ s.works (coreBlock 0) = true ∧ (s.core 0).long = some aLongOp ∧
      s.fetch 0 (s.core 0).pc = Fetch.got s (dec s 0) ∧ (dec s 0).op = Op.ioOut 0) ∧
    (∃ s : State, (s.core 0).halted = false ∧ s.works (coreBlock 0) = true ∧ (s.core 0).long = some aLongOp ∧
      s.fetch 0 (s.core 0).pc = Fetch.got s (dec s 0) ∧ (dec s 0).op = Op.zero 49) ∧
    (∃ s : State, (s.core 0).halted = false ∧ s.works (coreBlock 0) = true ∧ (s.core 0).long = some aLongOp ∧
      s.fetch 0 (s.core 0).pc = Fetch.got s (dec s 0) ∧ (dec s 0).op = Op.pushi 5 ∧ (s.core 0).det = true) :=
  ⟨⟨withCore (cpu (.pushi 5) false false [1, 2] []) 0 (fun x =>
         { x with
             long := some { kind := .div, ins := [3, 7], outs := 1, shadow := 2,
                            saved := { pc := 0x55, ds := [some 1], rs := [2], dsp := 0x100, rsp := 0x200, flags := 3,
                                       loops := [(1, 2, 3)] } } }), by decide +kernel⟩,
   ⟨withCore (cpu (.zero 0x2C) false false [1, 2] []) 0 (fun x =>
         { x with
             long := some { kind := .div, ins := [3, 7], outs := 1, shadow := 2,
                            saved := { pc := 0x55, ds := [some 1], rs := [2], dsp := 0x100, rsp := 0x200, flags := 3,
                                       loops := [(1, 2, 3)] } } }), by decide +kernel⟩,
   ⟨withCore (cpu (.ioOut 0) false false [1, 2] []) 0 (fun x =>
         { x with
             long := some { kind := .div, ins := [3, 7], outs := 1, shadow := 2,
                            saved := { pc := 0x55, ds := [some 1], rs := [2], dsp := 0x100, rsp := 0x200, flags := 3,
                                       loops := [(1, 2, 3)] } } }), by decide +kernel⟩,
   ⟨withCore (cpu (.zero 0x31) false false [1, 2] []) 0 (fun x =>
         { x with
             long := some { kind := .div, ins := [3, 7], outs := 1, shadow := 2,
                            saved := { pc := 0x55, ds := [some 1], rs := [2], dsp := 0x100, rsp := 0x200, flags := 3,
                                       loops := [(1, 2, 3)] } } }), by decide +kernel⟩,
   ⟨withCore (cpu (.pushi 5) false false [1, 2] []) 0 (fun x =>
         { x with
             long := some { kind := .div, ins := [3, 7], outs := 1, shadow := 2,
                            saved := { pc := 0x55, ds := [some 1], rs := [2], dsp := 0x100, rsp := 0x200, flags := 3,
                                       loops := [(1, 2, 3)] } }
             det := true }), by decide +kernel⟩⟩

/-- States that meet the hypotheses of InterruptsEnterAbandonAndReturn, clause by clause. -/
theorem witness_interrupts_enter_abandon_and_return :
    (∃ s : State, Issues s 0 (dec s 0) ∧ (dec s 0).op = Op.zero 75 ∧ (s.core 0).rs = [1241513989, 48, 9] ∧
      Fits (s.core 0) 0 0 2 0) ∧
    (∃ s : State, (s.core 0).halted = false ∧ s.works (coreBlock 0) = true ∧ (s.core 0).ie = true ∧
      s.interruptOf 0 = some 12 ∧ (s.core 0).waiting = false ∧ (s.core 0).long = none ∧ (s.core 0).rs.length ≤ 14) ∧
    (∃ s : State, (s.core 0).halted = false ∧ s.works (coreBlock 0) = true ∧ (s.core 0).ie = true ∧
      s.interruptOf 0 = some 12 ∧ (s.core 0).waiting = false ∧ (s.core 0).long = some aLongOp ∧
      aLongOp.kind = LongKind.div ∧ aLongOp.saved.rs.length ≤ 14) ∧
    (∃ s : State, ((s.core 0).ie = false ∨ (s.core 0).halted = true)) ∧
    (∃ s : State, (s.core 0).halted = false ∧ s.works (coreBlock 0) = true ∧ (s.core 0).ie = true ∧
      s.interruptOf 0 = some 12 ∧ (s.core 0).waiting = true ∧ s.fetch 0 (s.core 0).pc = Fetch.got s (dec s 0) ∧
      (s.core 0).loops = [] ∧ (s.core 0).rs.length ≤ 14) :=
  ⟨⟨withCore (cpu (.zero 0x4B) false false [] [1241513989, 48, 9]) 0
       (fun x => { x with loops := [(1,2,3),(4,5,6),(7,8,9)] }), by decide +kernel⟩,
   ⟨withCore (cpu (.zero 0) false false [] []) 0 (fun x => { x with ie := true, ien := 31, soft := true }),
      by decide +kernel⟩,
   ⟨withCore (cpu (.zero 0) false false [] []) 0 (fun x => { x with
             ie := true
             ien := 31
             soft := true
             long := some { kind := .div, ins := [3, 7], outs := 1, shadow := 2,
                            saved := { pc := 0x55, ds := [some 1], rs := [2], dsp := 0x100, rsp := 0x200, flags := 3,
                                       loops := [(1, 2, 3)] } }
             stores := [⟨0,[1],true⟩,⟨0,[1],false⟩] }), by decide +kernel⟩,
   ⟨withCore (cpu (.zero 0) false false [] []) 0 (fun x => { x with halted := true }), by decide +kernel⟩,
   ⟨withCore (cpu (.zero 0x4D) false false [] []) 0 (fun x => { x with ie := true, ien := 31, soft := true, waiting := true }),
      by decide +kernel⟩⟩

/-- States that meet the hypotheses of CoresFailAndPartnersTakeOver, clause by clause. -/
theorem witness_cores_fail_and_partners_take_over :
    (∃ s : State, (s.core 0).wdog ≠ 0 ∧ (s.core 0).wdogAt + (s.core 0).wdog * 1000 ≤ s.el ∧
      (s.core 0).wdogOut = false ∧ s.isOn (coreBlock 0) = true) ∧
    (∃ s : State, (s.core 0).wdog = 0) ∧
    (∃ s : State, (s.core 0).failed = false ∧ s.isOn (coreBlock 0) = true) ∧
    (∃ s : State, (s.core 0).failed = false ∧ s.isOn (coreBlock 0) = true ∧ s.fld (CL_PAIR.addr 0) CL_PAIR.MODE = 1 ∧
      (s.core 1).failed = false ∧ (s.core 0).took = none) ∧
    (∃ s : State, ∃ k, (s.core 1).failed = false ∧ s.isOn (coreBlock 1) = true ∧ (s.core 1).took = some k ∧
      k.cycle = s.coreCycle ∧ k.mode = 1) :=
  ⟨⟨{ (withCore (cpu (.zero 0) false false [] []) 0 (fun x => { x with wdog := 5 })) with el := 5000 },
      by decide +kernel⟩,
   ⟨cpu (.zero 0) false false [] [], by decide +kernel⟩,
   ⟨cpu (.zero 0) false false [] [], by decide +kernel⟩,
   ⟨((cpu (.zero 0) false false [1] [2]).setFld (CL_PAIR.addr 0) CL_PAIR.MODE 1).setCore 1
       { Core.reset 1 with run := true, halted := false, ds := [some 1] }, by decide +kernel⟩,
   ⟨coreClock 0 (((lit [0x0401] (cpu (.zero 0) false false [1] [2])).setFld (CL_PAIR.addr 0) CL_PAIR.MODE 1).setCore 1
       { Core.reset 1 with run := true, halted := false }), ⟨0, 1, 0⟩, by decide +kernel⟩⟩

/-- States that meet the hypotheses of BarriersWaitsAndCoreLocalWrites, clause by clause. -/
theorem witness_barriers_waits_and_core_local_writes :
    (∃ s : State, Issues s 0 (dec s 0) ∧ (dec s 0).op = Op.zero 76 ∧ (s.core 0).stores = []) ∧
    (∃ s : State, Issues s 0 (dec s 0) ∧ (dec s 0).op = Op.zero 76 ∧ (s.core 0).stores ≠ []) ∧
    (∃ s : State, (s.core 0).halted = false ∧ s.works (coreBlock 0) = true ∧ (s.core 0).long ≠ none ∧
      s.fetch 0 (s.core 0).pc = Fetch.got s (dec s 0) ∧ (dec s 0).op = Op.zero 76) ∧
    (∃ s : State, Issues s 0 (dec s 0) ∧ (dec s 0).op = Op.zero 77 ∧ s.ipend 0 &&& (s.core 0).ien ≠ 0 ∧
      (s.core 0).ien < 32) ∧
    (∃ s : State, Issues s 0 (dec s 0) ∧ (dec s 0).op = Op.zero 77 ∧ s.ipend 0 &&& (s.core 0).ien = 0) ∧
    (∃ s : State, (s.core 16).long = none ∧ (s.core 16).stores = []) ∧
    (∃ s : State, (s.core 0).long ≠ none ∨ (s.core 0).stores ≠ []) ∧
    (∃ s : State, (s.core 0).long = none ∧ (s.core 0).stores = []) :=
  ⟨⟨bpu (.zero 0x4C) false false [] [], by decide +kernel⟩,
   ⟨withCore (cpu (.zero 0x4C) false false [] []) 0 (fun x => { x with stores := [⟨0,[1],false⟩] }),
      by decide +kernel⟩,
   ⟨withCore (cpu (.zero 0x4C) false false [] []) 0 (fun x =>
         { x with
             long := some { kind := .div, ins := [3, 7], outs := 1, shadow := 2,
                            saved := { pc := 0x55, ds := [some 1], rs := [2], dsp := 0x100, rsp := 0x200, flags := 3,
                                       loops := [(1, 2, 3)] } } }), by decide +kernel⟩,
   ⟨withCore (cpu (.zero 0x4D) false false [] []) 0 (fun x => { x with ien := 31, soft := true }), by decide +kernel⟩,
   ⟨withCore (bpu (.zero 0x4D) false false [] []) 0 (fun x => { x with ien := 0, soft := true }), by decide +kernel⟩,
   ⟨kpu (.zero 0) false false [] [], by decide +kernel⟩,
   ⟨withCore (cpu (.zero 0x4C) false false [] []) 0 (fun x => { x with stores := [⟨0,[1],false⟩] }),
      by decide +kernel⟩,
   ⟨cpu (.zero 0) false false [] [], by decide +kernel⟩⟩

/-- States that meet the hypotheses of RunHaltAndReset, clause by clause. -/
theorem witness_run_halt_and_reset :
    (∃ s : State, Reached s (CL_CORECTL.addr 3 1)) ∧
    (∃ s : State, Reached s (CL_CORECTL.addr 3 1) ∧ (s.core 7).halted = true ∧
      (s.core 7).acting = none ∧ s.pwr.held.contains 3 = false) ∧
    (∃ s : State, Reached s (CL_CORECTL.addr 0 0) ∧ (s.core 0).halted = false ∧ (s.core 0).long = none) ∧
    (∃ s : State, Reached s (CL_CORECTL.addr 0 0) ∧ (s.core 0).acting ≠ none) ∧
    (∃ s : State, Reached s (CL_CORECTL.addr 0 0) ∧ (s.core 0).halted = false ∧ (s.core 0).stores = [⟨0x10, [1, 2], false⟩]) ∧
    (∃ s : State, Reached s (CL_CORECTL.addr 0 0) ∧ Ready s 0 (dec s 0) (.zero 0x00) [] 0 ∧ (dec s 0).here < 65536 ∧
      (s.core 0).enc = true ∧ (s.core 0).det = false ∧ s.cached 0 (dec s 0).here = none) ∧
    (∃ s : State, s.cached 0 0x208 = some (List.replicate 16 0) ∧ (s.core 0).det = false) :=
  ⟨⟨{ State.reset with dom := [(0x0103, .on),(0x0407, .on)] }, by decide +kernel⟩,
   ⟨{ State.reset with dom := [(0x0103, .on),(0x0407, .on)] }, by decide +kernel⟩,
   ⟨withCore (cpu (.zero 0) false false [1] [2]) 0 (fun x => { x with stores := [⟨0x10,[1,2],false⟩], pc := 7 }),
      by decide +kernel⟩,
   ⟨withCore (cpu (.zero 0) false false [1] [2]) 0 (fun x => { x with acting := some 1 }), by decide +kernel⟩,
   ⟨withCore (cpu (.zero 0) false false [1] [2]) 0 (fun x => { x with stores := [⟨0x10,[1,2],false⟩], pc := 7 }),
      by decide +kernel⟩,
   ⟨bpu (.zero 0) false false [] [], by decide +kernel⟩,
   ⟨(bpu (.zero 0) false false [] []).lined false 0 0x200, by decide +kernel⟩⟩

/-- States that meet the hypotheses of DecodeTablesAndPairs, clause by clause. -/
theorem witness_decode_tables_and_pairs :
    (∃ s : State, Reached s (CL_ISACFG.addr 0) ∧ (s.core 0).halted = true ∧ (s.core 1).halted = true) ∧
    (∃ s : State, Reached s (CL_ISACFG.addr 0) ∧ (s.core 0).halted = false ∧
      1 ≠ s.fld (CL_ISACFG.addr 0) CL_ISACFG.ENC0) ∧
    (∃ s : State, Reached s (CL_ISACFG.addr 0)) ∧
    (∃ s : State, Reached s (CL_ISACFG.addr 0) ∧
      (s.core (0 + s.fld (CL_UCADDR.addr 0) CL_UCADDR.CORE)).halted = true ∧
      s.fld (CL_UCADDR.addr 0) CL_UCADDR.TABLE = 0) ∧
    (∃ s : State, Reached s (CL_ISACFG.addr 0) ∧
      (s.core (0 + s.fld (CL_UCADDR.addr 0) CL_UCADDR.CORE)).halted = false) ∧
    (∃ s : State, Reached s (CL_ISACFG.addr 0) ∧ s.fld (CL_UCADDR.addr 0) CL_UCADDR.TABLE = 0) ∧
    (∃ s : State, Reached s (CL_ISACFG.addr 0) ∧ s.encOf 0 ≠ s.encOf 1) ∧
    (∃ s : State, Reached s (CL_ISACFG.addr 0) ∧ s.encOf 0 = s.encOf 1) :=
  ⟨⟨withCore (cpu (.zero 0) false false [] []) 0
       (fun x => { x with halted := true, micro := [(0, 0x1122334455667788)] }), by decide +kernel⟩,
   ⟨cpu (.zero 0) false false [] [], by decide +kernel⟩,
   ⟨cpu (.zero 0) false false [] [], by decide +kernel⟩,
   ⟨withCore (cpu (.zero 0) false false [] []) 0
       (fun x => { x with halted := true, micro := [(0, 0x1122334455667788)] }), by decide +kernel⟩,
   ⟨cpu (.zero 0) false false [] [], by decide +kernel⟩,
   ⟨cpu (.zero 0) false false [] [], by decide +kernel⟩,
   ⟨(withCore (cpu (.zero 0) false false [] []) 0
         (fun x => { x with halted := true, micro := [(0, 0x1122334455667788)] })).setFld (CL_ISACFG.addr 0)
       CL_ISACFG.ENC1 1, by decide +kernel⟩,
   ⟨cpu (.zero 0) false false [] [], by decide +kernel⟩⟩

/-- States that meet the hypotheses of AccessesReachThePackageMap, clause by clause. -/
theorem witness_accesses_reach_the_package_map :
    (∃ s : State, Reached s 524292) ∧
    (∃ s : State, Reached s TB_LOOP.addr) ∧
    (∃ s : State, placeOf 1342177280 = Place.unmapped ∧ (s.core 16).rs.length ≤ 14) ∧
    (∃ s : State, Reached s (CL_MDATA.addr 0) ∧ s.fld (CL_MADDR.addr 0) CL_MADDR.SPACE = 0) ∧
    (∃ s : State, Reached s (CL_MDATA.addr 0) ∧ s.fld (CL_MADDR.addr 0) CL_MADDR.SPACE = 1 ∧
      s.isOn (coreBlock 0) = true ∧ (s.core 0).halted = true) ∧
    (∃ s : State, Reached s (CL_MDATA.addr 0) ∧ s.fld (CL_MADDR.addr 0) CL_MADDR.SPACE = 2 ∧
      s.isOn (coreBlock 1) = true ∧ (s.core 1).halted = false) :=
  ⟨⟨{ State.reset with dom := [(0x1604, .on), (0x1600, .on), (0x0100, .on), (0x0400, .on), (0x0401, .on)] },
      by decide +kernel⟩,
   ⟨{ State.reset with dom := [(0x1604, .on), (0x1600, .on), (0x0100, .on), (0x0400, .on), (0x0401, .on)] },
      by decide +kernel⟩,
   ⟨{ State.reset with dom := [(0x1604, .on), (0x1600, .on), (0x0100, .on), (0x0400, .on), (0x0401, .on)] },
      by decide +kernel⟩,
   ⟨{ State.reset with dom := [(0x1604, .on), (0x1600, .on), (0x0100, .on), (0x0400, .on), (0x0401, .on)] },
      by decide +kernel⟩,
   ⟨({ State.reset with dom := [(0x1604, .on), (0x1600, .on), (0x0100, .on), (0x0400, .on), (0x0401, .on)] }.setFld
         (CL_MADDR.addr 0) CL_MADDR.ADDR 0x4001).setFld (CL_MADDR.addr 0) CL_MADDR.SPACE 1, by decide +kernel⟩,
   ⟨(({ State.reset with dom := [(0x1604, .on), (0x1600, .on), (0x0100, .on), (0x0400, .on), (0x0401, .on)] }.setFld
           (CL_MADDR.addr 0) CL_MADDR.ADDR 0x4001).setFld (CL_MADDR.addr 0) CL_MADDR.SPACE 2).setCore 1
       { Core.reset 1 with halted := false }, by decide +kernel⟩⟩

/-- States that meet the hypotheses of MergePointsTakeTurns, clause by clause. -/
theorem witness_merge_points_take_turns :
    (∃ s : State, (s.merge (mergeKey (MergePoint.edge 7))).next = some (aWaiting, []) ∧ aWaiting.ch = Channel.data ∧
      s.islandUp (s.receiver (MergePoint.edge 7) aWaiting.pkt).1 (s.receiver (MergePoint.edge 7) aWaiting.pkt).2 = true ∧
      s.awake (s.receiver (MergePoint.edge 7) aWaiting.pkt).1 (s.receiver (MergePoint.edge 7) aWaiting.pkt).2 = true ∧
      2 ≤ aWaiting.flits) ∧
    (∃ s : State, (s.merge (mergeKey (MergePoint.edge 7))).next = some (aWaiting2, [aWaiting]) ∧
      s.islandUp (s.receiver (MergePoint.edge 7) aWaiting2.pkt).1 (s.receiver (MergePoint.edge 7) aWaiting2.pkt).2 = true ∧
      s.awake (s.receiver (MergePoint.edge 7) aWaiting2.pkt).1 (s.receiver (MergePoint.edge 7) aWaiting2.pkt).2 = true ∧
      aWaiting2.flits ≤ 1 ∧ aWaiting2.pkt.ring = none ∧ aWaiting2.since + 2000 ≤ s.el ∧
      (s.merge (mergeKey (MergePoint.edge 7))).lastAt + 2000 ≤ s.el) ∧
    (∃ s : State, (s.merge (mergeKey (MergePoint.edge 7))).next = some (aWaiting, []) ∧
      s.islandUp (s.receiver (MergePoint.edge 7) aWaiting.pkt).1 (s.receiver (MergePoint.edge 7) aWaiting.pkt).2 = true ∧
      s.awake (s.receiver (MergePoint.edge 7) aWaiting.pkt).1 (s.receiver (MergePoint.edge 7) aWaiting.pkt).2 = false) ∧
    (∃ s : State, (s.merge (mergeKey (MergePoint.hub 8))).next = some (lastFlit, []) ∧
      lastFlit.pkt = Packet.laneRecord 1 (lrec 3) ∧ lastFlit.flits ≤ 1 ∧ s.rcfg 1 LOG_RCFG.EN ≠ 0 ∧
      s.islandUp (s.receiver (MergePoint.hub 8) lastFlit.pkt).1 (s.receiver (MergePoint.hub 8) lastFlit.pkt).2 = true) ∧
    (∃ s : State, (s.merge (mergeKey (MergePoint.hub 7))).next = some (aSignal, []) ∧ aSignal.pkt = Packet.signal 3 255 at5 ∧
      aSignal.flits ≤ 1 ∧
      s.islandUp (s.receiver (MergePoint.hub 7) aSignal.pkt).1 (s.receiver (MergePoint.hub 7) aSignal.pkt).2 = true ∧
      s.awake (s.receiver (MergePoint.hub 7) aSignal.pkt).1 (s.receiver (MergePoint.hub 7) aSignal.pkt).2 = true) ∧
    (∃ s : State, (s.merge (mergeKey (MergePoint.slice 7))).next = some (aSignal, []) ∧
      s.islandUp (s.receiver (MergePoint.slice 7) aSignal.pkt).1 (s.receiver (MergePoint.slice 7) aSignal.pkt).2 = true ∧
      s.awake (s.receiver (MergePoint.slice 7) aSignal.pkt).1 (s.receiver (MergePoint.slice 7) aSignal.pkt).2 = true ∧
      s.armed 255 = true ∧ s.kindA 255 = 3 ∧ s.cfld (RS_ESRCA.addr 255) RS_ESRCA.ID = 3) :=
  ⟨⟨{ live 5 100 |> lit [0x0107] with merges := [(7, { Merge.reset with wait := [aWaiting], lastEvent := 4, lastData := 0 })] },
      by decide +kernel⟩,
   ⟨{ live 5 9000 |> lit [0x0107] with
           merges := [(7, { Merge.reset with wait := [aWaiting, aWaiting2], lastEvent := 4, lastData := 0 })] },
      by decide +kernel⟩,
   ⟨{ live 5 100 with merges := [(7, { Merge.reset with wait := [aWaiting] })] }, by decide +kernel⟩,
   ⟨{ live 5 100 with merges := [(16, { Merge.reset with wait := [lastFlit], lastData := 0 })] } |>
      cf (LOG_RCFG.addr 1) LOG_RCFG.EN 1, by decide +kernel⟩,
   ⟨{ live 5 100 |> lit [0x0107] with merges := [(15, { Merge.reset with wait := [aSignal] })] }, by decide +kernel⟩,
   ⟨{ live 5 100 |> lit [0x0307] |> cf (RS_ECFG.addr 255) RS_ECFG.EN 1 |> cf (RS_ESRCA.addr 255) RS_ESRCA.KIND 3 |>
        cf (RS_ESRCA.addr 255) RS_ESRCA.ID 3 with merges := [(58, { Merge.reset with wait := [aSignal] })] },
      by decide +kernel⟩⟩

/-- States that meet the hypotheses of ResetsAndTheDebugPort, clause by clause. -/
theorem witness_resets_and_the_debug_port :
    (∃ s : State, s.mode ≠ 1) ∧
    (∃ s : State, s.mode = 1) ∧
    (∃ s : State, s.mode ≠ 7) ∧
    (∃ s : State, s.mode = 7 ∧ (s.core 0).long = none) ∧
    (∃ s : State, s.mode = 7) ∧
    (∃ s : State, s.mode = 7 ∧ (s.core 0).halted = true ∧ (s.core 0).failed = false ∧ (s.core 0).fresh = false ∧
      (s.core 0).acting = none ∧ s.pwr.held.contains 0 = false) :=
  ⟨⟨{ State.reset with
           tiles := [(0, Tile.reset)]
           cores := [(0, { Core.reset 0 with halted := false, fresh := false })]
           pending := [.train]
           mem := [(5,1),(0x10000000,7)] }, by decide +kernel⟩,
   ⟨{ State.reset with
           tiles := [(0, Tile.reset)]
           cores := [(0, { Core.reset 0 with halted := false, fresh := false })]
           pending := [.train]
           mem := [(5,1),(0x10000000,7)] }.setFld PWR_STATUS.addr PWR_STATUS.MODE 1, by decide +kernel⟩,
   ⟨{ State.reset with
           tiles := [(0, Tile.reset)]
           cores := [(0, { Core.reset 0 with halted := false, fresh := false })]
           pending := [.train]
           mem := [(5,1),(0x10000000,7)] }, by decide +kernel⟩,
   ⟨{ State.reset with
           tiles := [(0, Tile.reset)]
           cores := [(0, { Core.reset 0 with halted := false, fresh := false })]
           pending := [.train]
           mem := [(5,1),(0x10000000,7)] }.setFld PWR_STATUS.addr PWR_STATUS.MODE 7, by decide +kernel⟩,
   ⟨{ State.reset with
           tiles := [(0, Tile.reset)]
           cores := [(0, { Core.reset 0 with halted := false, fresh := false })]
           pending := [.train]
           mem := [(5,1),(0x10000000,7)] }.setFld PWR_STATUS.addr PWR_STATUS.MODE 7, by decide +kernel⟩,
   ⟨withCore ({ State.reset with
             tiles := [(0, Tile.reset)]
             cores := [(0, { Core.reset 0 with halted := false, fresh := false })]
             pending := [.train]
             mem := [(5,1),(0x10000000,7)] }.setFld PWR_STATUS.addr PWR_STATUS.MODE 7) 0
       (fun x => { x with halted := true }), by decide +kernel⟩⟩

/-- States that meet the hypotheses of TimekeepingHandsOver, clause by clause. -/
theorem witness_timekeeping_hands_over :
    (∃ s : State, s.time.pll = Pll.settling 0 ∧ 0 + s.cfld TB_REFCFG.addr TB_REFCFG.SETTLE * 16000 ≤ s.el) ∧
    (∃ s : State, s.time.pll = Pll.starting) ∧
    (∃ s : State, s.pwr.entry = some aEntry7 ∧ aEntry7.phase = EntryPhase.handover ∧ s.time.keepCarries = false ∧
      s.atTick = true ∧ aEntry7.to_ < 8) ∧
    (∃ s : State, s.time.keepCarries = true ∧ s.time.pll = Pll.locked ∧ s.lowMode = false ∧ s.atTick = true ∧
      s.time.span = []) ∧
    (∃ s : State, s.atTick = false) ∧
    (∃ s : State, s.crystalTemp = some 400 ∧ s.time.pll = Pll.locked ∧ (s.gring 2).cal = none) ∧
    ((live 5 640000).time.state = FloatState.locked ∧ (live 5 640000).uclkSq < 10000000000 ∧
      (399 + 8) / 16 + 40 = ↑65) ∧
    ((live 5 640000).pending = [] ∧ (live 5 640000).time.keepCarries = false ∧ (live 5 640000).time.slewLeft = 0 ∧
      (live 5 640000).time.rateCorr = 0 ∧ (live 5 640000).time.subs = []) :=
  ⟨⟨{ live 4 100000000 with time := { Time.reset with pll := .settling 0 } }, by decide +kernel⟩,
   ⟨{ live 4 640000 with time := { Time.reset with pll := .starting } }, by decide +kernel⟩,
   ⟨{ live 5 640000 with
           time := { (live 5 0).time with acc := 0x123456789ABCDEF0123456789A }
           pwr :=
             { Pwr.reset with entry := some { from_ := 5, to_ := 1, phase := .handover, blocks := [], saves := [] } } },
      by decide +kernel⟩,
   ⟨{ live 5 640000 with time := { (live 5 0).time with keep := 0x123456789ABCDEF0123456789A, keepCarries := true } },
      by decide +kernel⟩,
   ⟨{ live 5 640000 with time := { (live 5 0).time with xkPhase := 32768 } }, by decide +kernel⟩,
   ⟨(live 5 640000).setFld TB_TEMP.addr TB_TEMP.VALID 1 |>.setFld TB_TEMP.addr TB_TEMP.TEMP 400, by decide +kernel⟩,
   by decide +kernel,
   by decide +kernel⟩

/-- States that meet the hypotheses of EdgesAreStamped, clause by clause. -/
theorem witness_edges_are_stamped :
    (∃ s : State, s.vioOk 3 = true ∧ s.lowMode = false ∧ s.time.keepCarries = false ∧
      s.fld (TB_FICTL.addr 3) TB_FICTL.EN = 1 ∧ s.fld (TB_FICTL.addr 3) TB_FICTL.PIN = 47 ∧
      (∀ k < 3, ¬(s.fld (TB_FICTL.addr ↑k) TB_FICTL.EN = 1 ∧ s.fld (TB_FICTL.addr ↑k) TB_FICTL.PIN = 47)) ∧
      edgeSelected (s.fld (TB_FICTL.addr 3) TB_FICTL.EDGE) false = true ∧
      (∀ (x : Nat), s.time.fiLast.find 3 = some x → x + 64 ≤ s.binAt 7)) ∧
    (∃ s : State, s.vioOk 3 = true ∧ s.lowMode = false ∧ s.time.keepCarries = false ∧
      (∀ (k : Fin 16), ¬(s.fld (TB_FICTL.addr ↑k) TB_FICTL.EN = 1 ∧ s.fld (TB_FICTL.addr ↑k) TB_FICTL.PIN = 46))) ∧
    (∃ s : State, s.vioOk 3 = true ∧ s.ringServed 3 true = true ∧ (s.gring 2).edge = none ∧ (s.gring 2).cal ≠ none ∧
      (∀ k < 2, (s.gring ↑k).edge ≠ none ∨ (s.gring ↑k).cal = none)) ∧
    (∃ s : State, s.vioOk 3 = true ∧ s.ringServed 15 true = true ∧
      (∀ (k : Fin 4), (s.gring ↑k).edge ≠ none ∨ (s.gring ↑k).cal = none) ∧
      (∀ (k : Fin 4) p up, (s.gring k).edge ≠ some (p, up, s.el))) ∧
    (∃ s : State, s.vioOk 3 = true ∧ (s.gring 2).edge = some (4, true, 3) ∧ (s.gring 2).cal = some (3000, 4) ∧
      s.atTick = true) ∧
    (∃ s : State, s.vioOk 3 = true ∧ s.atTick = false) ∧
    (∃ s : State, s.vioOk 3 = true ∧ s.time.keepCarries = true ∧ s.mode ≠ 1 ∧ s.lowMode = true) ∧
    (∃ s : State, s.vioOk 3 = true ∧ s.time.keepCarries = true ∧ s.mode ≠ 1 ∧ s.lowMode = false) ∧
    (∃ s : State, s.vioOk 3 = true ∧ s.cfld TB_PPSCFG.addr TB_PPSCFG.EN = 1 ∧
      s.cfld TB_PPSCFG.addr TB_PPSCFG.EDGE = 1 ∧ s.lowMode = false ∧ s.time.keepCarries = false ∧
      s.time.ppsLast = some 2199107141632 ∧ s.time.commitPending = false ∧ s.time.ppsSeen = some 1900000000 ∧ s.elOf (s.captureAt 0) < 4400000000 ∧
      999900000 ≤ fracToNs (s.captureAt 0 - 2199107141632).toNat ∧
      fracToNs (s.captureAt 0 - 2199107141632).toNat ≤ 1000100000) ∧
    (∃ s : State, s.vioOk 3 = true ∧ s.cfld TB_PPSCFG.addr TB_PPSCFG.EN = 1 ∧
      s.cfld TB_PPSCFG.addr TB_PPSCFG.EDGE = 1 ∧ s.lowMode = false ∧ s.time.keepCarries = false ∧
      s.time.ppsLast = some 2748779069440 ∧ s.time.commitPending = false ∧ s.time.ppsSeen = some 1900000000 ∧ s.elOf (s.captureAt 0) < 4400000000 ∧
      fracToNs (s.captureAt 0 - 2748779069440).toNat < 999900000) :=
  ⟨⟨(live 5 1000).setFld (TB_FICTL.addr 3) TB_FICTL.EN 1 |>.setFld (TB_FICTL.addr 3) TB_FICTL.PIN 47 |>.setFld
       (TB_FICTL.addr 3) TB_FICTL.EDGE 2, by decide +kernel⟩,
   ⟨live 5 1000 |> rf (TB_FICTL.addr 3) TB_FICTL.EN 1 |> rf (TB_FICTL.addr 3) TB_FICTL.PIN 47 |> rf (TB_FICTL.addr 3)
       TB_FICTL.EDGE 2, by decide +kernel⟩,
   ⟨{ live 2 1000 with
           time := { Time.reset with
                 rings := [(2, { edge := none, cal := some (3000, 4) })]
                 keep := 0x55555555555555555555 } }, by decide +kernel⟩,
   ⟨{ live 2 1000 with time := { Time.reset with keep := 0x55555555555555555555 } }, by decide +kernel, by decide +kernel,
      by decide +kernel, by intro k p up; simp [State.gring, Ring.reset, Tab.get, Tab.find, live, Time.reset]⟩,
   ⟨{ live 2 1000 with
           time := { Time.reset with
                 rings := [(2, { edge := some (4, true, 3), cal := some (3000, 4) })]
                 keep := 0x55555555555555555555 } }, by decide +kernel⟩,
   ⟨{ live 2 1000 with time := { Time.reset with xkPhase := 32768 } }, by decide +kernel⟩,
   ⟨{ live 2 1000 with time := { Time.reset with keep := 0x55555555555555555555 } }, by decide +kernel⟩,
   ⟨{ live 4 1000 with time := { Time.reset with keep := 0x55555555555555555555 } }, by decide +kernel⟩,
   ⟨{ live 5 3000000000 with
           time := { (live 5 0).time with
                 acc := 0x30000000000000000
                 ppsLast := some 0x20005000000
                 ppsSeen := some 1900000000 } } |> cf TB_PPSCFG.addr TB_PPSCFG.EN 1 |> cf TB_PPSCFG.addr
       TB_PPSCFG.EDGE 1, by decide +kernel⟩,
   ⟨{ live 5 3000000000 with
           time := { (live 5 0).time with
                 acc := 0x30000000000000000
                 ppsLast := some 0x28000000000
                 ppsSeen := some 1900000000 } } |> cf TB_PPSCFG.addr TB_PPSCFG.EN 1 |> cf TB_PPSCFG.addr
       TB_PPSCFG.EDGE 1, by decide +kernel⟩⟩

/-- States that meet the hypotheses of SourcesAndClaims, clause by clause. -/
theorem witness_sources_and_claims :
    (∃ s : State, Reached s TB_CTL.addr ∧ s.time.accepted = [(sourceCode TimeSource.pps, 1000)] ∧
      1000 + sourceTimeout TimeSource.pps ≤ s.el) ∧
    (∃ s : State, Reached s TB_CTL.addr ∧ fget (fset (fset 0 TB_XK3.GO 1) TB_XK3.SRC 4) TB_XK3.GO = 1) ∧
    (∃ s : State, Reached s TB_CTL.addr ∧ s.pending = [] ∧ s.time.subs = [(0, ⟨5, 4, 4, false⟩)] ∧
      s.fld TB_CTL.addr TB_CTL.FLOATEN = 1 ∧ BitVec.getLsbD (s.reg TB_CTL.addr) 3 = true ∧
      s.time.state = FloatState.unset) ∧
    (Reached (live 5 1000) TB_CTL.addr) ∧
    (∃ s : State, Reached s TB_CTL.addr ∧ s.pending = [] ∧ s.time.subs = [(1, ⟨0, 4, 2, false⟩)] ∧
      s.fld TB_CTL.addr TB_CTL.FLOATEN = 1 ∧ BitVec.getLsbD (s.reg TB_CTL.addr) 1 = true ∧
      s.time.state = FloatState.unset ∧ s.time.accepted = []) ∧
    (∃ s : State, Reached s TB_CTL.addr ∧ s.time.claims.find 2 = some aClaim ∧ aClaim.since + 2000000000 ≤ s.el ∧
      s.fld TB_CTL.addr TB_CTL.FLOATEN = 1 ∧ BitVec.getLsbD (s.reg TB_CTL.addr) 3 = true) ∧
    (Reached (live 5 1000) TB_CTL.addr ∧ fget 1 TB_COMMIT.GO = 1) ∧
    (∃ s : State, Reached s TB_CTL.addr ∧ BitVec.getLsbD (20480 : Word) (sourceBit TimeSource.pps) = false) ∧
    (∃ s : State, Reached s TB_CTL.addr) ∧
    (Reached (live 5 1000) TB_CTL.addr ∧ (live 5 1000).sideHolds Side.keeper 6 15 = false ∧
      fget 2147483648 TB_FICTL.EN = 1) ∧
    (∃ s : State, Reached s TB_CTL.addr ∧ s.sideHolds Side.keeper 6 15 = true) :=
  ⟨⟨{ live 5 700000000000 with time := { (live 5 0).time with accepted := [(1, 1000)], selected := some .pps } },
      by decide +kernel⟩,
   ⟨live 5 1000, by decide +kernel⟩,
   ⟨{ live 5 1000 with time := { (live 5 0).time with state := .unset, subs := [(0, ⟨5, 4, 4, false⟩)] } } |> rf
       TB_CTL.addr TB_CTL.FLOATEN 1 |> rf TB_CTL.addr TB_CTL.SRCEN 15, by decide +kernel⟩,
   by decide +kernel,
   ⟨{ live 5 1000 with time := { (live 5 0).time with state := .unset, subs := [(1, ⟨0, 4, 2, false⟩)] } } |> rf
       TB_CTL.addr TB_CTL.FLOATEN 1 |> rf TB_CTL.addr TB_CTL.SRCEN 15, by decide +kernel⟩,
   ⟨{ live 5 3000000000 with
           time := { (live 5 0).time with
                 state := .unset
                 claims :=
                   [(2, { kind := .nextPps, time := 7, unc := 3, force := false, since := 0, seq := 4, op := 16 })] } }
       |> rf TB_CTL.addr TB_CTL.FLOATEN 1 |> rf TB_CTL.addr TB_CTL.SRCEN 15, by decide +kernel⟩,
   by decide +kernel,
   ⟨{ live 5 1000 with time := { (live 5 0).time with accepted := [(1, 1000)], selected := some .pps } },
      by decide +kernel⟩,
   ⟨{ live 5 1000 with time := { (live 5 0).time with acc := 0x123456789ABCDEF0123456789A, u0sq := 12345678 } },
      by decide +kernel⟩,
   by decide +kernel,
   ⟨{ live 5 1000 with owner := [(unitKey 6 15, 0x1000)] }, by decide +kernel⟩⟩

/-- States that meet the hypotheses of TilesCommitAndAcquire, clause by clause. -/
theorem witness_tiles_commit_and_acquire :
    (∃ s : State, Reached s (tileBase 31) ∧ fget 4294967295 TILE_COMMIT.GO = 1 ∧ (s.setSwitch 31).tileCheck 31 = 0) ∧
    (∃ s : State, Reached s (tileBase 31) ∧ fget 4294967295 TILE_COMMIT.GO = 1 ∧
      (s.setSwitch 31).fld (TILE_CFG.addr 31) TILE_CFG.PORT < 32 ∧
      (s.setSwitch 31).ownerOf 3 ((s.setSwitch 31).fld (TILE_CFG.addr 31) TILE_CFG.PORT) ≠ 4639) ∧
    (∃ s : State, Reached s (tileBase 31) ∧ (s.tile 31).pending = some 0 ∧ 0 ≤ s.now ∧
      ∀ h ∈ (s.tile 31).held, s.elOf 0 ≤ h.arrived) ∧
    (∃ s : State, Reached s (tileBase 31) ∧ s.dueAt 31 63 = some (5000, false) ∧ s.lowMode = false ∧
      s.tileActive 31 = true ∧ portOf (s.setWord false (TILE_CFG.addr 31)) ≠ 63) ∧
    (∃ s : State, Reached s (tileBase 31) ∧ s.dueAt 31 63 = some (5000, false) ∧ s.lowMode = false) ∧
    (∃ s : State, Reached s (tileBase 31)) :=
  ⟨⟨{ (live 5 1000 |> (fun s => s.setReg (TILE_PERIOD.addr 31) 5000) |> rf (TILE_CFG.addr 31) TILE_CFG.PORT 63 |> lit
          [0x021F]) with
           time := { (live 5 0).time with acc := 0x3000000000000000ABCDEF00 } }, by decide +kernel⟩,
   ⟨{ (live 5 1000 |> (fun s => s.setReg (TILE_PERIOD.addr 31) 5000) |> rf (TILE_CFG.addr 31) TILE_CFG.PORT 5 |> lit
          [0x021F]) with
           time := { (live 5 0).time with acc := 0x3000000000000000ABCDEF00 } }, by decide +kernel⟩,
   ⟨{ (live 5 1000 |> pf (TILE_CFG.addr 31) TILE_CFG.RUN 0 |> pf (TILE_CFG.addr 31) TILE_CFG.PORT 5 |> lit [0x021F]) with
           tiles := [(31, { Tile.reset with pending := some 0, running := true, buffer := [lrec 4] })] },
      by decide +kernel⟩,
   ⟨{ (live 5 1000 |> (fun s => { s with cset := Tab.put s.cset (TILE_PERIOD.addr 31) 5000 }) |> cf
          (TILE_CFG.addr 31) TILE_CFG.RUN 1 |> cf (TILE_CFG.addr 31) TILE_CFG.PORT 5 |> cf (TILE_SCHA.addr 31 63)
          TILE_SCHA.EN 1 |> cf (TILE_SCHB.addr 31 63) TILE_SCHB.CMD 77 |> cf (TILE_SCHB.addr 31 63) TILE_SCHB.LANES
          0x8001 |> lit [0x021F]) with
           tiles := [(31, { Tile.reset with running := true })]
           time := { (live 5 0).time with acc := 55340198666697 } }, by decide +kernel⟩,
   ⟨{ (live 5 1000 |> (fun s => { s with cset := Tab.put s.cset (TILE_PERIOD.addr 31) 5000 }) |> cf
          (TILE_CFG.addr 31) TILE_CFG.RUN 1 |> cf (TILE_CFG.addr 31) TILE_CFG.PORT 5 |> cf (TILE_SCHA.addr 31 63)
          TILE_SCHA.EN 1 |> cf (TILE_SCHB.addr 31 63) TILE_SCHB.CMD 77 |> cf (TILE_SCHB.addr 31 63) TILE_SCHB.LANES
          0x8001 |> lit [0x021F]) with
           tiles := [(31, { Tile.reset with running := true })]
           time := { (live 5 0).time with acc := 55340198666697 } }, by decide +kernel⟩,
   ⟨live 5 1000 |> lit [0x021F], by decide +kernel⟩⟩

/-- States that meet the hypotheses of AcquisitionsBecomeRecords, clause by clause. -/
theorem witness_acquisitions_become_records :
    (∃ s : State, s.portWait 0 = [(31, { entry := 3, cmd := 5, lanes := 32769, at_ := 3298534883328, due := 3000000000, opens := 900 : Sent })]) ∧
    (∃ s : State, s.vioOk 3 = true ∧
      s.portWait 11 = [(31, { entry := 3, cmd := 5, lanes := 32769, at_ := 3298534883328, due := 3000000000, opens := 900 : Sent })]) ∧
    (∃ s : State, s.vioOk 3 = true ∧
      s.portWait 28 = [(31, { entry := 3, cmd := 5, lanes := 32769, at_ := 3298534883328, due := 3000000000, opens := 900 : Sent })]) ∧
    (∃ s : State, (s.tile 31).held = [aHeld,
         { lanes := 32768, gts := { t := 77, unc := 5 : Gts }, epoch := 0, val := Acq.code 3, ow := false,
           late := false : Held }] ∧ aHeld.val = Acq.code 5 ∧
      (∀ (k : Fin 16), aHeld.lanes.getLsbD ↑k = decide (k = 15)) ∧ s.cfld (TILE_LSRC.addr 31 15) TILE_LSRC.EN = 1 ∧
      s.cfld (TILE_LSRC.addr 31 15) TILE_LSRC.DESPIKE = 0 ∧ s.cfld (TILE_LCIC.addr 31 15) TILE_LCIC.RATIO = 0 ∧
      s.cfld (TILE_LBQC.addr 31 15) TILE_LBQC.BQMODE = 0 ∧ s.cfld (TILE_TRKCFG.addr 31) TILE_TRKCFG.APPLY = 0 ∧
      (s.lane 31 15).window = [] ∧ (s.lane 31 15).integ = [] ∧ (s.tile 31).pending = none) ∧
    (∃ s : State, 0 < (s.tile 31).returning ∧ (s.tile 31).buffer = []) ∧
    (∃ s : State, 0 < (s.tile 31).returning ∧ (s.tile 31).buffer = [lrec 4, lrec 5]) ∧
    (∃ s : State, (s.core 15).acting = none ∧ s.cfld (TILE_CFG.addr 31) TILE_CFG.FIFOCORE = 1 ∧
      (s.tile 31).fifo = [lrec 4, lrec 5]) :=
  ⟨⟨{ live 5 1000 with portQ := [(0, [(31, { entry := 3, cmd := 5, lanes := 0x8001, at_ := 0x30000000000, due := 3000000000, opens := 900 })])] },
      by decide +kernel⟩,
   ⟨{ live 5 1000 with portQ := [(11, [(31, { entry := 3, cmd := 5, lanes := 0x8001, at_ := 0x30000000000, due := 3000000000, opens := 900 })])] },
      by decide +kernel⟩,
   ⟨{ { live 5 1000 with portQ := [(28, [(31, { entry := 3, cmd := 5, lanes := 0x8001, at_ := 0x30000000000, due := 3000000000, opens := 900 })])] } with
           time := { (live 5 0).time with eioLevel := 0xABCD12345678 } }, by decide +kernel⟩,
   ⟨{ (live 5 1000 |> cf (TILE_LSRC.addr 31 15) TILE_LSRC.EN 1 |> cf (TILE_CFG.addr 31) TILE_CFG.FIFOEN 1 |> cf
          (TILE_CFG.addr 31) TILE_CFG.RINGEN 1 |> lit [0x021F]) with
           tiles := [(31,
                { Tile.reset with
                     running := true
                     held := [{ lanes := 0x8000, gts := ⟨77, 5⟩, epoch := 0, val := .code (5), ow := false,
                                late := false },
                        { lanes := 0x8000, gts := ⟨77, 5⟩, epoch := 0, val := .code (3), ow := false, late := false }] })] },
      by decide +kernel⟩,
   ⟨{ live 5 1000 with tiles := [(31, { Tile.reset with credits := 2, returning := 2 })] }, by decide +kernel⟩,
   ⟨{ live 5 1000 with
           tiles := [(31, { Tile.reset with credits := 0, returning := 1, buffer := [lrec 4, lrec 5] })] },
      by decide +kernel⟩,
   ⟨{ live 5 1000 with tiles := [(31, { Tile.reset with fifo := [lrec 4, lrec 5], fifoWord := 5 })] } |> cf
       (TILE_CFG.addr 31) TILE_CFG.FIFOCORE 1, by decide +kernel⟩⟩

/-- A package in which engine 255 is armed and its slice and cluster are on. -/
def armed255 (el : Nat) (x : Engine) : State :=
  { live 5 el |> cf (RS_ECFG.addr 255) RS_ECFG.EN 1 |> cf (RS_EPRED.addr 255) RS_EPRED.QTY 7 |> lit [0x0107, 0x0307] with
      engines := [(255, x)] }

/-- States that meet the hypotheses of EnginesJudgeAndAct, clause by clause. -/
theorem witness_engines_judge_and_act :
    (∃ s : State, s.armed 255 = true ∧ s.sliceTakes 7 = true ∧ s.islandUp 2 459520 = true ∧
      pickInput (s.engine 255).inq = some ((5, EngIn.record (lrec 4294967040)), [(5, .bLane (lrec 3))]) ∧
      s.guard 255 (s.cword (RS_TRANS.addr 255 4)) 0 0 false = true ∧
      tw (s.cword (RS_TRANS.addr 255 4)) 17 14 ≠ 0 ∧ tw (s.cword (RS_TRANS.addr 255 4)) 13 8 = 0 ∧
      (s.merge 7).wait = [{ aWaiting2 with src := 7, pkt := .attention 5 at5, since := 1000, cycle := 2000, order := 0 }]) ∧
    (∃ s : State, s.armed 255 = true ∧ s.sliceTakes 7 = true ∧ s.islandUp 2 459520 = true ∧
      s.cfld (RS_EPRED.addr 255) RS_EPRED.QTY = 7 ∧ s.cfld (RS_EPRED.addr 255) RS_EPRED.COMB = 0) ∧
    (∃ s : State, s.armed 255 = true ∧ s.sliceTakes 7 = true ∧ s.islandUp 2 459520 = true ∧
      (s.engine 255).deadline = some 900 ∧ s.time.keepCarries = false ∧ 900 ≤ s.el ∧ (s.engine 255).inq = []) ∧
    (∃ s : State, s.armed 255 = true ∧ s.sliceTakes 7 = true ∧ s.islandUp 2 459520 = true ∧
      pickInput (s.engine 255).inq = some ((5, .bLane (lrec 4)), [(5, .bLane (lrec 5))])) :=
  ⟨⟨{ armed255 1000 { Engine.reset with st := 1, inq := [(5, .record (lrec 0xFFFFFF00)), (5, .bLane (lrec 3))] } with
        cset := Tab.put (armed255 0 Engine.reset).cset (RS_TRANS.addr 255 4) 0x68014000
        merges := [(7, { Merge.reset with
          wait := [{ aWaiting2 with src := 7, pkt := .attention 5 at5, since := 1000, cycle := 2000, order := 0 }] })] },
      by decide +kernel⟩,
   ⟨armed255 1000 Engine.reset, by decide +kernel⟩,
   ⟨armed255 1000 { Engine.reset with deadline := some 900 }, by decide +kernel⟩,
   ⟨armed255 1000 { Engine.reset with inq := [(5, .bLane (lrec 4)), (5, .bLane (lrec 5))] }, by decide +kernel⟩⟩

/-- States that meet the hypotheses of SlicesCommitAndSummarise, clause by clause. -/
theorem witness_slices_commit_and_summarise :
    (∃ s : State, Reached s (RS_COMMIT.addr 7) ∧ (s.slice 7).pending = none ∧
      (∀ (k : Fin 32),
         BitVec.getLsbD (2147483649 : Word) ↑k = true → s.fld (RS_ECFG.addr (224 + ↑k)) RS_ECFG.EN = 1 →
          s.engineCheck (224 + ↑k) = 0)) ∧
    (∃ s : State, Reached s (RS_COMMIT.addr 7) ∧ (s.slice 7).pending = none ∧
      s.fld (RS_ECFG.addr 255) RS_ECFG.EN = 1 ∧ s.engineCheck 255 ≠ 0 ∧
      (∀ j < 31, BitVec.getLsbD (2147483648 : Word) ↑j = false)) ∧
    (∃ s : State, Reached s (RS_COMMIT.addr 7) ∧ (s.slice 7).pending ≠ none) ∧
    (∃ s : State, Reached s (RS_COMMIT.addr 7) ∧ (s.slice 7).pending = some 2147483649 ∧ (s.slice 7).commits = []) ∧
    (∃ s : State, Reached s (RS_COMMIT.addr 7)) ∧
    (∃ s : State, Reached s (RS_COMMIT.addr 7) ∧ s.arrived = [Packet.attention 9 at5, Packet.modeRequest 3 at5]) ∧
    (∃ s : State, Reached s (RS_COMMIT.addr 7) ∧ (s.slice 7).coal = [aCoal] ∧ aCoal.close ≤ s.now ∧ aCoal.count = 0) ∧
    (∃ s : State, Reached s (RS_COMMIT.addr 7) ∧ (s.slice 7).coal = [aCoal2] ∧ aCoal2.close ≤ s.now ∧
      aCoal2.count ≠ 0 ∧ aCoal2.key.1 ≠ 0 ∧ s.events.length < eventQueueSize ∧
      s.fld (RS_CTL.addr 7) RS_CTL.RINGEN = 0 ∧ (s.slice 7).lost = 0 ∧ (s.slice 7).buffer = []) ∧
    (∃ s : State, Reached s (RS_COMMIT.addr 7) ∧ (s.slice 7).buffer = [] ∧ (s.slice 7).lost ≠ 0 ∧
      s.events.length < eventQueueSize ∧ s.fld (RS_CTL.addr 7) RS_CTL.RINGEN = 0) ∧
    (∃ s : State, Reached s (RS_COMMIT.addr 7) ∧ s.keptSlice 7 = true ∧
      (s.slice 7).lastInput + 2 ^ s.fld (RS_CTL.addr 7) RS_CTL.WIDLE * 1000 ≤ s.el) :=
  ⟨⟨live 5 1000 |> lit [0x0307], by decide +kernel⟩,
   ⟨live 5 1000 |> lit [0x0307] |> rf (RS_ECFG.addr 255) RS_ECFG.EN 1, by decide +kernel⟩,
   ⟨{ live 5 1000 |> lit [0x0307] with slices := [(7, { Slice.reset with pending := some 5 })] }, by decide +kernel⟩,
   ⟨{ (live 5 1000 |> lit [0x0307] |> pf (RS_ECFG.addr 255) RS_ECFG.EN 1 |> pf (RS_ECFG.addr 255) RS_ECFG.INIT 6 |>
          pf (RS_ECFG.addr 224) RS_ECFG.KEEPST 1) with
           slices := [(7, { Slice.reset with pending := some 0x80000001 })]
           engines := [(224, { Engine.reset with st := 3, c0 := 4 }),
              (255, { Engine.reset with st := 3, c0 := 4, faulted := true, window := [3] })] }, by decide +kernel⟩,
   ⟨live 5 1000 |> lit [0x0307], by decide +kernel⟩,
   ⟨{ live 5 1000 |> rf (HP_ATTN.addr 1) HP_ATTN.RULE 1 |> lit [0x0307] with
           arrived := [.attention 9 at5, .modeRequest 3 at5] }, by decide +kernel⟩,
   ⟨{ (live 5 1000 |> lit [0x0307]) with
           slices := [(7,
                { Slice.reset with
                     coal := [{ key := (2, 5, 9), close := 7, count := 0, gts := ⟨5,1⟩, value := 4, valueAt := 5, trans := 3,
                                rule := 255, eflags := 2, epoch := 0 }] })]
           time := { (live 5 0).time with acc := 0x3000000000000000 } }, by decide +kernel⟩,
   ⟨{ (live 5 1000 |> lit [0x0307]) with
           slices := [(7,
                { Slice.reset with
                     coal := [{ key := (2, 5, 9), close := 7, count := 3, gts := ⟨5,1⟩, value := 4, valueAt := 5, trans := 3,
                                rule := 255, eflags := 2, epoch := 0 }] })]
           time := { (live 5 0).time with acc := 0x3000000000000000 } }, by decide +kernel⟩,
   ⟨{ (live 5 1000 |> lit [0x0307]) with slices := [(7, { Slice.reset with lost := 65536, lostRule := 255 })] },
      by decide +kernel⟩,
   ⟨{ (live 2 100000000000 |> lit [0x0307] |> cf PWR_WATCH.addr PWR_WATCH.CLUSTER 7) with
           slices := [(7, { Slice.reset with lastInput := 5 })] }, by decide +kernel⟩⟩

/-- States that meet the hypotheses of StippleRunsItsSlots, clause by clause. -/
theorem witness_stipple_runs_its_slots :
    (∃ s : State, Reached s STP_TRIG.addr ∧ s.arrived = [Packet.stpTrigger 7 255 at5] ∧ s.scfg 7 STP_SCFG.EN = 1 ∧
      (∀ r ∈ s.stp.waiting, r.slot ≠ 7) ∧ 5 ≤ s.mode) ∧
    (∃ s : State, Reached s STP_TRIG.addr ∧ s.arrived = [Packet.stpTrigger 7 255 at5] ∧ s.scfg 7 STP_SCFG.EN = 1 ∧
      (¬∀ r ∈ s.stp.waiting, r.slot ≠ 7) ∧ 5 ≤ s.mode) ∧
    (∃ s : State, Reached s STP_TRIG.addr ∧ fget (fset (fset 0 STP_TRIG.GO 1) STP_TRIG.SLOT 7) STP_TRIG.GO = 1 ∧
      fget (fset (fset 0 STP_TRIG.GO 1) STP_TRIG.SLOT 7) STP_TRIG.SLOT = 7 ∧ s.scfg 7 STP_SCFG.EN = 1 ∧
      (∀ r ∈ s.stp.waiting, r.slot ≠ 7) ∧ 5 ≤ s.mode) ∧
    (∃ s : State, Reached s STP_TRIG.addr ∧ s.cfld (STP_SPER.addr 7) STP_SPER.PER ≠ 0 ∧
      (s.stpSlot 7).periodAt + s.cfld (STP_SPER.addr 7) STP_SPER.PER * 1000000 ≤ s.el ∧ s.scfg 7 STP_SCFG.EN = 1 ∧
      (∀ r ∈ s.stp.waiting, r.slot ≠ 7) ∧ 5 ≤ s.mode) ∧
    (∃ s : State, Reached s STP_TRIG.addr ∧ s.fld STP_CTL.addr STP_CTL.EN = 1 ∧ 5 ≤ s.mode ∧ s.stp.waiting ≠ [] ∧
      s.stp.preempted = [] ∧ s.stp.running = none) ∧
    (∃ s : State, Reached s STP_TRIG.addr ∧ s.fld STP_CTL.addr STP_CTL.EN = 1 ∧ 5 ≤ s.mode ∧ s.stp.waiting ≠ [] ∧
      s.stp.preempted = [] ∧ s.stp.running = some aStpRun ∧
      s.stp.waiting = [{ slot := 7, rule := none, got := none : StpRun }] ∧
      s.scfg aStpRun.slot STP_SCFG.PRIO < s.scfg { slot := 7, rule := none, got := none : StpRun }.slot STP_SCFG.PRIO) ∧
    (∃ s : State, Reached s STP_TRIG.addr ∧ s.stp.running = some aStpRun2 ∧ s.stp.pendingSlots.contains 7 = false) ∧
    (∃ s : State, Reached s STP_TRIG.addr ∧ s.stp.running = some aStpRun2 ∧ s.stp.pendingSlots.contains 7 = false ∧
      s.events.length < eventQueueSize) ∧
    (∃ s : State, Reached s STP_TRIG.addr ∧ fget (fset 0 STP_COMMIT.GO 1) STP_COMMIT.GO = 1 ∧ s.stp.running = none ∧
      s.stp.preempted = [] ∧ (∀ (k : Fin 8), s.slotCheck ↑k = 0)) ∧
    (∃ s : State, Reached s STP_TRIG.addr ∧ fget (fset 0 STP_COMMIT.GO 1) STP_COMMIT.GO = 1 ∧ s.stp.running = none ∧
      s.stp.preempted = [] ∧ s.slotCheck 7 ≠ 0 ∧ (∀ k < 7, s.slotCheck ↑k = 0)) ∧
    (∃ s : State, Reached s STP_TRIG.addr ∧ s.mode = 5 ∧ s.stp.running = none ∧ s.stp.waiting = [] ∧
      s.stp.preempted = [] ∧ s.stp.idleSince + max 1 (s.fld PWR_CFG.addr PWR_CFG.STPIDLE) * 1000 ≤ s.el) :=
  ⟨⟨{ (live 5 5000000 |> lit [0x1400] |> cf (STP_SCFG.addr 7) STP_SCFG.EN 1 |> cf (STP_SCFG.addr 7) STP_SCFG.PRIO 3
          |> cf (STP_SCFG.addr 2) STP_SCFG.EN 1 |> cf (STP_SCFG.addr 2) STP_SCFG.PRIO 1 |> cf (STP_SCFG.addr 1)
          STP_SCFG.EN 1 |> cf (STP_SCFG.addr 1) STP_SCFG.PRIO 3 |> rf STP_CTL.addr STP_CTL.EN 1) with
           arrived := [.stpTrigger 7 255 at5]
           stp := { Stp.reset with waiting := [], running := none, preempted := [] } }, by decide +kernel⟩,
   ⟨{ (live 5 5000000 |> lit [0x1400] |> cf (STP_SCFG.addr 7) STP_SCFG.EN 1 |> cf (STP_SCFG.addr 7) STP_SCFG.PRIO 3
          |> cf (STP_SCFG.addr 2) STP_SCFG.EN 1 |> cf (STP_SCFG.addr 2) STP_SCFG.PRIO 1 |> cf (STP_SCFG.addr 1)
          STP_SCFG.EN 1 |> cf (STP_SCFG.addr 1) STP_SCFG.PRIO 3 |> rf STP_CTL.addr STP_CTL.EN 1) with
           arrived := [.stpTrigger 7 255 at5]
           stp := { Stp.reset with
                 waiting := [{ slot := 7, rule := none, got := none }]
                 running := none
                 preempted := [] } }, by decide +kernel⟩,
   ⟨{ (live 5 5000000 |> lit [0x1400] |> cf (STP_SCFG.addr 7) STP_SCFG.EN 1 |> cf (STP_SCFG.addr 7) STP_SCFG.PRIO 3
          |> cf (STP_SCFG.addr 2) STP_SCFG.EN 1 |> cf (STP_SCFG.addr 2) STP_SCFG.PRIO 1 |> cf (STP_SCFG.addr 1)
          STP_SCFG.EN 1 |> cf (STP_SCFG.addr 1) STP_SCFG.PRIO 3 |> rf STP_CTL.addr STP_CTL.EN 1) with
           arrived := []
           stp := { Stp.reset with waiting := [], running := none, preempted := [] } }, by decide +kernel⟩,
   ⟨{ (live 5 5000000 |> lit [0x1400] |> cf (STP_SCFG.addr 7) STP_SCFG.EN 1 |> cf (STP_SCFG.addr 7) STP_SCFG.PRIO 3
          |> cf (STP_SCFG.addr 2) STP_SCFG.EN 1 |> cf (STP_SCFG.addr 2) STP_SCFG.PRIO 1 |> cf (STP_SCFG.addr 1)
          STP_SCFG.EN 1 |> cf (STP_SCFG.addr 1) STP_SCFG.PRIO 3 |> rf STP_CTL.addr STP_CTL.EN 1) with
           arrived := []
           stp := { Stp.reset with waiting := [], running := none, preempted := [] } } |> cf (STP_SPER.addr 7)
       STP_SPER.PER 5, by decide +kernel⟩,
   ⟨{ (live 5 5000000 |> lit [0x1400] |> cf (STP_SCFG.addr 7) STP_SCFG.EN 1 |> cf (STP_SCFG.addr 7) STP_SCFG.PRIO 3
          |> cf (STP_SCFG.addr 2) STP_SCFG.EN 1 |> cf (STP_SCFG.addr 2) STP_SCFG.PRIO 1 |> cf (STP_SCFG.addr 1)
          STP_SCFG.EN 1 |> cf (STP_SCFG.addr 1) STP_SCFG.PRIO 3 |> rf STP_CTL.addr STP_CTL.EN 1) with
           arrived := []
           stp := { Stp.reset with
                 waiting := [{ slot := 7, rule := none, got := none }, { slot := 2, rule := some 3, got := none },
                    { slot := 1, rule := none, got := none }]
                 running := none
                 preempted := [] } }, by decide +kernel⟩,
   ⟨{ (live 5 5000000 |> lit [0x1400] |> cf (STP_SCFG.addr 7) STP_SCFG.EN 1 |> cf (STP_SCFG.addr 7) STP_SCFG.PRIO 3
          |> cf (STP_SCFG.addr 2) STP_SCFG.EN 1 |> cf (STP_SCFG.addr 2) STP_SCFG.PRIO 1 |> cf (STP_SCFG.addr 1)
          STP_SCFG.EN 1 |> cf (STP_SCFG.addr 1) STP_SCFG.PRIO 3 |> rf STP_CTL.addr STP_CTL.EN 1) with
           arrived := []
           stp := { Stp.reset with
                 waiting := [{ slot := 7, rule := none, got := none }]
                 running := some { slot := 2, rule := some 3,
                                   got := some { ins := [1, -2], doubt := 1, gts := ⟨5,1⟩, epoch := 0, times := [[5]] } }
                 preempted := [] } }, by decide +kernel⟩,
   ⟨{ (live 5 5000000 |> lit [0x1400] |> cf (STP_SCFG.addr 7) STP_SCFG.EN 1 |> cf (STP_SCFG.addr 7) STP_SCFG.PRIO 3
          |> cf (STP_SCFG.addr 2) STP_SCFG.EN 1 |> cf (STP_SCFG.addr 2) STP_SCFG.PRIO 1 |> cf (STP_SCFG.addr 1)
          STP_SCFG.EN 1 |> cf (STP_SCFG.addr 1) STP_SCFG.PRIO 3 |> rf STP_CTL.addr STP_CTL.EN 1) with
           arrived := []
           stp := { Stp.reset with
                 waiting := []
                 running := some
                   { slot := 7, rule := none, got := some { ins := [1, -2], doubt := 1, gts := ⟨5,1⟩, epoch := 0, times := [[5]] } }
                 preempted := [] } }, by decide +kernel⟩,
   ⟨{ (live 5 5000000 |> lit [0x1400] |> cf (STP_SCFG.addr 7) STP_SCFG.EN 1 |> cf (STP_SCFG.addr 7) STP_SCFG.PRIO 3
          |> cf (STP_SCFG.addr 2) STP_SCFG.EN 1 |> cf (STP_SCFG.addr 2) STP_SCFG.PRIO 1 |> cf (STP_SCFG.addr 1)
          STP_SCFG.EN 1 |> cf (STP_SCFG.addr 1) STP_SCFG.PRIO 3 |> rf STP_CTL.addr STP_CTL.EN 1) with
           arrived := []
           stp := { Stp.reset with
                 waiting := []
                 running := some
                   { slot := 7, rule := none, got := some { ins := [1, -2], doubt := 1, gts := ⟨5,1⟩, epoch := 0, times := [[5]] } }
                 preempted := [] } }, by decide +kernel⟩,
   ⟨{ (live 5 5000000 |> lit [0x1400] |> cf (STP_SCFG.addr 7) STP_SCFG.EN 1 |> cf (STP_SCFG.addr 7) STP_SCFG.PRIO 3
          |> cf (STP_SCFG.addr 2) STP_SCFG.EN 1 |> cf (STP_SCFG.addr 2) STP_SCFG.PRIO 1 |> cf (STP_SCFG.addr 1)
          STP_SCFG.EN 1 |> cf (STP_SCFG.addr 1) STP_SCFG.PRIO 3 |> rf STP_CTL.addr STP_CTL.EN 1) with
           arrived := []
           stp := { Stp.reset with waiting := [], running := none, preempted := [] } }, by decide +kernel⟩,
   ⟨{ (live 5 5000000 |> lit [0x1400] |> cf (STP_SCFG.addr 7) STP_SCFG.EN 1 |> cf (STP_SCFG.addr 7) STP_SCFG.PRIO 3
          |> cf (STP_SCFG.addr 2) STP_SCFG.EN 1 |> cf (STP_SCFG.addr 2) STP_SCFG.PRIO 1 |> cf (STP_SCFG.addr 1)
          STP_SCFG.EN 1 |> cf (STP_SCFG.addr 1) STP_SCFG.PRIO 3 |> rf STP_CTL.addr STP_CTL.EN 1) with
           arrived := []
           stp := { Stp.reset with waiting := [], running := none, preempted := [] } } |> rf (STP_SCFG.addr 7)
       STP_SCFG.EN 1, by decide +kernel⟩,
   ⟨{ (live 5 5000000 |> lit [0x1400] |> cf (STP_SCFG.addr 7) STP_SCFG.EN 1 |> cf (STP_SCFG.addr 7) STP_SCFG.PRIO 3
          |> cf (STP_SCFG.addr 2) STP_SCFG.EN 1 |> cf (STP_SCFG.addr 2) STP_SCFG.PRIO 1 |> cf (STP_SCFG.addr 1)
          STP_SCFG.EN 1 |> cf (STP_SCFG.addr 1) STP_SCFG.PRIO 3 |> rf STP_CTL.addr STP_CTL.EN 1) with
           arrived := []
           stp := { Stp.reset with waiting := [], running := none, preempted := [] } }, by decide +kernel⟩⟩

/-- States that meet the hypotheses of RingsHoldTheirRecords, clause by clause. -/
theorem witness_rings_hold_their_records :
    (∃ s : State, Reached s LOG_BCMD.addr ∧ (s.ring 0).staged = [Staged.lane (lrec 0), Staged.lane (lrec 3)] ∧
      s.rcfg 0 LOG_RCFG.EN = 1 ∧ s.rfmt 0 = 0 ∧ (s.ring 0).open_ = none ∧ (s.ring 0).segs.length < s.rsize 0 ∧
      s.isOn (bankOf (s.rbase 0 + (s.ring 0).nextPage)) = true) ∧
    (∃ s : State, Reached s LOG_BCMD.addr ∧ (s.ring 0).staged = [Staged.lane (lrec 0)] ∧ s.rcfg 0 LOG_RCFG.EN = 1 ∧
      (s.ring 0).open_ = some aSeg ∧ aSeg.fmt = 0 ∧ aSeg.epoch = (Staged.lane (lrec 0)).epoch ∧
      aSeg.used + 24 ≤ 4048 ∧ s.isOn (bankOf aSeg.page) = true) ∧
    (∃ s : State, Reached s LOG_BCMD.addr ∧ (s.ring 5).open_ = some aSeg ∧ 0 < aSeg.nrec ∧
      s.rcfg 5 LOG_RCFG.MAXAGE < 31 ∧ aSeg.base.t.toNat + 2 ^ (s.rcfg 5 LOG_RCFG.MAXAGE + 40) ≤ s.now.toNat) ∧
    (∃ s : State, Reached s LOG_BCMD.addr ∧
      (∀ (k : Fin 40),
         (decide (↑k < 32) && BitVec.getLsbD (2147483649 : Word) ↑k) = true → s.ringCheck
          (fun (k : Nat) => decide (k < 32) && BitVec.getLsbD (2147483649 : Word) k) ↑k = 0)) ∧
    (∃ s : State, Reached s LOG_BCMD.addr ∧
      (s.ringCheck (fun (k : Nat) => decide (k < 32) && BitVec.getLsbD (2147483648 : Word) k) 31 ≠ 0) ∧
      (∀ k < 31, (decide (↑k < 32) && BitVec.getLsbD (2147483648 : Word) ↑k) = false)) ∧
    (∃ s : State, Reached s LOG_BCMD.addr ∧ (s.ring 31).pending = true) ∧
    (∃ s : State, Reached s LOG_BCMD.addr ∧ s.seqOldest 31 ≤ 4 ∧ 4 ≤ s.seqNext 31) ∧
    (∃ s : State, Reached s LOG_BCMD.addr ∧ s.seqNext 31 < 6) :=
  ⟨⟨{ (live 5 5000 |> cf (LOG_RCFG.addr 0) LOG_RCFG.EN 1 |> cf (LOG_RBASE.addr 0) LOG_RBASE.PAGE 128 |> cf
          (LOG_RSIZE.addr 0) LOG_RSIZE.SEGS 4 |> lit [0x1604]) with
           rings := [(0,
                { BatchRing.reset with
                     staged := [.lane (lrec 0), .lane (lrec 3)]
                     segs := []
                     nextSseq := 5
                     nextPage := 3
                     markLost := true })]
           time := { (live 5 0).time with acc := 0x7000000000000000000 } }, by decide +kernel⟩,
   ⟨{ (live 5 5000 |> cf (LOG_RCFG.addr 0) LOG_RCFG.EN 1 |> cf (LOG_RBASE.addr 0) LOG_RBASE.PAGE 128 |> cf
          (LOG_RSIZE.addr 0) LOG_RSIZE.SEGS 4 |> lit [0x1604]) with
           rings := [(0,
                { BatchRing.reset with
                     staged := [.lane (lrec 0)]
                     segs := [{ page := 130, sseq := 4, epoch := 0, fmt := 0, kt := 0, kv := 0, base := ⟨3,1⟩,
                                nrec := 2, used := 48, closed := false, aged := false, cut := false, lost := false,
                                flushed := false, lastT := 5, ctx := [] }]
                     nextSseq := 5
                     nextPage := 3 })]
           time := { (live 5 0).time with acc := 0x7000000000000000000 } }, by decide +kernel⟩,
   ⟨{ (live 5 5000 |> cf (LOG_RCFG.addr 5) LOG_RCFG.EN 1 |> cf (LOG_RBASE.addr 5) LOG_RBASE.PAGE 128 |> cf
          (LOG_RSIZE.addr 5) LOG_RSIZE.SEGS 4 |> cf (LOG_RCFG.addr 5) LOG_RCFG.MAXAGE 2 |> cf (LOG_RCFG.addr 5)
          LOG_RCFG.LOGEN 0 |> lit [0x1604]) with
           rings := [(5,
                { BatchRing.reset with
                     staged := []
                     segs := [{ page := 130, sseq := 4, epoch := 0, fmt := 0, kt := 0, kv := 0, base := ⟨3,1⟩,
                                nrec := 2, used := 48, closed := false, aged := false, cut := false, lost := false,
                                flushed := false, lastT := 5, ctx := [] }]
                     nextSseq := 5
                     nextPage := 3 })]
           time := { (live 5 0).time with acc := 0x7000000000000000000 } }, by decide +kernel⟩,
   ⟨live 5 5000 |> rf (LOG_RCFG.addr 31) LOG_RCFG.EN 1 |> rf (LOG_RBASE.addr 31) LOG_RBASE.PAGE 128 |> rf
       (LOG_RSIZE.addr 31) LOG_RSIZE.SEGS 4, by decide +kernel⟩,
   ⟨live 5 5000 |> rf (LOG_RCFG.addr 31) LOG_RCFG.EN 1 |> rf (LOG_RBASE.addr 31) LOG_RBASE.PAGE 128 |> rf
       (LOG_RSIZE.addr 31) LOG_RSIZE.SEGS 1, by decide +kernel⟩,
   ⟨{ (live 5 5000 |> pf (LOG_RCFG.addr 31) LOG_RCFG.EN 1 |> pf (LOG_RBASE.addr 31) LOG_RBASE.PAGE 128 |> cf
          (LOG_RBASE.addr 31) LOG_RBASE.PAGE 128) with
           rings := [(31,
                { BatchRing.reset with
                     pending := true
                     segs := [{ page := 130, sseq := 4, epoch := 0, fmt := 0, kt := 0, kv := 0, base := ⟨3,1⟩,
                                nrec := 2, used := 48, closed := false, aged := false, cut := false, lost := false,
                                flushed := false, lastT := 5, ctx := [] }] })] }, by decide +kernel⟩,
   ⟨{ (live 5 5000 |> cf (LOG_RCFG.addr 31) LOG_RCFG.EN 1 |> cf (LOG_RBASE.addr 31) LOG_RBASE.PAGE 128 |> cf
          (LOG_RSIZE.addr 31) LOG_RSIZE.SEGS 4 |> lit [0x1604]) with
           rings := [(31,
                { BatchRing.reset with
                     staged := []
                     segs := [{ page := 130, sseq := 4, epoch := 0, fmt := 0, kt := 0, kv := 0, base := ⟨3,1⟩,
                                nrec := 2, used := 48, closed := false, aged := false, cut := false, lost := false,
                                flushed := false, lastT := 5, ctx := [] }]
                     nextSseq := 5
                     nextPage := 3 })]
           time := { (live 5 0).time with acc := 0x7000000000000000000 } }, by decide +kernel⟩,
   ⟨{ (live 5 5000 |> cf (LOG_RCFG.addr 31) LOG_RCFG.EN 1 |> cf (LOG_RBASE.addr 31) LOG_RBASE.PAGE 128 |> cf
          (LOG_RSIZE.addr 31) LOG_RSIZE.SEGS 4 |> lit [0x1604]) with
           rings := [(31,
                { BatchRing.reset with
                     staged := []
                     segs := [{ page := 130, sseq := 4, epoch := 0, fmt := 0, kt := 0, kv := 0, base := ⟨3,1⟩,
                                nrec := 2, used := 48, closed := false, aged := false, cut := false, lost := false,
                                flushed := false, lastT := 5, ctx := [] }]
                     nextSseq := 5
                     nextPage := 3 })]
           time := { (live 5 0).time with acc := 0x7000000000000000000 } }, by decide +kernel⟩⟩

/-- States that meet the hypotheses of BatchesOpenAndClose, clause by clause. -/
theorem witness_batches_open_and_close :
    (∃ s : State, Reached s LOG_BCMD.addr ∧ (s.handle 255).st = BatchState.free) ∧
    (∃ s : State, Reached s LOG_BCMD.addr ∧ (s.handle 255).st ≠ BatchState.free) ∧
    (∃ s : State, Reached s LOG_BCMD.addr ∧ (s.handle 255).st = BatchState.armed) ∧
    (∃ s : State, Reached s LOG_BCMD.addr ∧ (s.handle 255).st = BatchState.opened) ∧
    (∃ s : State, Reached s LOG_BCMD.addr ∧ (s.handle 255).st ≠ BatchState.free) ∧
    (∃ s : State, Reached s LOG_BCMD.addr ∧ s.arrived = [Packet.bopen 255 254 at5, Packet.modeRequest 2 at5] ∧
      (s.handle 255).st = BatchState.armed) ∧
    (∃ s : State, Reached s LOG_BCMD.addr ∧ s.arrived = [Packet.bclose 255 254 at5] ∧
      (s.handle 255).st = BatchState.opened) ∧
    (∃ s : State, Reached s LOG_BCMD.addr ∧ s.arrived = [Packet.bopen 255 254 at5] ∧ (s.handle 255).st = BatchState.free) :=
  ⟨⟨{ { (live 5 5000 |> cf (LOG_RCFG.addr 5) LOG_RCFG.EN 1 |> cf (LOG_RBASE.addr 5) LOG_RBASE.PAGE 128 |> cf
            (LOG_RSIZE.addr 5) LOG_RSIZE.SEGS 4 |> cf (LOG_RCFG.addr 5) LOG_RCFG.PRE 2 |> lit [0x1604]) with
             rings := [(5,
                  { BatchRing.reset with
                       staged := []
                       segs := [{ page := 130, sseq := 4, epoch := 0, fmt := 0, kt := 0, kv := 0, base := ⟨3,1⟩,
                                  nrec := 2, used := 48, closed := false, aged := false, cut := false, lost := false,
                                  flushed := false, lastT := 5, ctx := [] }]
                       nextSseq := 5
                       nextPage := 3 })]
             time := { (live 5 0).time with acc := 0x7000000000000000000 } } with
           handles := [(255, { st := .free, ring := 5, first := 4, segs := 0 })] }, by decide +kernel⟩,
   ⟨{ { (live 5 5000 |> cf (LOG_RCFG.addr 5) LOG_RCFG.EN 1 |> cf (LOG_RBASE.addr 5) LOG_RBASE.PAGE 128 |> cf
            (LOG_RSIZE.addr 5) LOG_RSIZE.SEGS 4 |> cf (LOG_RCFG.addr 5) LOG_RCFG.PRE 2 |> lit [0x1604]) with
             rings := [(5,
                  { BatchRing.reset with
                       staged := []
                       segs := [{ page := 130, sseq := 4, epoch := 0, fmt := 0, kt := 0, kv := 0, base := ⟨3,1⟩,
                                  nrec := 2, used := 48, closed := false, aged := false, cut := false, lost := false,
                                  flushed := false, lastT := 5, ctx := [] }]
                       nextSseq := 5
                       nextPage := 3 })]
             time := { (live 5 0).time with acc := 0x7000000000000000000 } } with
           handles := [(255, { st := .armed, ring := 5, first := 4, segs := 0 })] }, by decide +kernel⟩,
   ⟨{ { (live 5 5000 |> cf (LOG_RCFG.addr 5) LOG_RCFG.EN 1 |> cf (LOG_RBASE.addr 5) LOG_RBASE.PAGE 128 |> cf
            (LOG_RSIZE.addr 5) LOG_RSIZE.SEGS 4 |> cf (LOG_RCFG.addr 5) LOG_RCFG.PRE 2 |> lit [0x1604]) with
             rings := [(5,
                  { BatchRing.reset with
                       staged := []
                       segs := [{ page := 130, sseq := 4, epoch := 0, fmt := 0, kt := 0, kv := 0, base := ⟨3,1⟩,
                                  nrec := 2, used := 48, closed := false, aged := false, cut := false, lost := false,
                                  flushed := false, lastT := 5, ctx := [] }]
                       nextSseq := 5
                       nextPage := 3 })]
             time := { (live 5 0).time with acc := 0x7000000000000000000 } } with
           handles := [(255, { st := .armed, ring := 5, first := 4, segs := 0 })] }, by decide +kernel⟩,
   ⟨{ { (live 5 5000 |> cf (LOG_RCFG.addr 5) LOG_RCFG.EN 1 |> cf (LOG_RBASE.addr 5) LOG_RBASE.PAGE 128 |> cf
            (LOG_RSIZE.addr 5) LOG_RSIZE.SEGS 4 |> cf (LOG_RCFG.addr 5) LOG_RCFG.PRE 2 |> lit [0x1604]) with
             rings := [(5,
                  { BatchRing.reset with
                       staged := []
                       segs := [{ page := 130, sseq := 4, epoch := 0, fmt := 0, kt := 0, kv := 0, base := ⟨3,1⟩,
                                  nrec := 2, used := 48, closed := false, aged := false, cut := false, lost := false,
                                  flushed := false, lastT := 5, ctx := [] }]
                       nextSseq := 5
                       nextPage := 3 })]
             time := { (live 5 0).time with acc := 0x7000000000000000000 } } with
           handles := [(255, { st := .opened, ring := 5, first := 4, segs := 0 })] }, by decide +kernel⟩,
   ⟨{ { (live 5 5000 |> cf (LOG_RCFG.addr 5) LOG_RCFG.EN 1 |> cf (LOG_RBASE.addr 5) LOG_RBASE.PAGE 128 |> cf
            (LOG_RSIZE.addr 5) LOG_RSIZE.SEGS 4 |> cf (LOG_RCFG.addr 5) LOG_RCFG.PRE 2 |> lit [0x1604]) with
             rings := [(5,
                  { BatchRing.reset with
                       staged := []
                       segs := [{ page := 130, sseq := 4, epoch := 0, fmt := 0, kt := 0, kv := 0, base := ⟨3,1⟩,
                                  nrec := 2, used := 48, closed := false, aged := false, cut := false, lost := false,
                                  flushed := false, lastT := 5, ctx := [] }]
                       nextSseq := 5
                       nextPage := 3 })]
             time := { (live 5 0).time with acc := 0x7000000000000000000 } } with
           handles := [(255, { st := .closed, ring := 5, first := 4, segs := 0 })] }, by decide +kernel⟩,
   ⟨{ { (live 5 5000 |> cf (LOG_RCFG.addr 5) LOG_RCFG.EN 1 |> cf (LOG_RBASE.addr 5) LOG_RBASE.PAGE 128 |> cf
            (LOG_RSIZE.addr 5) LOG_RSIZE.SEGS 4 |> cf (LOG_RCFG.addr 5) LOG_RCFG.PRE 2 |> lit [0x1604]) with
             rings := [(5,
                  { BatchRing.reset with
                       staged := []
                       segs := [{ page := 130, sseq := 4, epoch := 0, fmt := 0, kt := 0, kv := 0, base := ⟨3,1⟩,
                                  nrec := 2, used := 48, closed := false, aged := false, cut := false, lost := false,
                                  flushed := false, lastT := 5, ctx := [] }]
                       nextSseq := 5
                       nextPage := 3 })]
             time := { (live 5 0).time with acc := 0x7000000000000000000 } } with
           handles := [(255, { st := .armed, ring := 5, first := 4, segs := 0 })]
           arrived := [.bopen 255 254 at5, .modeRequest 2 at5] }, by decide +kernel⟩,
   ⟨{ { (live 5 5000 |> cf (LOG_RCFG.addr 5) LOG_RCFG.EN 1 |> cf (LOG_RBASE.addr 5) LOG_RBASE.PAGE 128 |> cf
            (LOG_RSIZE.addr 5) LOG_RSIZE.SEGS 4 |> cf (LOG_RCFG.addr 5) LOG_RCFG.PRE 2 |> lit [0x1604]) with
             rings := [(5,
                  { BatchRing.reset with
                       staged := []
                       segs := [{ page := 130, sseq := 4, epoch := 0, fmt := 0, kt := 0, kv := 0, base := ⟨3,1⟩,
                                  nrec := 2, used := 48, closed := false, aged := false, cut := false, lost := false,
                                  flushed := false, lastT := 5, ctx := [] }]
                       nextSseq := 5
                       nextPage := 3 })]
             time := { (live 5 0).time with acc := 0x7000000000000000000 } } with
           handles := [(255, { st := .opened, ring := 5, first := 4, segs := 0 })]
           arrived := [.bclose 255 254 at5] }, by decide +kernel⟩,
   ⟨{ { (live 5 5000 |> cf (LOG_RCFG.addr 5) LOG_RCFG.EN 1 |> cf (LOG_RBASE.addr 5) LOG_RBASE.PAGE 128 |> cf
            (LOG_RSIZE.addr 5) LOG_RSIZE.SEGS 4 |> cf (LOG_RCFG.addr 5) LOG_RCFG.PRE 2 |> lit [0x1604]) with
             rings := [(5,
                  { BatchRing.reset with
                       staged := []
                       segs := [{ page := 130, sseq := 4, epoch := 0, fmt := 0, kt := 0, kv := 0, base := ⟨3,1⟩,
                                  nrec := 2, used := 48, closed := false, aged := false, cut := false, lost := false,
                                  flushed := false, lastT := 5, ctx := [] }]
                       nextSseq := 5
                       nextPage := 3 })]
             time := { (live 5 0).time with acc := 0x7000000000000000000 } } with
           handles := [(255, { st := .free, ring := 5, first := 4, segs := 0 })]
           arrived := [.bopen 255 254 at5] }, by decide +kernel⟩⟩

/-- A package that flushes ring 31's segment 4 to clocked serial port 0 from a sector and block. -/
def flushes (blk sec : Nat) (f : Flusher) : State :=
  { (live 5 5000 |> rf LOG_CTL.addr LOG_CTL.FLEN 1 |> cf LOG_FSIZE.addr LOG_FSIZE.SECTORS 3 |> rf LOG_FHEAD.addr
        LOG_FHEAD.BLOCK blk |> rf LOG_FHEAD.addr LOG_FHEAD.SECTOR sec |> cf (LOG_RCFG.addr 31) LOG_RCFG.LOGEN 1 |>
        (fun s => s.setReg LOG_FLSN.addr 7) |> lit [0x1604, 0x2100]) with
      owner := [(unitKey 3 20, 0x1300)]
      rings := [(31,
        { BatchRing.reset with
          segs := [{ page := 130, sseq := 4, epoch := 0, fmt := 0, kt := 0, kv := 0, base := ⟨3,1⟩, nrec := 2, used := 48
                     closed := true, aged := false, cut := false, lost := false, flushed := false, lastT := 5, ctx := [] }]
          nextSseq := 5 })]
      flusher := { f with order := [(31, 4), (2, 9)] } }

/-- The same with a frame of LOG in progress. -/
def flushFrame (d len : Nat) (f : Flusher) : State :=
  { flushes 2 0 f |> cf (CSP_DCMD.addr 0 13) CSP_DCMD.DIR 1 |> cf (CSP_DCMD.addr 0 14) CSP_DCMD.DIR 1 |> lit [0x2402] with
      csp := [(0, { Csp.reset with job := some { user := .log, desc := d, addr := 0, len, buf := 0, at_ := 0, late := false
                                                 epoch := 0, since := 5, again := none } })] }

/-- A block whose CRC matches that of the page in flushes. -/
def readImage : List Byte := List.replicate 28 0 ++ leBytes 4 (crc32 (List.replicate 40 0)) ++ List.replicate 16 0

/-- States that meet the hypotheses of TheFlusherWritesTheLog, clause by clause. -/
theorem witness_the_flusher_writes_the_log :
    (∃ s : State, s.pwr.entry = none ∧ s.flusher.setPending = true ∧ s.flusher.task = none) ∧
    (∃ s : State, s.pwr.entry = none ∧ s.flushing = true ∧ s.flusher.task = none ∧ s.sectorReady = false ∧
      s.backlog ≠ []) ∧
    (∃ s : State, s.pwr.entry = none ∧ s.flushing = true ∧ s.flusher.task = none ∧ s.sectorReady = true ∧
      s.fblock < s.dataBlocks ∧ s.backlog = [(31, 4)] ∧ (s.segBySeq 31 4).isSome = true ∧ s.isOn (bankOf 130) = true) ∧
    (∃ s : State, s.pwr.entry = none ∧ (s.cspRunning 0).any (fun j => decide (j.user = .log ∧ j.desc = 13 ∧ j.len = 1)) = true ∧
      s.vioOk 2 = true ∧ (cspDesc s.cword 0 13).dir = 1 ∧
      (0 : BitVec 8).toNat &&& fget (cspDesc s.cword 0 13).poll CSP_DPOLL.MASK =
        fget (cspDesc s.cword 0 13).poll CSP_DPOLL.VAL ∧ s.flusher.frames = [] ∧ s.flusher.task = some .erase ∧
      s.flusher.fails = false) ∧
    (∃ s : State, s.pwr.entry = none ∧ (s.cspRunning 0).isSome = true ∧ s.vioOk 2 = true ∧ s.flusher.frames = [] ∧
      s.flusher.task = some (.program 31 4) ∧ s.flusher.fails = true ∧ s.flusher.retry = true) ∧
    (∃ s : State, s.pwr.entry = none ∧ (s.cspRunning 0).isSome = true ∧ s.vioOk 2 = true ∧ s.flusher.frames = [] ∧
      s.flusher.task = some .index ∧ s.flusher.fails = false ∧
      s.fsector + 1 ≠ s.cfld LOG_FSIZE.addr LOG_FSIZE.SECTORS) ∧
    (∃ s : State, s.pwr.entry = none ∧ (s.readEnds readImage).flusher.task = some (.readBack 31 4) ∧
      (s.readEnds readImage).flusher.got = some readImage ∧
      slice readImage 28 4 = (((s.readEnds readImage).segBySeq 31 4).map
        (fun g => slice ((s.readEnds readImage).logImage g) 28 4)).getD [] ∧
      blockCrc (slice readImage 0 48) (slice readImage 48 (usedOf readImage)) = leAt readImage 28 4) ∧
    (∃ s : State, s.pwr.entry = none ∧ (s.readEnds [1]).flusher.task = some (.readBack 31 4) ∧
      (s.readEnds [1]).flusher.got = some [1] ∧ (s.readEnds [1]).flusher.retry = false ∧
      blockCrc (slice [1] 0 48) (slice [1] 48 (usedOf [1])) ≠ leAt [1] 28 4) ∧
    (∃ s : State, s.pwr.entry = none ∧ s.flushing = true ∧ s.flusher.task = none ∧ s.fblock = s.dataBlocks) ∧
    (∃ s : State, s.pwr.entry = none ∧ s.fld LOG_CTL.addr LOG_CTL.FLEN = 0 ∧ 4 ≤ s.dataBlocks) :=
  ⟨⟨{ live 5 5000 with flusher := { Flusher.reset with setPending := true, erased := some 4 } }, by decide +kernel⟩,
   ⟨flushes 0 0 { Flusher.reset with erased := some 1 }, by decide +kernel⟩,
   ⟨flushes 0 0 { Flusher.reset with erased := some 0 }, by decide +kernel⟩,
   ⟨flushFrame 13 1 { Flusher.reset with task := some .erase }, by decide +kernel⟩,
   ⟨flushFrame 13 1 { Flusher.reset with task := some (.program 31 4), fails := true, retry := true }, by decide +kernel⟩,
   ⟨flushFrame 13 1 { Flusher.reset with task := some .index }, by decide +kernel⟩,
   ⟨{ flushFrame 14 48 { Flusher.reset with task := some (.readBack 31 4) } with
        mem := memWriteBytes [] (130 * 4096 + 28) (leBytes 4 (crc32 (List.replicate 40 0))) }, by decide +kernel⟩,
   ⟨flushFrame 14 1 { Flusher.reset with task := some (.readBack 31 4) }, by decide +kernel⟩,
   ⟨flushes 15 2 { Flusher.reset with erased := some 2 }, by decide +kernel⟩,
   ⟨live 5 1000 |> lit [0x1604], by decide +kernel⟩⟩

/-- States that meet the hypotheses of WindowsWalkTheirTables, clause by clause. -/
theorem witness_windows_walk_their_tables :
    (∃ s : State, Reached s HWU_COMMIT.addr ∧ 1 < s.wpages 3 ∧ (∀ x ∈ Tab.get [] s.hwuCache 3, x.1 ≠ 1) ∧
      s.wtable 3 + 0 < 8388608 ∧ BitVec.getLsbD (memReadWord s.mem (s.wtable 3 + 0)) 0 = true ∧
      BitVec.toNat (memReadWord s.mem (s.wtable 3 + 0)) / 4096 * 4096 + 4 < 8388608 ∧
      BitVec.getLsbD (memReadWord s.mem (BitVec.toNat (memReadWord s.mem (s.wtable 3 + 0)) / 4096 * 4096 + 4)) 0 =
        true ∧
      BitVec.toNat (memReadWord s.mem (BitVec.toNat (memReadWord s.mem (s.wtable 3 + 0)) / 4096 * 4096 + 4)) / 4096 *
        4096 < 8388608 ∧
      s.isOn (bankAt (s.wtable 3 + 0)) = true ∧
      s.isOn (bankAt (BitVec.toNat (memReadWord s.mem (s.wtable 3 + 0)) / 4096 * 4096 + 4)) = true ∧
      s.isOn (bankAt (BitVec.toNat
        (memReadWord s.mem (BitVec.toNat (memReadWord s.mem (s.wtable 3 + 0)) / 4096 * 4096 + 4)) / 4096 * 4096)) =
          true) ∧
    (∃ s : State, Reached s HWU_COMMIT.addr ∧ s.wpages 3 ≤ 1) ∧
    (∃ s : State, Reached s HWU_COMMIT.addr ∧ s.served = true ∧ s.fld (HWU_FAULT.addr 3) HWU_FAULT.VALID = 1 ∧
      (s.port 3).session = none) ∧
    (∃ s : State, Reached s HWU_COMMIT.addr ∧ s.served = true ∧ s.fld (HWU_FAULT.addr 3) HWU_FAULT.VALID = 1) ∧
    (∃ s : State, Reached s HWU_COMMIT.addr) :=
  ⟨⟨{ (live 5 5000 |> cf (HWU_TBASE.addr 3) HWU_TBASE.ADDR 0x40 |> cf (HWU_WSIZE.addr 3) HWU_WSIZE.PAGES 2 |> lit
          [0x1600]) with
           mem := [(0x1000,1),(0x1001,0x20),(0x2004,5),(0x2005,0x30),(0x3010,0xAB)] }, by decide +kernel⟩,
   ⟨{ (live 5 5000 |> cf (HWU_TBASE.addr 3) HWU_TBASE.ADDR 0x40 |> cf (HWU_WSIZE.addr 3) HWU_WSIZE.PAGES 0 |> lit
          [0x1600]) with
           mem := [(0x1000,1),(0x1001,0x20),(0x2004,5),(0x2005,0x30),(0x3010,0xAB)] }, by decide +kernel⟩,
   ⟨{ (live 5 5000 |> cf (HWU_TBASE.addr 3) HWU_TBASE.ADDR 0x40 |> cf (HWU_WSIZE.addr 3) HWU_WSIZE.PAGES 1 |> lit
          [0x1600] |> rf (HWU_FAULT.addr 3) HWU_FAULT.VALID 1 |> rf (HWU_FAULT.addr 3) HWU_FAULT.CODE 1) with
           mem := [(0x1000,1),(0x1001,0x20),(0x2004,5),(0x2005,0x30),(0x3010,0xAB)] }, by decide +kernel⟩,
   ⟨{ (live 5 5000 |> cf (HWU_TBASE.addr 3) HWU_TBASE.ADDR 0x40 |> cf (HWU_WSIZE.addr 3) HWU_WSIZE.PAGES 1 |> lit
          [0x1600] |> rf (HWU_FAULT.addr 3) HWU_FAULT.VALID 1 |> rf (HWU_FAULT.addr 3) HWU_FAULT.CODE 1) with
           mem := [(0x1000,1),(0x1001,0x20),(0x2004,5),(0x2005,0x30),(0x3010,0xAB)] }, by decide +kernel⟩,
   ⟨{ { (live 5 5000 |> cf (HWU_TBASE.addr 3) HWU_TBASE.ADDR 0x40 |> cf (HWU_WSIZE.addr 3) HWU_WSIZE.PAGES 5 |> lit
            [0x1600] |> rf (HWU_TBASE.addr 3) HWU_TBASE.ADDR 7) with
             mem := [(0x1000,1),(0x1001,0x20),(0x2004,5),(0x2005,0x30),(0x3010,0xAB)] } with
           hwuCache := [(3, [(5, 6)])] }, by decide +kernel⟩⟩

/-- A state whose sense block is x. -/
def sensing (x : Sense) (s : State) : State := { s with sense := x }
/-- A sense block whose link is trained. -/
def linked : Sense := { Sense.reset with wanted := true, trained := true, everTrained := true }
/-- A live state with the sense block on and its die supplied. -/
def packed : State := live 5 5000000 |> rf PWR_SUPPLY.addr PWR_SUPPLY.PACKOK 1 |> lit [0x1500]
/-- A CFG frame for the witnesses. -/
def aCfgFrame : SnsFrame := { data := .cfg SNS_OWCFG.addr 5, fails := 2 }
/-- A measurement command of an SNS port. -/
def aMeas : Sent := { entry := 3, cmd := 0, lanes := 0x8001, at_ := 0, due := 0, opens := 0 }

/-- States that meet the hypotheses of TheSenseDieMeasures, clause by clause. -/
theorem witness_the_sense_die_measures :
    (∃ s : State, s.pwr.entry = none ∧ s.isOn 0x1500 = true ∧ s.sense.wanted = true ∧ s.sense.trained = false ∧
      s.fld PWR_SUPPLY.addr PWR_SUPPLY.PACKOK = 1) ∧
    (∃ s : State, s.pwr.entry = none ∧ s.isOn 0x1500 = true ∧ s.sense.down = true ∧ s.sense.downAt + 1000000 ≤ s.el ∧
      s.fld PWR_SUPPLY.addr PWR_SUPPLY.PACKOK = 1) ∧
    (∃ s : State, s.pwr.entry = none ∧ s.isOn 0x1500 = true ∧ s.linkUp = true ∧ s.sense.toDie = [aCfgFrame] ∧
      aCfgFrame.sent = true ∧ s.startNear 759 = false ∧ s.startNear 1000 = false ∧ aCfgFrame.fails < 3 ∧
      aCfgFrame.data = .cfg SNS_OWCFG.addr 5) ∧
    (∃ s : State, s.pwr.entry = none ∧ s.isOn 0x1500 = true ∧ s.linkUp = true ∧
      s.sense.toDie = [{ aCfgFrame with fails := 3 }] ∧ s.startNear 1000 = false) ∧
    (∃ s : State, s.pwr.entry = none ∧ s.isOn 0x1500 = true ∧ s.linkUp = true ∧ s.startNear 1000 = false ∧
      s.sense.latAt = some 0 ∧ 0 + 1000000000 ≤ s.el) ∧
    (∃ s : State, s.pwr.entry = none ∧ s.isOn 0x1500 = true ∧ s.linkUp = true ∧ s.sense.toDie = [aCfgFrame] ∧
      s.portWait 29 = [(31, aMeas)] ∧ s.portWait 30 = [] ∧ aMeas.at_ ≤ addNs s.now (s.linkNs + 1) ∧
      isOwTest aMeas.cmd = false ∧ s.cellBusy = false ∧ s.undelivered = [3, 4]) ∧
    (∃ s : State, s.pwr.entry = none ∧ s.isOn 0x1500 = true ∧ s.linkUp = true ∧ s.sense.toDie = [] ∧
      s.portWait 31 = [(30, aMeas)] ∧ aMeas.at_ ≤ addNs s.now (s.linkNs + 1) ∧
      isOwTest aMeas.cmd = false ∧ s.sense.thermWin = none ∧ s.sense.thermFree ≤ s.el) ∧
    (∃ s : State, s.pwr.entry = none ∧ s.isOn 0x1500 = true ∧ s.linkUp = true ∧ s.sense.cellWin = some aSnsWin2 ∧
      aSnsWin2.since + aSnsWin2.len ≤ s.el) ∧
    (∃ s : State, s.pwr.entry = none ∧ s.isOn 0x1500 = true ∧ s.linkUp = true ∧ s.sense.thermWin = some aSnsWin ∧
      aSnsWin.since + aSnsWin.len ≤ s.el) ∧
    (∃ s : State, s.pwr.entry = none ∧ s.isOn 0x1500 = true ∧ s.linkUp = true ∧
      s.sense.toCore = [{ data := .result aSnsResult }] ∧ s.startNear 759 = false ∧
      aSnsResult.cmds = [{ port := 29, tile := 31, lanes := 0x8001 }] ∧ aSnsResult.skip = false ∧
      channelCell aSnsResult.port aSnsResult.chan = some 3 ∧ aSnsResult.est = true ∧
      s.cfld SNS_ESTCFG.addr SNS_ESTCFG.EN = 1 ∧ aSnsResult.ow = false ∧ Tab.find s.sense.cells 3 = none ∧
      s.cfld (TILE_LSRC.addr 31 15) TILE_LSRC.EN = 1 ∧ s.cfld (TILE_LSRC.addr 31 15) TILE_LSRC.SEL = 3) ∧
    (∃ s : State, s.pwr.entry = none ∧ s.isOn 0x1500 = true ∧ s.linkUp = true ∧
      s.sense.toCore = [{ data := .result { aSnsResult with skip := true } }] ∧ s.startNear 759 = false) :=
  ⟨⟨packed |> sensing { Sense.reset with wanted := true }, by decide +kernel⟩,
   ⟨packed |> sensing { linked with down := true, downAt := 5, wires := [(3, { st := 2, run := 1, tested := true })] },
      by decide +kernel⟩,
   ⟨packed |> sensing { linked with toDie := [aCfgFrame] }, by decide +kernel⟩,
   ⟨packed |> sensing { linked with toDie := [{ aCfgFrame with fails := 3 }] }, by decide +kernel⟩,
   ⟨{ packed with el := 1000000000 } |> sensing { linked with latAt := some 0 }, by decide +kernel⟩,
   ⟨{ packed with portQ := [(29, [(31, aMeas)])] } |> sensing { linked with
        toDie := [aCfgFrame], wires := [(3, { st := 2, run := 1, tested := true })], ow := some aOwTest2 },
      by decide +kernel⟩,
   ⟨{ packed with portQ := [(31, [(30, aMeas)])] } |> sensing linked, by decide +kernel⟩,
   ⟨packed |> sensing { linked with cellWin := some aSnsWin2 }, by decide +kernel⟩,
   ⟨packed |> cf SNS_THCFG.addr SNS_THCFG.OPENTH 1 |> sensing { linked with thermWin := some aSnsWin },
      by decide +kernel⟩,
   ⟨packed |> cf SNS_ESTCFG.addr SNS_ESTCFG.EN 1 |> cf (TILE_LSRC.addr 31 15) TILE_LSRC.SEL 3 |>
        cf (TILE_LSRC.addr 31 15) TILE_LSRC.EN 1 |> sensing { linked with toCore := [{ data := .result aSnsResult }] },
      by decide +kernel⟩,
   ⟨packed |> sensing { linked with toCore := [{ data := .result { aSnsResult with skip := true } }] }, by decide +kernel⟩⟩

/-- States that meet the hypotheses of OpenWiresAreFound, clause by clause. -/
theorem witness_open_wires_are_found :
    (∃ s : State, Reached s SNS_COMMIT.addr ∧
      s.sense.ow = some { wire := 4, phase := OwPhase.waiting, since := 5, codesA := [1, 2, 3] : OwTest } ∧
      { wire := 4, phase := OwPhase.waiting, since := 5, codesA := [1, 2, 3] : OwTest }.phase = OwPhase.waiting) ∧
    (∃ s : State, Reached s SNS_COMMIT.addr ∧ s.sense.ow = some aOwTest3 ∧ aOwTest3.phase = OwPhase.windowA ∧
      aOwTest3.since + s.tow ≤ s.el) ∧
    (∃ s : State, Reached s SNS_COMMIT.addr ∧ s.sense.ow = some aOwTest ∧ aOwTest.phase = OwPhase.injecting ∧
      aOwTest.since + s.tinj ≤ s.el ∧ s.sense.pendOw = true ∧ s.sense.pendAt + s.tow ≤ aOwTest.since + s.tinj) ∧
    (∃ s : State, Reached s SNS_COMMIT.addr ∧ s.sense.ow = some aOwTest2 ∧ aOwTest2.phase = OwPhase.recovery ∧
      aOwTest2.since + s.cfld SNS_OWCFG.addr SNS_OWCFG.TREC * 100000 ≤ s.el) ∧
    (Reached (live 5 0) SNS_COMMIT.addr) ∧
    (∃ s : State, Reached s SNS_COMMIT.addr ∧ s.sense.toCore = [{ data := .verdict (0 : Fin 20) (1 : Fin 4) }] ∧
      s.linkUp = true ∧ s.startNear 759 = false) ∧
    (∃ s : State, Reached s SNS_COMMIT.addr ∧ fget (fset 0 SNS_COMMIT.GO 1) SNS_COMMIT.GO = 1 ∧ s.socRising = true) ∧
    (Reached (live 5 5) SNS_COMMIT.addr ∧ fget (fset 0 SNS_COMMIT.GO 1) SNS_COMMIT.GO = 1 ∧
      (live 5 5).socRising = false) ∧
    (∃ s : State, Reached s SNS_COMMIT.addr) ∧
    (Reached (live 5 5) SNS_COMMIT.addr) :=
  ⟨⟨{ (live 5 5000000000 |> lit [0x1500]) with
           sense := { Sense.reset with
                 trained := true
                 ow := some { wire := 4, phase := .waiting, since := 5, codesA := [1,2,3] } } }, by decide +kernel⟩,
   ⟨{ (live 5 5000000000 |> lit [0x1500]) with
           sense := { Sense.reset with
                 trained := true
                 ow := some { wire := 4, phase := .windowA, since := 5, codesA := [1,2,3] } } }, by decide +kernel⟩,
   ⟨{ (live 5 5000000000 |> lit [0x1500]) with
           sense := { Sense.reset with
                 trained := true
                 pendOw := true
                 ow := some { wire := 4, phase := .injecting, since := 5, codesA := [1,2,3] } } }, by decide +kernel⟩,
   ⟨{ (live 5 5000000000 |> lit [0x1500]) with
           sense := { Sense.reset with
                 trained := true
                 ow := some { wire := 4, phase := .recovery, since := 5, codesA := [1,2,3] } } }, by decide +kernel⟩,
   by decide +kernel,
   ⟨{ (live 5 5000000000 |> lit [0x1500]) with
           sense := { linked with toCore := [{ data := .verdict 0 1 }] } }, by decide +kernel⟩,
   ⟨(List.range 17).foldl (fun s j => s.setReg (SNS_SOCT.addr j) (BitVec.ofNat 32 j)) (live 5 5), by decide +kernel⟩,
   by decide +kernel,
   ⟨live 5 5 |> (fun s => s.setReg SNS_OWRUN.addr 0xFFFF1234) |> (fun s => s.setReg SNS_OWFIX.addr 77),
      by decide +kernel⟩,
   by decide +kernel⟩

/-- An entry of WATCH from RECOGNIZE that host port 3 has accepted. -/
def entryFrom5 : Entry := { from_ := 5, to_ := 2, phase := .query, blocks := [(0x1103, .accepted)], saves := [] }

/-- States that meet the hypotheses of HostsReachTheirPorts, clause by clause. -/
theorem witness_hosts_reach_their_ports :
    (∃ s : State, s.hostReady 3 = true ∧ s.yielded 4355 = false ∧ (s.port 3).twoWire = false) ∧
    (∃ s : State, s.hostReady 3 = true ∧ s.yielded 4355 = false ∧ (s.port 3).twoWire = false ∧ s.fld (HP_CFG.addr 3) HP_CFG.DUMMY < 16) ∧
    (∃ s : State, s.hostReady 3 = true ∧ s.yielded 4355 = false ∧ (s.port 3).twoWire = false ∧ s.ringsUp 3 = true) ∧
    (∃ s : State, s.hostReady 3 = true ∧ s.yielded 4355 = false ∧ (s.port 3).twoWire = true ∧ 43 = s.twaddr 3) ∧
    (∃ s : State, s.hostReady 3 = true ∧ s.yielded 4355 = false) ∧
    (∃ s : State, s.hostReady 3 = true ∧ s.yielded 4355 = false ∧ s.served = true) ∧
    (∃ s : State, s.hostReady 3 = true ∧ s.yielded 4355 = false ∧ s.pwr.entry = none ∧ s.sup.descent = none ∧ s.pwr.hwake.getLsbD 3 = false ∧
      { s with pwr := { s.pwr with hwake := s.pwr.hwake ||| 8 : Pwr } : State }.target = s.mode) ∧
    (∃ s : State, s.hostReady 3 = true ∧ s.yielded 4355 = false ∧ s.pwr.entry = none ∧ s.sup.descent = none ∧
      { s with pwr := { s.pwr with hwake := s.pwr.hwake &&& 7 : Pwr } : State }.target = s.mode) ∧
    (∃ s : State, ∃ e, s.hostReady 3 = true ∧ s.pwr.entry = some e ∧ e.phase ≠ .powerDown ∧ s.yielded 4355 = true) :=
  ⟨⟨{ (live 5 5000 |> lit [0x163D, 0x163E, 0x163F]) with ports := [(3, Port.reset)] }, by decide +kernel⟩,
   ⟨{ (live 5 5000 |> lit [0x163D, 0x163E, 0x163F] |> rf (HP_CFG.addr 3) HP_CFG.DUMMY 0) with
           ports := [(3, Port.reset)] }, by decide +kernel⟩,
   ⟨{ (live 5 5000 |> lit [0x163D, 0x163E, 0x163F] |> rf (HP_STATUS.addr 3) HP_STATUS.RINGS 1 |>
           (fun s => s.setReg (HP_INBASE.addr 3) 0x7B7000)) with
           ports := [(3, Port.reset)] }, by decide +kernel⟩,
   ⟨{ (live 5 5000 |> lit [0x163D, 0x163E, 0x163F]) with ports := [(3, { Port.reset with twoWire := true })] },
      by decide +kernel⟩,
   ⟨{ (live 5 5000 |> lit [0x163D, 0x163E, 0x163F]) with ports := [(3, Port.reset)] }, by decide +kernel⟩,
   ⟨{ (live 5 5000 |> lit [0x163D, 0x163E, 0x163F]) with ports := [(3, Port.reset)] }, by decide +kernel⟩,
   ⟨{ (live 5 5000 |> lit [0x163D, 0x163E, 0x163F] |> rf PWR_BASE.addr PWR_BASE.MODE 5) with
           ports := [(3, { Port.reset with session := some 0x21 })] }, by decide +kernel⟩,
   ⟨{ (live 5 5000 |> lit [0x163D, 0x163E, 0x163F] |> rf PWR_BASE.addr PWR_BASE.MODE 5) with
           ports := [(3, { Port.reset with session := some 0x21 })] }, by decide +kernel⟩,
   ⟨{ (live 5 5000) with pwr := { (live 5 0).pwr with entry := some entryFrom5 } }, entryFrom5, by decide +kernel⟩⟩

/-- The host ports at work with Topcoat running: port 3 as given, its turn next. -/
def portUp (p : Port) : State :=
  { (live 5 5000 |> lit [0x1700, 0x163D, 0x163E, 0x163F, 0x1200] |> rf (HP_STATUS.addr 3) HP_STATUS.RINGS 1 |>
      rf (HP_INPROD.addr 3) HP_INPROD.SEQ 1) with ports := [(3, p)], ohp := { Ohp.reset with running := true, turn := 3 } }
/-- Port 3 with a session of version 2.1, its subscriptions and what it has taken. -/
def sess (subs : Word) (l : List Msg) : Port := { Port.reset with session := some 0x21, subs := subs, taken := l }
/-- The state with port 3's outbound ring full. -/
def ringFull (s : State) : State := rf (HP_OUTPROD.addr 3) HP_OUTPROD.SEQ 60 s
/-- The state with a slot in port 3's inbound ring. -/
def slotIn (b : List Byte) (s : State) : State :=
  { s with mem := memWriteBytes s.mem (inRing 3 + 64 * 1) (b ++ List.replicate (64 - b.length) 0) }
/-- What one copy for a port asks of a state, clause by clause. -/
abbrev copies (s : State) (sub : Bool) : Prop :=
  sub = true ∧ (s.port 3).outWait = [] ∧ s.room 3 false = false ∧ (s.port 3).evq.length < 256

/-- States that meet the hypotheses of MessagesAreTakenAndAnswered on slots, clause by clause. -/
theorem witness_messages_are_taken_and_answered_slots :
    (∃ s : State, s.ohp.turn < 4 ∧ s.heldAbort = none ∧ s.takeable s.ohp.turn = true ∧ (s.port s.ohp.turn).session.isSome = true ∧
      leAt (s.load (inRing s.ohp.turn + 64 * ((s.fld (HP_INACK.addr s.ohp.turn) HP_INACK.SEQ + 1) % 65536 % 32)) 64)
        0 2 = (s.fld (HP_INACK.addr s.ohp.turn) HP_INACK.SEQ + 1) % 65536 ∧ (s.port s.ohp.turn).assembly = none ∧
      (s.port s.ohp.turn).resync = false ∧ (s.port s.ohp.turn).taken = [hmsg 3 [0] []] ∧
      s.refusalOf s.ohp.turn (hmsg 3 [0] []) = 0 ∧
      leAt (s.load (inRing s.ohp.turn + 64 * ((s.fld (HP_INACK.addr s.ohp.turn) HP_INACK.SEQ + 1) % 65536 % 32)) 64)
        6 1 ≤ 56 ∧
      leAt (s.load (inRing s.ohp.turn + 64 * ((s.fld (HP_INACK.addr s.ohp.turn) HP_INACK.SEQ + 1) % 65536 % 32)) 64)
        7 1 = 0) ∧
    (∃ s : State, s.ohp.turn < 4 ∧ s.heldAbort = none ∧ s.takeable s.ohp.turn = true ∧ (s.port s.ohp.turn).session.isSome = true ∧
      leAt (s.load (inRing s.ohp.turn + 64 * ((s.fld (HP_INACK.addr s.ohp.turn) HP_INACK.SEQ + 1) % 65536 % 32)) 64)
        0 2 ≠ (s.fld (HP_INACK.addr s.ohp.turn) HP_INACK.SEQ + 1) % 65536) ∧
    (∃ s : State, s.ohp.turn < 4 ∧ s.heldAbort = none ∧ s.takeable s.ohp.turn = true ∧ (s.port s.ohp.turn).session = none ∧
      (s.port s.ohp.turn).announced.head? = some 1) ∧
    (∃ s : State, (s.port 3).outWait = [] ∧ s.room 3 true = true) ∧ (∃ s : State, s.heldAbort = some 3) :=
  ⟨⟨slotIn [1, 0] (portUp (sess 0 [hmsg 3 [0] []])), by decide +kernel⟩,
   ⟨slotIn [2, 0] (portUp (sess 0 [])), by decide +kernel⟩,
   ⟨portUp { Port.reset with announced := [1] }, by decide +kernel⟩,
   ⟨portUp (sess 0 []), by decide +kernel⟩,
   ⟨rf (HP_CTL.addr 3) HP_CTL.ABORT 1 (portUp (sess 0 [])), by decide +kernel⟩⟩

/-- The same on events, core messages and fault reports. -/
theorem witness_messages_are_taken_and_answered_events :
    (∃ s : State, s.served = true ∧ s.events = [erec 191] ∧ (erec 191).cause < 192 ∧
      copies s (s.subscribed 3 (subsBit (erec 191)))) ∧
    (∃ s : State, s.served = true ∧ s.events = [erec 240] ∧ 239 < (erec 240).cause ∧ (s.port 3).evq = [] ∧
      s.subscribed 3 (subsBit (erec 240)) = true ∧ (s.port 3).outWait = [] ∧ s.room 3 false = true) ∧
    (∃ s : State, s.served = true ∧ s.events = [erec 191] ∧ s.subscribed 3 (subsBit (erec 191)) = false) ∧
    (∃ s : State, s.served = true ∧ s.events = [erec 191] ∧ s.subscribed 3 (subsBit (erec 191)) = true ∧
      (s.port 3).outWait = [] ∧ s.room 3 false = false ∧ 256 ≤ (s.port 3).evq.length) ∧
    (∃ s : State, s.served = true ∧ s.events = [erec 192, erec 6] ∧ 192 ≤ (erec 192).cause ∧ (erec 192).cause ≤ 239 ∧
      s.sec.profile = none ∧ s.flxLed = false ∧ s.ohp.alarms.length < 64) ∧
    (∃ s : State, s.served = true ∧ s.events = [erec 192, erec 6] ∧ 192 ≤ (erec 192).cause ∧ (erec 192).cause ≤ 239 ∧
      s.sec.profile = none ∧ s.flxLed = false ∧ 64 ≤ s.ohp.alarms.length) ∧
    (∃ s : State, s.served = true ∧ (s.mailbox 0).send = true ∧
      copies s (s.subscribed 3 8 && decide (0x21 ≤ (s.port 3).session.getD 0))) ∧
    (∃ s : State, s.served = true ∧ (s.mailbox 0).send = true ∧ s.subscribed 3 8 = true ∧
      0x21 ≤ (s.port 3).session.getD 0 ∧ (s.port 3).outWait = [] ∧ (s.port 3).evq = [] ∧ s.room 3 false = true) ∧
    (∃ s : State, s.served = true ∧ s.faults = [aFaultRec] ∧ s.faultLost = 0 ∧ s.subscribed 3 24 = true ∧
      (s.port 3).outWait = [] ∧ s.room 3 false = true) ∧
    (∃ s : State, s.served = true ∧ s.faults = [aFaultRec] ∧ s.faultLost ≠ 0 ∧ s.subscribed 3 24 = true ∧
      (s.port 3).outWait = [] ∧ s.room 3 false = false) ∧
    (∃ s : State, s.served = true ∧ s.faults = [aFaultRec] ∧ s.subscribed 3 24 = false) :=
  ⟨⟨{ ringFull (portUp (sess 1 [])) with events := [erec 191] }, by decide +kernel⟩,
   ⟨{ portUp (sess 1 []) with events := [erec 240] }, by decide +kernel⟩,
   ⟨{ portUp (sess 0 []) with events := [erec 191] }, by decide +kernel⟩,
   ⟨{ ringFull (portUp { sess 1 [] with evq := List.replicate 256 (.record (erec 1)) }) with events := [erec 191] },
      by decide +kernel⟩,
   ⟨{ portUp (sess 1 []) with events := [erec 192, erec 6] }, by decide +kernel⟩,
   ⟨{ portUp (sess 1 []) with events := [erec 192, erec 6]
                              ohp := { Ohp.reset with running := true, alarms := List.range 64 } }, by decide +kernel⟩,
   ⟨{ ringFull (portUp (sess 0x100 [])) with mbx := [(0, { Mbx.reset with send := true, out := [(0, 0x1234)] })] },
      by decide +kernel⟩,
   ⟨{ portUp (sess 0x100 []) with mbx := [(0, { Mbx.reset with send := true, out := [(0, 0x1234)] })] }, by decide +kernel⟩,
   ⟨{ portUp (sess 0x01000000 []) with faults := [aFaultRec] }, by decide +kernel⟩,
   ⟨{ ringFull (portUp (sess 0x01000000 [])) with faults := [aFaultRec], faultLost := 2 }, by decide +kernel⟩,
   ⟨{ portUp (sess 0 []) with faults := [aFaultRec] }, by decide +kernel⟩⟩

/-- The journal of the state in which IDENTIFY is asked. -/
def aJournal3 : Journal :=
  { seq := 3, active := 1, trial := true, trials := 2, version := 7, floor := 2, scrub := 0, passday := 0 }

/-- The same on HELLO, IDENTIFY, STATE_REPORT, TIME_GET, TIME_SET and ALARM. -/
theorem witness_messages_are_taken_and_answered_requests :
    (∃ s : State, Serves s 3 (hmsg 1 [12] [32, 33, 0, 0, 1, 2, 3, 4, 5, 6, 7, 8]) ∧
      commonVersion s.ohp.recovery ((hmsg 1 [12] [32, 33, 0, 0, 1, 2, 3, 4, 5, 6, 7, 8]).at 0 1)
        ((hmsg 1 [12] [32, 33, 0, 0, 1, 2, 3, 4, 5, 6, 7, 8]).at 1 1) = some 0x21 ∧
      (hmsg 1 [12] [32, 33, 0, 0, 1, 2, 3, 4, 5, 6, 7, 8]).at 2 1 % 2 = 0) ∧
    (∃ s : State, Serves s 3 (hmsg 1 [12] [16, 16, 1, 0, 1, 2, 3, 4, 5, 6, 7, 8]) ∧
      commonVersion s.ohp.recovery ((hmsg 1 [12] [16, 16, 1, 0, 1, 2, 3, 4, 5, 6, 7, 8]).at 0 1)
        ((hmsg 1 [12] [16, 16, 1, 0, 1, 2, 3, 4, 5, 6, 7, 8]).at 1 1) = some 0x10 ∧
      (hmsg 1 [12] [16, 16, 1, 0, 1, 2, 3, 4, 5, 6, 7, 8]).at 2 1 % 2 = 1) ∧
    (∃ s : State, Serves s 3 (hmsg 1 [12] [34, 40, 0, 0, 1, 2, 3, 4, 5, 6, 7, 8]) ∧ s.ohp.recovery = false ∧
      commonVersion false ((hmsg 1 [12] [34, 40, 0, 0, 1, 2, 3, 4, 5, 6, 7, 8]).at 0 1)
        ((hmsg 1 [12] [34, 40, 0, 0, 1, 2, 3, 4, 5, 6, 7, 8]).at 1 1) = none) ∧
    (∃ s : State, Serves s 3 (hmsg 2 [0] []) ∧ s.journal = some aJournal3 ∧ s.ohp.recovery = false ∧
      (s.port 3).session = some 0x21) ∧
    (∃ s : State, Serves s 3 (hmsg 3 [0] [])) ∧ (∃ s : State, Serves s 3 (hmsg 17 [0] [])) ∧
    (∀ k ∈ [[0, 0], [1, 0], [2, 47], [2, 48], [3, 0]],
      let m := hmsg 16 [16] (k ++ [1, 0, 1, 2, 3, 4, 5, 1, 2, 3, 4, 5, 6, 7])
      Serves (portUp (sess 0 [m])) 3 m ∧ Tab.find (portUp (sess 0 [m])).time.claims 3 = none) ∧
    (∃ s : State, Serves s 3 (hmsg 16 [16] [1, 0, 1, 0, 1, 2, 3, 4, 5, 1, 2, 3, 4, 5, 6, 7]) ∧
      Tab.find s.time.claims 3 = some aClaim) ∧
    (∃ s : State, Serves s 3 (hmsg 65 [2] [7, 0]) ∧ (hmsg 65 [2] [7, 0]).at 0 2 ∈ s.ohp.alarms) ∧
    (∃ s : State, Serves s 3 (hmsg 65 [2] [7, 0]) ∧ (hmsg 65 [2] [7, 0]).at 0 2 ∉ s.ohp.alarms) :=
  ⟨⟨portUp (sess 0 [hmsg 1 [12] [32, 33, 0, 0, 1, 2, 3, 4, 5, 6, 7, 8]]), by decide +kernel⟩,
   ⟨portUp (sess 0 [hmsg 1 [12] [16, 16, 1, 0, 1, 2, 3, 4, 5, 6, 7, 8]]), by decide +kernel⟩,
   ⟨portUp (sess 0 [hmsg 1 [12] [34, 40, 0, 0, 1, 2, 3, 4, 5, 6, 7, 8]]), by decide +kernel⟩,
   ⟨(portUp (sess 0 [hmsg 2 [0] []])).store (journalBase 0) aJournal3.bytes, by decide +kernel⟩,
   ⟨portUp (sess 0 [hmsg 3 [0] []]), by decide +kernel⟩, ⟨portUp (sess 0 [hmsg 17 [0] []]), by decide +kernel⟩,
   by decide +kernel,
   ⟨{ portUp (sess 0 [hmsg 16 [16] [1, 0, 1, 0, 1, 2, 3, 4, 5, 1, 2, 3, 4, 5, 6, 7]]) with
      time := { (live 5 0).time with claims := [(3, aClaim)] } }, by decide +kernel⟩,
   ⟨{ portUp (sess 0 [hmsg 65 [2] [7, 0]]) with ohp := { Ohp.reset with running := true, alarms := [7] } },
      by decide +kernel⟩,
   ⟨portUp (sess 0 [hmsg 65 [2] [7, 0]]), by decide +kernel⟩⟩

/-- States that meet the hypotheses of MessagesConfigureThePart, clause by clause. -/
theorem witness_messages_configure_the_part :
    (∃ s : State, Serves s 3 (hmsg 18 [2] [5, 1]) ∧ (hmsg 18 [2] [5, 1]).op = 18 ∧
      (hmsg 18 [2] [5, 1]).at 0 1 = s.mode ∧ 4 ≤ s.mode ∧ s.mode < 8 ∧ (hmsg 18 [2] [5, 1]).at 1 1 = 1 ∧
      s.inTransition = false ∧ s.pwr.entry = none ∧ s.pwr.modeWaits = [] ∧
      ((s.setFld PWR_FLOOR.addr (PWR_FLOOR.HOLD 3) 1).setFld PWR_FLOOR.addr (PWR_FLOOR.MODE 3) s.mode).target =
        s.mode) ∧
    (∃ s : State, Serves s 3 (hmsg 80 [6] [31, 0, 0, 3, 1, 0]) ∧ (hmsg 80 [6] [31, 0, 0, 3, 1, 0]).op = 80 ∧
      (hmsg 80 [6] [31, 0, 0, 3, 1, 0]).at 2 1 = 0 ∧ (hmsg 80 [6] [31, 0, 0, 3, 1, 0]).at 4 2 = 1 ∧
      (hmsg 80 [6] [31, 0, 0, 3, 1, 0]).at 0 2 < classSize ((hmsg 80 [6] [31, 0, 0, 3, 1, 0]).at 3 1) ∧
      s.ownerOf ((hmsg 80 [6] [31, 0, 0, 3, 1, 0]).at 3 1) ((hmsg 80 [6] [31, 0, 0, 3, 1, 0]).at 0 2) = 0) ∧
    (∃ s : State, Serves s 3 (hmsg 81 [6] [31, 0, 0, 3, 1, 0]) ∧ (hmsg 81 [6] [31, 0, 0, 3, 1, 0]).op = 81 ∧
      (hmsg 81 [6] [31, 0, 0, 3, 1, 0]).at 2 1 = 0 ∧ (hmsg 81 [6] [31, 0, 0, 3, 1, 0]).at 4 2 = 1 ∧
      (hmsg 81 [6] [31, 0, 0, 3, 1, 0]).at 0 2 < classSize ((hmsg 81 [6] [31, 0, 0, 3, 1, 0]).at 3 1) ∧
      s.ownerOf ((hmsg 81 [6] [31, 0, 0, 3, 1, 0]).at 3 1) ((hmsg 81 [6] [31, 0, 0, 3, 1, 0]).at 0 2) = hostOwner 3) ∧
    (∃ s : State, Serves s 3 (hmsg 82 [8] [0, 5, 0, 0, 0, 0, 0, 0]) ∧ (hmsg 82 [8] [0, 5, 0, 0, 0, 0, 0, 0]).op = 82 ∧
      (hmsg 82 [8] [0, 5, 0, 0, 0, 0, 0, 0]).at 0 1 = 0) ∧
    (∃ s : State, Serves s 3 (hmsg 82 [8] [1, 5, 7, 0, 6, 0, 0, 0]) ∧ (hmsg 82 [8] [1, 5, 7, 0, 6, 0, 0, 0]).op = 82 ∧
      (hmsg 82 [8] [1, 5, 7, 0, 6, 0, 0, 0]).at 0 1 = 1 ∧
      s.notHeld 3 1 ((hmsg 82 [8] [1, 5, 7, 0, 6, 0, 0, 0]).at 2 1) = none ∧
      (hmsg 82 [8] [1, 5, 7, 0, 6, 0, 0, 0]).at 4 2 = (s.role ((hmsg 82 [8] [1, 5, 7, 0, 6, 0, 0, 0]).at 1 1)).epoch) ∧
    (∃ s : State, Serves s 3 (hmsg 82 [8] [2, 5, 7, 0, 6, 0, 0, 0]) ∧ (hmsg 82 [8] [2, 5, 7, 0, 6, 0, 0, 0]).op = 82 ∧
      (hmsg 82 [8] [2, 5, 7, 0, 6, 0, 0, 0]).at 0 1 = 2 ∧
      (hmsg 82 [8] [2, 5, 7, 0, 6, 0, 0, 0]).at 4 2 = (s.role ((hmsg 82 [8] [2, 5, 7, 0, 6, 0, 0, 0]).at 1 1)).epoch) ∧
    (∃ s : State, Serves s 3 (hmsg 32 [14] [11, 0, 0, 1, 0, 0, 0, 0, 0, 0, 255, 255, 255, 255]) ∧
      (hmsg 32 [14] [11, 0, 0, 1, 0, 0, 0, 0, 0, 0, 255, 255, 255, 255]).op = 32 ∧
      (hmsg 32 [14] [11, 0, 0, 1, 0, 0, 0, 0, 0, 0, 255, 255, 255, 255]).len = 14 ∧
      (hmsg 32 [14] [11, 0, 0, 1, 0, 0, 0, 0, 0, 0, 255, 255, 255, 255]).at 0 1 = 11 ∧
      (hmsg 32 [14] [11, 0, 0, 1, 0, 0, 0, 0, 0, 0, 255, 255, 255, 255]).at 1 1 = 0 ∧
      (hmsg 32 [14] [11, 0, 0, 1, 0, 0, 0, 0, 0, 0, 255, 255, 255, 255]).at 2 1 = 0 ∧
      (hmsg 32 [14] [11, 0, 0, 1, 0, 0, 0, 0, 0, 0, 255, 255, 255, 255]).at 8 2 = 0) ∧
    (∃ s : State, Serves s 3 (hmsg 33 [16] [31, 8, 0, 0, 0, 0, 0, 0, 136, 19, 0, 0, 0, 0, 0, 0]) ∧
      (hmsg 33 [16] [31, 8, 0, 0, 0, 0, 0, 0, 136, 19, 0, 0, 0, 0, 0, 0]).op = 33 ∧
      (hmsg 33 [16] [31, 8, 0, 0, 0, 0, 0, 0, 136, 19, 0, 0, 0, 0, 0, 0]).len = 16 ∧
      (hmsg 33 [16] [31, 8, 0, 0, 0, 0, 0, 0, 136, 19, 0, 0, 0, 0, 0, 0]).at 0 1 = 31 ∧
      (hmsg 33 [16] [31, 8, 0, 0, 0, 0, 0, 0, 136, 19, 0, 0, 0, 0, 0, 0]).at 1 1 = 8 ∧ s.notHeld 3 2 31 = none ∧
      s.isOn 543 = true) ∧
    (∃ s : State, Serves s 3 (ruleMsg 7 0 []) ∧ (ruleMsg 7 0 []).op = 34 ∧
      (s.rulePlan 3 ((s.port 3).session.getD 0) (ruleMsg 7 0 [])).toOption = some
        (7, 0, ((s.rulePlan 3 33 (ruleMsg 7 0 [])).toOption.getD (0, 0, [])).2.2) ∧ (s.slice 7).pending = none ∧
      s.isOn 775 = true ∧
      (((List.foldl (fun (s : State) (x : Nat × Word) => s.writeRegister Side.keeper x.1 x.2) (s.tookFrom 3)
              ((s.rulePlan 3 33 (ruleMsg 7 0 [])).toOption.getD (0, 0, [])).2.2).tried (RS_STATUS.addr 7)
            RS_STATUS.REFUSED fun (s : State) => s.ruleCommit 7 0) = (((List.foldl
                (fun (s : State) (x : Nat × Word) => s.writeRegister Side.keeper x.1 x.2) (s.tookFrom 3)
                ((s.rulePlan 3 33 (ruleMsg 7 0 [])).toOption.getD (0, 0, [])).2.2).tried (RS_STATUS.addr 7)
              RS_STATUS.REFUSED fun (s : State) => s.ruleCommit 7 0).1, false))) ∧
    (∃ s : State, Serves s 3 (hmsg 35 [19] [7, 0, 0, 0, 0, 1, 0, 0, 6, 0, 0, 0, 3, 0, 0, 0, 1, 2, 3]) ∧
      (hmsg 35 [19] [7, 0, 0, 0, 0, 1, 0, 0, 6, 0, 0, 0, 3, 0, 0, 0, 1, 2, 3]).op = 35 ∧
      s.modelRefusal 3 (hmsg 35 [19] [7, 0, 0, 0, 0, 1, 0, 0, 6, 0, 0, 0, 3, 0, 0, 0, 1, 2, 3]) = none ∧
      (hmsg 35 [19] [7, 0, 0, 0, 0, 1, 0, 0, 6, 0, 0, 0, 3, 0, 0, 0, 1, 2, 3]).at 1 1 = 0 ∧ s.isOn 5120 = true) ∧
    (∃ s : State, Serves s 3 (hmsg 48 [3] [255, 39, 1]) ∧ (hmsg 48 [3] [255, 39, 1]).op = 48 ∧ s.isOn 4864 = true ∧
      s.ownerOf 8 ((hmsg 48 [3] [255, 39, 1]).at 0 1) = 0 ∧
      (s.handle ((hmsg 48 [3] [255, 39, 1]).at 0 1)).st = BatchState.free ∧ (hmsg 48 [3] [255, 39, 1]).at 1 1 ≤ 39 ∧
      s.rcfg ((hmsg 48 [3] [255, 39, 1]).at 1 1) LOG_RCFG.EN = 1 ∧ (hmsg 48 [3] [255, 39, 1]).at 2 1 = 1) ∧
    (∃ s : State, Serves s 3 (hmsg 49 [2] [255, 0]) ∧ (hmsg 49 [2] [255, 0]).op = 49 ∧ s.isOn 4864 = true ∧
      s.notHeld 3 8 ((hmsg 49 [2] [255, 0]).at 0 1) = none ∧ (hmsg 49 [2] [255, 0]).at 1 1 = 0) ∧
    (∃ s : State, Serves s 3 (hmsg 50 [16] [0, 0, 0, 0, 5, 0, 0, 0, 3, 0, 0, 0, 0, 0, 0, 0]) ∧
      (hmsg 50 [16] [0, 0, 0, 0, 5, 0, 0, 0, 3, 0, 0, 0, 0, 0, 0, 0]).op = 50 ∧ s.isOn hwuBlock = true ∧
      s.isOn 5692 = true ∧ (hmsg 50 [16] [0, 0, 0, 0, 5, 0, 0, 0, 3, 0, 0, 0, 0, 0, 0, 0]).at 0 1 = 0) ∧
    (∃ s : State, Serves s 3 (hmsg 51 [8] [1, 2, 3, 4, 0, 0, 48, 0]) ∧
      (hmsg 51 [8] [1, 2, 3, 4, 0, 0, 48, 0]).op = 51 ∧ s.isOn 4864 = true ∧
      s.isOn (cspBlock (flashCsp (s.cword LOG_FCFG.addr))) = true ∧ s.cfld LOG_FSIZE.addr LOG_FSIZE.SECTORS ≠ 0 ∧
      s.ownerOf 3 (20 + flashCsp (s.cword LOG_FCFG.addr)) = 4864 ∧
      1 ≤ (hmsg 51 [8] [1, 2, 3, 4, 0, 0, 48, 0]).at 6 2 ∧ (hmsg 51 [8] [1, 2, 3, 4, 0, 0, 48, 0]).at 6 2 ≤ 48 ∧
      (hmsg 51 [8] [1, 2, 3, 4, 0, 0, 48, 0]).at 4 2 + (hmsg 51 [8] [1, 2, 3, 4, 0, 0, 48, 0]).at 6 2 ≤ 4096 ∧
      blockCrc (slice (List.replicate 28 0 ++ leBytes 4 (crc32 (List.replicate 40 0)) ++ List.replicate 16 0 ++
          List.replicate 4048 9) 0 48) (slice (List.replicate 28 0 ++ leBytes 4 (crc32 (List.replicate 40 0)) ++
          List.replicate 16 0 ++ List.replicate 4048 9) 48 (usedOf (List.replicate 28 0 ++ leBytes 4
           (crc32 (List.replicate 40 0)) ++ List.replicate 16 0 ++ List.replicate 4048 9))) = leAt
        (List.replicate 28 0 ++ leBytes 4 (crc32 (List.replicate 40 0)) ++ List.replicate 16 0 ++ List.replicate 4048
         9) 28 4) ∧
    (∃ s : State, Serves s 3 (hmsg 83 [11] [2, 0, 15, 0, 0, 0, 0, 0, 1, 2, 3]) ∧
      meshSend 2 (hmsg 83 [11] [2, 0, 15, 0, 0, 0, 0, 0, 1, 2, 3]) = true ∧
      (hmsg 83 [11] [2, 0, 15, 0, 0, 0, 0, 0, 1, 2, 3]).at 2 2 < 16 ∧
      (s.mailbox ((hmsg 83 [11] [2, 0, 15, 0, 0, 0, 0, 0, 1, 2, 3]).at 2 2)).full = true) ∧
    (∃ s : State, Serves s 3 (hmsg 83 [11] [2, 0, 0, 0, 0, 0, 0, 0, 1, 2, 3]) ∧
      meshSend 2 (hmsg 83 [11] [2, 0, 0, 0, 0, 0, 0, 0, 1, 2, 3]) = true ∧
      (hmsg 83 [11] [2, 0, 0, 0, 0, 0, 0, 0, 1, 2, 3]).at 2 2 < 16 ∧
      (s.mailbox ((hmsg 83 [11] [2, 0, 0, 0, 0, 0, 0, 0, 1, 2, 3]).at 2 2)).full = false) :=
  ⟨⟨serving 5 (hmsg 18 [2] [5,1]), by decide +kernel⟩,
   ⟨serving 5 (hmsg 80 [6] [31,0,0,3,1,0]), by decide +kernel⟩,
   ⟨{ (serving 5 (hmsg 81 [6] [31,0,0,3,1,0])) with owner := [(unitKey 3 31, 259)] }, by decide +kernel⟩,
   ⟨serving 5 (hmsg 82 [8] [0,5,0,0,0,0,0,0]), by decide +kernel⟩,
   ⟨{ (serving 5 (hmsg 82 [8] [1,5,7,0,6,0,0,0])) with
           owner := [(unitKey 1 7, 259)]
           ohp := { (live 5 0).ohp with
                 epoch := 0xFFFF
                 roles := [(5, { cluster := some 3, epoch := 6 }), (9, { cluster := some 7, epoch := 4 })] } },
      by decide +kernel⟩,
   ⟨{ (serving 5 (hmsg 82 [8] [2,5,7,0,6,0,0,0])) with
           ohp := { (live 5 0).ohp with epoch := 3, roles := [(5, { cluster := some 3, epoch := 6 })] } },
      by decide +kernel⟩,
   ⟨serving 5 (hmsg 32 [14] [11,0,0,1,0,0,0,0,0,0,255,255,255,255]), by decide +kernel⟩,
   ⟨{ (serving 5 (hmsg 33 [16] [31,8,0,0,0,0,0,0,0x88,0x13,0,0,0,0,0,0]) |> lit [0x021F]) with
           owner := [(unitKey 2 31, 259)] }, by decide +kernel⟩,
   ⟨{ (serving 5 (ruleMsg 7 0 []) |> lit [0x0307]) with owner := [(unitKey 1 7, 259)] }, by decide +kernel⟩,
   ⟨{ (serving 5 (hmsg 35 [19] [7,0,0,0,0,1,0,0,6,0,0,0,3,0,0,0,1,2,3]) |> lit [0x1400]) with
           owner := [(unitKey 9 7, 259)] }, by decide +kernel⟩,
   ⟨serving 5 (hmsg 48 [3] [255,39,1]) |> cf (LOG_RCFG.addr 39) LOG_RCFG.EN 1, by decide +kernel⟩,
   ⟨{ (serving 5 (hmsg 49 [2] [255,0])) with
           owner := [(unitKey 8 255, 259)]
           handles := [(255, { st := .opened, ring := 39, first := 0, segs := 0 })] }, by decide +kernel⟩,
   ⟨serving 5 (hmsg 50 [16] [0,0,0,0,5,0,0,0,3,0,0,0,0,0,0,0]) |> lit [0x163C], by decide +kernel⟩,
   ⟨{ (serving 5 (hmsg 51 [8] [1,2,3,4,0,0,48,0]) |> cf LOG_FSIZE.addr LOG_FSIZE.SECTORS 3 |> lit [0x2100]) with
           owner := [(unitKey 3 20, 4864)] }, by decide +kernel⟩,
   ⟨{ (serving 5 (hmsg 83 [11] [2,0,15,0,0,0,0,0,1,2,3])) with mbx := [(15, { Mbx.reset with full := true })] },
      by decide +kernel⟩,
   ⟨serving 5 (hmsg 83 [11] [2,0,0,0,0,0,0,0,1,2,3]), by decide +kernel⟩⟩

/-- States that meet the hypotheses of TwoWireBusesTransact, clause by clause. -/
theorem witness_two_wire_buses_transact :
    (∃ s : State, s.works (twbBlock 7) = true ∧ (s.bus 7).setPending = false ∧ s.portWait 19 = [] ∧
      s.twbCfg 7 TWB_CFG.EN = 1 ∧ (s.bus 7).job = none ∧ (s.bus 7).freeAt ≤ s.el ∧ (s.bus 7).clearing = false ∧
      (s.bus 7).stuck = false ∧
      (s.bus 7).manual = [0] ∧ da (s.cword (TWB_DESCA.addr 7 0)) TWB_DESCA.EN = 1 ∧
      descKind (s.cword (TWB_DESCA.addr 7 0)) < 3) ∧
    (∃ s : State, (s.bus 7).job = some aTwbJob ∧ aTwbJob.user = BusUser.manual ∧ (s.bus 7).manReply = none) ∧
    (∃ s : State, (s.bus 7).job = some aTwbJob ∧ aTwbJob.user = BusUser.manual ∧ (s.bus 7).manReply = none ∧
      s.vioOk 1 = true) ∧
    (∃ s : State, (s.bus 7).job = some aTwbJob ∧ aTwbJob.user = BusUser.manual ∧ (s.bus 7).manReply = none ∧
      s.vioOk 1 = true ∧ aTwbJob.desc = 5 ∧ descKind (s.cword (TWB_DESCA.addr 7 5)) = 2 ∧
      da (s.cword (TWB_DESCA.addr 7 5)) TWB_DESCA.PEC = 0 ∧ 3 = da (s.cword (TWB_DESCA.addr 7 5)) TWB_DESCA.RLEN) ∧
    (∃ s : State, s.isTarget 7 = true ∧ s.yielded (twbBlock 7) = false) ∧
    (∃ s : State, s.isTarget 7 = true ∧ s.yielded (twbBlock 7) = false) ∧
    (∃ s : State, s.works (twbBlock 7) = true ∧ (s.bus 7).setPending = false ∧ s.portWait 19 = [] ∧
      s.twbCfg 7 TWB_CFG.EN = 1 ∧ (s.bus 7).job = none ∧ (s.bus 7).freeAt ≤ s.el ∧ (s.bus 7).clearing = false ∧
      (s.bus 7).stuck = false) ∧
    (∃ s : State, s.works (twbBlock 7) = true ∧ (s.bus 7).stuck = true) ∧
    (∃ s : State, s.works (twbBlock 7) = true ∧ (s.bus 7).setPending = false ∧ s.portWait 19 = [] ∧
      s.twbCfg 7 TWB_CFG.EN = 1 ∧ (s.bus 7).job = none ∧ (s.bus 7).freeAt ≤ s.el ∧ (s.bus 7).clearing = false ∧
      (s.bus 7).stuck = false ∧
      s.twbCfg 7 TWB_CFG.ALERTEN = 1 ∧ s.vioOk 1 = true ∧ (s.bus 7).alertAt ≤ s.el ∧ (s.bus 7).alerts.length < 4) ∧
    (∃ s : State, Reached s (TWB_ALERT.addr 7) ∧ (s.bus 7).alerts = [1, 2, 3]) ∧
    (∃ s : State, Reached s (TWB_MAN.addr 7) ∧ (s.bus 7).manual = [] ∧ (s.bus 7).job = none) ∧
    (∃ s : State, Reached s (TWB_MAN.addr 7) ∧ (s.bus 7).manual ≠ []) ∧
    (∃ s : State, Reached s (TWB_COMMIT.addr 7) ∧ fget 4294967295 TWB_COMMIT.GO = 1 ∧ s.twbCheck 7 = 0) ∧
    (∃ s : State, Reached s (TWB_COMMIT.addr 7) ∧ fget 4294967295 TWB_COMMIT.GO = 1 ∧ s.twbCheck 7 ≠ 0) ∧
    (∃ s : State, (s.bus 7).setPending = true ∧ (s.bus 7).job = none ∧ (s.bus 7).clearing = false) :=
  ⟨⟨{ (live 5 50000000 |> lit [0x2007] |> cf (TWB_CFG.addr 7) TWB_CFG.EN 1 |> cf (TWB_DESCA.addr 7 0) TWB_DESCA.EN 1
          |> cf (TWB_DESCA.addr 7 0) TWB_DESCA.KIND 5) with
           twb := [(7, { Twb.reset with manual := [0] })] }, by decide +kernel⟩,
   ⟨{ (live 5 50000000 |> lit [0x2007]) with
           twb := [(7,
                { Twb.reset with
                     job := some { user := .manual, desc := 5, at_ := 0, late := false, epoch := 0 }
                     setPending := true })] }, by decide +kernel⟩,
   ⟨{ (live 5 50000000 |> lit [0x2007]) with
           twb := [(7,
                { Twb.reset with
                     job := some { user := .manual, desc := 5, at_ := 0, late := false, epoch := 0 }
                     setPending := true })] }, by decide +kernel⟩,
   ⟨{ (live 5 50000000 |> lit [0x2007] |> cf (TWB_DESCA.addr 7 5) TWB_DESCA.KIND 2 |> cf (TWB_DESCA.addr 7 5)
          TWB_DESCA.RLEN 3) with
           twb := [(7,
                { Twb.reset with
                     job := some { user := .manual, desc := 5, at_ := 0, late := false, epoch := 0 }
                     setPending := true })] }, by decide +kernel⟩,
   ⟨{ (live 5 50000000 |> lit [0x2007] |> cf (TWB_CFG.addr 7) TWB_CFG.TEN 1 |> cf (TWB_CFG.addr 7) TWB_CFG.TADDR 0x30) with
           twb := [(7, { Twb.reset with freeAt := 0 })] }, by decide +kernel⟩,
   ⟨{ (live 5 50000000 |> lit [0x2007] |> cf (TWB_CFG.addr 7) TWB_CFG.TEN 1 |> cf (TWB_CFG.addr 7) TWB_CFG.TADDR 0x30) with
           twb := [(7, { Twb.reset with index := 62 })] }, by decide +kernel⟩,
   ⟨{ (live 5 50000000 |> lit [0x2007] |> cf (TWB_CFG.addr 7) TWB_CFG.EN 1) with
           twb := [(7, { Twb.reset with freeAt := 0 })] }, by decide +kernel⟩,
   ⟨{ (live 5 50000000 |> lit [0x2007]) with twb := [(7, { Twb.reset with stuck := true })] }, by decide +kernel⟩,
   ⟨{ (live 5 50000000 |> lit [0x2007] |> cf (TWB_CFG.addr 7) TWB_CFG.EN 1 |> cf (TWB_CFG.addr 7) TWB_CFG.ALERTEN 1) with
           twb := [(7, { Twb.reset with alerts := [1,2,3] })] }, by decide +kernel⟩,
   ⟨{ (live 5 50000000 |> lit [0x2007]) with twb := [(7, { Twb.reset with alerts := [1,2,3] })] }, by decide +kernel⟩,
   ⟨{ (live 5 50000000 |> lit [0x2007]) with twb := [(7, { Twb.reset with freeAt := 0 })] }, by decide +kernel⟩,
   ⟨{ (live 5 50000000 |> lit [0x2007]) with twb := [(7, { Twb.reset with manual := [3] })] }, by decide +kernel⟩,
   ⟨{ (live 5 50000000 |> lit [0x2007]) with twb := [(7, { Twb.reset with freeAt := 0 })] }, by decide +kernel⟩,
   ⟨{ (live 5 50000000 |> lit [0x2007] |> rf (TWB_TIMING.addr 7) TWB_TIMING.SCLH 600 |> rf (TWB_TIMING.addr 7)
          TWB_TIMING.SCLL 600 |> rf (TWB_TIMING2.addr 7) TWB_TIMING2.SDAHOLD 10 |> rf (TWB_TIMING.addr 7)
          TWB_TIMING.SCLL 1) with
           twb := [(7, { Twb.reset with freeAt := 0 })] }, by decide +kernel⟩,
   ⟨{ (live 5 50000000 |> lit [0x2007] |> pf (TWB_CFG.addr 7) TWB_CFG.EN 1) with
           twb := [(7, { Twb.reset with setPending := true })] }, by decide +kernel⟩⟩

/-- States that meet the hypotheses of ClockedPortsMoveFrames, clause by clause. -/
theorem witness_clocked_ports_move_frames :
    (∃ s : State, s.works (cspBlock 5) = true ∧ (s.csport 5).job = none ∧ (s.csport 5).freeAt ≤ s.el ∧
      (s.csport 5).setPending = false ∧ (s.csport 5).susp = none ∧ s.portWait 25 = [] ∧ s.logFrame 5 = none ∧
      s.cspCfg 5 CSP_CFG.EN = 1 ∧ s.cspCfg 5 CSP_CFG.TGT = 0 ∧ (s.csport 5).manual = some ⟨5, some 7, some 3, 0x1FFFE⟩ ∧
      (cspDesc s.cword 5 5).en = true ∧ (cspDesc s.cword 5 5).dir ≠ 2 ∧
      (s.manualJob 5 ⟨5, some 7, some 3, 0x1FFFE⟩).buf + (s.manualJob 5 ⟨5, some 7, some 3, 0x1FFFE⟩).len ≤ 8388608) ∧
    (∃ s : State, s.works (cspBlock 0) = true ∧ (s.csport 0).job = none ∧ (s.csport 0).freeAt ≤ s.el ∧
      (s.csport 0).setPending = false ∧ (s.csport 0).susp = none ∧ s.portWait 20 = [] ∧ s.flushing = true ∧
      flashCsp (s.cword LOG_FCFG.addr) = 0 ∧ s.flusher.frames = [⟨11, 256, 256, 77⟩] ∧ s.cspCfg 0 CSP_CFG.EN = 1 ∧
      s.cspCfg 0 CSP_CFG.TGT = 0 ∧ (cspDesc s.cword 0 11).en = true) ∧
    (∃ s : State, (s.csport 5).job = some aCspJob2 ∧ aCspJob2.user = BusUser.manual ∧ aCspJob2.again = none ∧
      s.vioOk 2 = true ∧ (cspDesc s.cword 5 aCspJob2.desc).dir = 1 ∧
      (cspDesc s.cword 5 aCspJob2.desc).isPoll = false ∧ 3 = aCspJob2.len ∧ 0 < aCspJob2.len ∧ s.pwr.entry = none ∧
      s.isOn (5632 + aCspJob2.buf / 131072) = true ∧
      s.isOn (5632 + (aCspJob2.buf + aCspJob2.len - 1) / 131072) = true) ∧
    (∃ s : State, (s.csport 5).job = some aCspJob2 ∧ aCspJob2.user = BusUser.manual ∧ aCspJob2.again = none ∧
      s.vioOk 2 = false ∧ (cspDesc s.cword 5 aCspJob2.desc).dir ≠ 1) ∧
    (∃ s : State, (s.csport 5).job = some aCspJob2 ∧ aCspJob2.user = BusUser.manual ∧ aCspJob2.again = none ∧
      (cspDesc s.cword 5 aCspJob2.desc).dir = 1 ∧ fget (cspDesc s.cword 5 aCspJob2.desc).fmt CSP_DFMT.DDDR = 1) ∧
    (∃ s : State, (s.csport 5).job = some aCspJob ∧ aCspJob.again = some 77 ∧ 77 ≤ s.el) ∧
    (∃ s : State, (s.csport 5).job = some aCspJob ∧ aCspJob.user = BusUser.manual ∧ aCspJob.again = some 77 ∧
      (cspDesc s.cword 5 aCspJob.desc).isPoll = true ∧
      aCspJob.since + max 1 (s.cspCfg 5 CSP_CFG.PTOUT) * 1000000 ≤ s.el) ∧
    (∃ s : State, Reached s (CSP_MAN.addr 5) ∧ s.manualBusy 5 = false) ∧
    (∃ s : State, Reached s (CSP_MAN.addr 5) ∧ s.manualBusy 5 = true) ∧
    (∃ s : State, s.works (cspBlock 5) = true ∧ (s.csport 5).job = none ∧ (s.csport 5).freeAt ≤ s.el ∧
      (s.csport 5).susp = some aCspJob) ∧
    (∃ s : State, s.cspTarget 5 = true ∧ s.yielded (cspBlock 5) = false) ∧
    (∃ s : State, Reached s (CSP_COMMIT.addr 5) ∧ fget 4294967295 CSP_COMMIT.GO = 1 ∧ s.cspCheck 5 = 0) ∧
    (∃ s : State, Reached s (CSP_COMMIT.addr 5) ∧ fget 4294967295 CSP_COMMIT.GO = 1 ∧ s.cspCheck 5 ≠ 0) ∧
    (∃ s : State, (s.csport 5).setPending = true ∧ (s.csport 5).job = none ∧ (s.csport 5).susp = none) :=
  ⟨⟨{ (live 5 50000000 |> lit [0x2105, 0x1600, 0x1601] |> cf (CSP_CFG.addr 5) CSP_CFG.EN 1 |> cf (CSP_DCMD.addr 5 5)
           CSP_DCMD.EN 1) with
           csp := [(5,
                { Csp.reset with
                     manual := some ⟨5, some 7, some 3, 0x1FFFE⟩ })] }, by decide +kernel⟩,
   ⟨flushes 2 0 { Flusher.reset with frames := [⟨11, 256, 256, 77⟩] } |> cf (CSP_CFG.addr 0) CSP_CFG.EN 1 |> cf
       (CSP_DCMD.addr 0 11) CSP_DCMD.EN 1, by decide +kernel⟩,
   ⟨{ (live 5 50000000 |> lit [0x2105, 0x1600, 0x1601] |> cf (CSP_DCMD.addr 5 5) CSP_DCMD.DIR 1) with
           csp := [(5,
                { Csp.reset with
                     job := some { user := .manual, desc := 5, addr := 7, len := 3, buf := 0x1FFFE, at_ := 0,
                                   late := false, epoch := 0, since := 5, again := none }
                     setPending := true })] }, by decide +kernel⟩,
   ⟨{ (live 5 50000000 |> lit [0x2105, 0x1600, 0x1601] |> rf PWR_SUPPLY.addr PWR_SUPPLY.VIOOK 0) with
           csp := [(5,
                { Csp.reset with
                     job := some { user := .manual, desc := 5, addr := 7, len := 3, buf := 0x1FFFE, at_ := 0,
                                   late := false, epoch := 0, since := 5, again := none }
                     setPending := true })] }, by decide +kernel⟩,
   ⟨{ (live 5 50000000 |> lit [0x2105, 0x1600, 0x1601] |> cf (CSP_DCMD.addr 5 5) CSP_DCMD.DIR 1 |> cf
           (CSP_DFMT.addr 5 5) CSP_DFMT.DDDR 1) with
           csp := [(5,
                { Csp.reset with
                     job := some { user := .manual, desc := 5, addr := 7, len := 3, buf := 0x1FFFE, at_ := 0,
                                   late := false, epoch := 0, since := 5, again := none }
                     setPending := true })] }, by decide +kernel⟩,
   ⟨{ (live 5 50000000 |> lit [0x2105, 0x1600, 0x1601]) with
           csp := [(5,
                { Csp.reset with
                     job := some { user := .manual, desc := 5, addr := 7, len := 3, buf := 0x1FFFE, at_ := 0,
                                   late := false, epoch := 0, since := 5, again := some 77 } })] }, by decide +kernel⟩,
   ⟨{ (live 5 50000000 |> lit [0x2105, 0x1600, 0x1601] |> cf (CSP_DPOLL.addr 5 5) CSP_DPOLL.POLL 1) with
           csp := [(5,
                { Csp.reset with
                     job := some { user := .manual, desc := 5, addr := 7, len := 3, buf := 0x1FFFE, at_ := 0,
                                   late := false, epoch := 0, since := 5, again := some 77 } })] }, by decide +kernel⟩,
   ⟨{ (live 5 50000000 |> lit [0x2105, 0x1600, 0x1601] |> cf (CSP_DADR.addr 5 15) ⟨31,0,.rw,0⟩ 0x1234) with
           csp := [(5, { Csp.reset with freeAt := 0 })] }, by decide +kernel⟩,
   ⟨{ (live 5 50000000 |> lit [0x2105, 0x1600, 0x1601]) with
           csp := [(5,
                { Csp.reset with
                     job := some { user := .manual, desc := 5, addr := 7, len := 3, buf := 0x1FFFE, at_ := 0,
                                   late := false, epoch := 0, since := 5, again := some 77 } })] }, by decide +kernel⟩,
   ⟨{ (live 5 50000000 |> lit [0x2105, 0x1600, 0x1601]) with
           csp := [(5,
                { Csp.reset with
                     susp := some { user := .manual, desc := 5, addr := 7, len := 3, buf := 0x1FFFE, at_ := 0,
                                    late := false, epoch := 0, since := 5, again := some 77 } })] },
      by decide +kernel⟩,
   ⟨{ (live 5 50000000 |> lit [0x2105, 0x1600, 0x1601] |> cf (CSP_CFG.addr 5) CSP_CFG.EN 1 |> cf (CSP_CFG.addr 5)
           CSP_CFG.TGT 1) with
           csp := [(5, { Csp.reset with freeAt := 0 })] }, by decide +kernel⟩,
   ⟨{ (live 5 50000000 |> lit [0x2105, 0x1600, 0x1601]) with csp := [(5, { Csp.reset with freeAt := 0 })] },
      by decide +kernel⟩,
   ⟨{ (live 5 50000000 |> lit [0x2105, 0x1600, 0x1601] |> rf (CSP_CFG.addr 5) CSP_CFG.DIV 1 |> rf (CSP_DCMD.addr 5 5)
           CSP_DCMD.EN 1 |> rf (CSP_DCMD.addr 5 5) CSP_DCMD.CBITS 17) with
           csp := [(5, { Csp.reset with freeAt := 0 })] }, by decide +kernel⟩,
   ⟨{ (live 5 50000000 |> lit [0x2105, 0x1600, 0x1601] |> pf (CSP_CFG.addr 5) CSP_CFG.EN 1) with
           csp := [(5, { Csp.reset with setPending := true })] }, by decide +kernel⟩⟩

/-- States that meet the hypotheses of TimersCountAndCapture, clause by clause. -/
theorem witness_timers_count_and_capture :
    (∃ s : State, Reached s (TMR_CTL.addr 31) ∧ fget 1 TMR_CTL.STOP = 0 ∧ s.fld (TMR_CFG.addr 31) TMR_CFG.SRC ≠ 5 ∧
      s.fld (TMR_CFG.addr 31) TMR_CFG.CEDGE = 3) ∧
    (∃ s : State, Reached s (TMR_CTL.addr 31) ∧ fget 1 TMR_CTL.STOP = 0 ∧ s.fld (TMR_CFG.addr 31) TMR_CFG.SRC = 5 ∧
      s.fld (TMR_PIN.addr 31) TMR_PIN.XPIN < 48 ∧ s.timerPin 31 (s.fld (TMR_PIN.addr 31) TMR_PIN.XPIN) = false ∧
      (s.timer 31).running = false) ∧
    (∃ s : State, Reached s (TMR_CTL.addr 31) ∧ fget 2 TMR_CTL.ARM = 0) ∧
    (∃ s : State, (s.timer 31).running = true ∧ s.tlimit 31 ≤ (s.timer 31).count ∧
      s.fld (TMR_CTL.addr 31) TMR_CTL.IE = 0) ∧
    (∃ s : State, s.timerPin 31 (s.cfld (TMR_PIN.addr 31) TMR_PIN.CPIN) = true ∧
      edgeSelected (s.tcfg 31 TMR_CFG.CEDGE) true = true ∧ s.isOn 8735 = true ∧ (s.timer 31).queue.length < 4) ∧
    (∃ s : State, s.timerPin 31 (s.cfld (TMR_PIN.addr 31) TMR_PIN.CPIN) = true ∧
      edgeSelected (s.tcfg 31 TMR_CFG.CEDGE) true = true ∧ s.isOn 8735 = true ∧ (s.timer 31).queue.length = 4) ∧
    (∃ s : State, Reached s (TMR_CTL.addr 31) ∧ (s.timer 31).queue = [7, 8] ∧ s.timerReceiver 31 = some 16) ∧
    (∃ s : State, Reached s (TMR_CTL.addr 31) ∧ (s.timer 31).queue = [7, 8] ∧ s.timerReceiver 31 ≠ some 16) ∧
    (∃ s : State, Reached s (TMR_CTL.addr 31) ∧ (s.timer 31).queue = []) :=
  ⟨⟨{ (live 5 50000000 |> lit [0x221f] |> rf (TMR_CFG.addr 31) TMR_CFG.CEDGE 3 |> rf (TMR_CFG.addr 31) TMR_CFG.SRC 2
          |> (fun s => s.setReg (TMR_LIMIT.addr 31) 99)) with
           timers := [(31, { Timer.reset with queue := [5] })] }, by decide +kernel⟩,
   ⟨{ (live 5 50000000 |> lit [0x221f] |> rf (TMR_CFG.addr 31) TMR_CFG.SRC 5 |> rf (TMR_PIN.addr 31) TMR_PIN.XPIN 47) with
           timers := [(31, { Timer.reset with left := 1 })] }, by decide +kernel⟩,
   ⟨{ (live 5 50000000 |> lit [0x221f]) with timers := [(31, { Timer.reset with left := 1 })] }, by decide +kernel⟩,
   ⟨{ (live 5 50000000 |> lit [0x221f] |> (fun s => { s with cset := Tab.put s.cset (TMR_LIMIT.addr 31) 8})) with
           timers := [(31, { Timer.reset with running := true, count := 8 })] }, by decide +kernel⟩,
   ⟨{ (live 5 50000000 |> lit [0x221f] |> cf (TMR_CFG.addr 31) TMR_CFG.CEDGE 0 |> cf (TMR_PIN.addr 31) TMR_PIN.CPIN
          47) with
           timers := [(31, { Timer.reset with count := 0xFFFFFFFF, queue := [1,2,3] })]
           owner := [(unitKey 4 47, 0x1000), (unitKey 5 31, 0x1000)] }, by decide +kernel⟩,
   ⟨{ (live 5 50000000 |> lit [0x221f] |> cf (TMR_CFG.addr 31) TMR_CFG.CEDGE 0 |> cf (TMR_PIN.addr 31) TMR_PIN.CPIN
          47) with
           timers := [(31, { Timer.reset with count := 0xFFFFFFFF, queue := [1,2,3,4] })]
           owner := [(unitKey 4 47, 0x1000), (unitKey 5 31, 0x1000)] }, by decide +kernel⟩,
   ⟨{ (live 5 50000000 |> lit [0x221f]) with
           timers := [(31, { Timer.reset with queue := [7, 8] })]
           owner := [(unitKey 5 31, 4096)] }, by decide +kernel⟩,
   ⟨{ (live 5 50000000 |> lit [0x221f]) with
           timers := [(31, { Timer.reset with queue := [7, 8] })]
           owner := [(unitKey 5 31, 0)] }, by decide +kernel⟩,
   ⟨{ (live 5 50000000 |> lit [0x221f]) with timers := [(31, { Timer.reset with left := 1 })] }, by decide +kernel⟩⟩

/-- States that meet the hypotheses of UnitsAreClaimedAndFaultsReported, clause by clause. -/
theorem witness_units_are_claimed_and_faults_reported :
    (∃ s : State, Reached s RES_CMD.addr ∧
      unitRange (s.resReg Side.link RES_RESID.addr) (resCount (fset 0 RES_CMD.COUNT 1)) = some [(8, 255)] ∧
      s.conflict [(8, 255)] (s.resOwner Side.link) = none) ∧
    (∃ s : State, Reached s RES_CMD.addr ∧
      unitRange (s.resReg Side.link RES_RESID.addr) (resCount (fset 0 RES_CMD.COUNT 0)) = some [(8, 255)] ∧
      s.conflict [(8, 255)] (s.resOwner Side.link) = some (0, 4864)) ∧
    (∃ s : State, Reached s RES_CMD.addr ∧
      unitRange (s.resReg Side.link RES_RESID.addr) (resCount (fset 0 RES_CMD.COUNT 1)) = some [(8, 255)] ∧
      s.holdsAll [(8, 255)] (s.resOwner Side.link) = true) ∧
    (∃ s : State, Reached s RES_CMD.addr ∧
      unitRange (s.resReg Side.link RES_RESID.addr) (resCount (fset 0 RES_CMD.COUNT 0)) = some [(8, 255)] ∧
      s.holdsAll [(8, 255)] (s.resOwner Side.link) = false) ∧
    (∃ s : State, Reached s RES_CMD.addr ∧
      unitRange (s.resReg Side.link RES_RESID.addr) (resCount (fset 0 RES_CMD.COUNT 1)) = some [(8, 255)]) ∧
    (∃ s : State, s.faultWait = [(3, aFaultRec)] ∧ s.faults.length < 64 ∧ 4 ≤ s.mode) ∧
    (∃ s : State, s.faultWait = [(3, aFaultRec)] ∧ s.faults.length = 64 ∧ s.faultLost = 0 ∧ 4 ≤ s.mode) ∧
    (Reached (live 5 5000) (FAULT_REC.addr 0)) ∧
    (∃ s : State, Reached s FAULT_POP.addr ∧ fget (fset 0 FAULT_POP.GO 1) FAULT_POP.GO = 1 ∧
      s.faults = [aFaultRec, aFaultRec] ∧ s.faultLost = 0) ∧
    (∃ s : State, Reached s FAULT_POP.addr ∧ fget (fset 0 FAULT_POP.GO 1) FAULT_POP.GO = 1 ∧
      s.faults = [aFaultRec, aFaultRec] ∧ s.faultLost ≠ 0) ∧
    ((live 5 5000).islandUp (islandUnit (Island.edge 1)).1 (islandUnit (Island.edge 1)).2 = true) ∧
    (∃ s : State, s.islandUp (islandUnit (Island.edge 1)).1 (islandUnit (Island.edge 1)).2 = false) ∧
    (∃ s : State, (s.engine 255).faulted = true ∧ Reached s (RS_COMMIT.addr 7) ∧ (s.slice 7).pending = none ∧
      (({ s with regs := s.cset.copyRange s.regs (engBase 255) (engBase 255 + 512) : State }.setFld
          (RS_ECFG.addr 255) RS_ECFG.KEEPST 0).fld (RS_ECFG.addr 255) RS_ECFG.EN = 1 →
         ({ s with regs := s.cset.copyRange s.regs (engBase 255) (engBase 255 + 512) : State }.setFld
          (RS_ECFG.addr 255) RS_ECFG.KEEPST 0).engineCheck 255 = 0)) ∧
    (((live 5 5000).engine 255).faulted = false) :=
  ⟨⟨live 5 5000 |> (fun s => s.setResReg .link RES_RESID.addr 134217983) |>
       (fun s => s.setResReg .link RES_OWNER.addr 0x0103), by decide +kernel⟩,
   ⟨{ (live 5 5000 |> (fun s => s.setResReg .link RES_RESID.addr 134217983) |>
          (fun s => s.setResReg .link RES_OWNER.addr 0x0103)) with
           owner := [(unitKey 8 255, 0x1300)] }, by decide +kernel⟩,
   ⟨{ (live 5 5000 |> (fun s => s.setResReg .link RES_RESID.addr 134217983) |>
          (fun s => s.setResReg .link RES_OWNER.addr 0x0103)) with
           owner := [(unitKey 8 255, 768), (unitKey 8 254, 768)] }, by decide +kernel⟩,
   ⟨live 5 5000 |> (fun s => s.setResReg .link RES_RESID.addr 134217983) |>
       (fun s => s.setResReg .link RES_OWNER.addr 0x0103), by decide +kernel⟩,
   ⟨live 5 5000 |> (fun s => s.setResReg .link RES_RESID.addr 134217983) |>
       (fun s => s.setResReg .link RES_OWNER.addr 0x0103), by decide +kernel⟩,
   ⟨{ (live 4 5000) with
           faultWait := [(3, { level := 4, cause := 5, unit := 6, gts := ⟨5,1⟩, detail := 7 })]
           faults := List.replicate 63 { level := 4, cause := 5, unit := 6, gts := ⟨5,1⟩, detail := 7 } },
      by decide +kernel⟩,
   ⟨{ (live 5 5000) with
           faultWait := [(3, { level := 4, cause := 5, unit := 6, gts := ⟨5,1⟩, detail := 7 })]
           faults := List.replicate 64 { level := 4, cause := 5, unit := 6, gts := ⟨5,1⟩, detail := 7 } },
      by decide +kernel⟩,
   by decide +kernel,
   ⟨{ (live 5 5000) with
           faults := [{ level := 4, cause := 5, unit := 6, gts := ⟨5,1⟩, detail := 7 },
              { level := 4, cause := 5, unit := 6, gts := ⟨5,1⟩, detail := 7 }]
           faultLost := 0 }, by decide +kernel⟩,
   ⟨{ (live 5 5000) with
           faults := [{ level := 4, cause := 5, unit := 6, gts := ⟨5,1⟩, detail := 7 },
              { level := 4, cause := 5, unit := 6, gts := ⟨5,1⟩, detail := 7 }]
           faultLost := 3 }, by decide +kernel⟩,
   by decide +kernel,
   ⟨{ (live 5 5000) with islands := [islandKey (islandUnit (.edge 1)).1 (islandUnit (.edge 1)).2] },
      by decide +kernel⟩,
   ⟨{ (live 5 5000 |> lit [0x0307] |> cf (RS_ECFG.addr 255) RS_ECFG.KEEPST 1) with
           engines := [(255, { Engine.reset with faulted := true })] }, by decide +kernel⟩,
   by decide +kernel⟩

/-- States that meet the hypotheses of PowerEntersAndWakes, clause by clause. -/
theorem witness_power_enters_and_wakes :
    (∃ s : State, s.fld PWR_FLOOR.addr (PWR_FLOOR.HOLD 3) = 1) ∧
    (∃ s : State, s.pwr.hwake.getLsbD 3 = true) ∧
    (∃ s : State, s.pwr.demands ≠ []) ∧
    (∃ s : State, Reached s PWR_BASE.addr ∧ fget 5 PWR_BASE.MODE ≠ 0 ∧ s.pwr.entry = none ∧
      (s.setFld PWR_BASE.addr PWR_BASE.MODE (fget 5 PWR_BASE.MODE)).target = s.mode) ∧
    (∃ s : State, Reached s PWR_BASE.addr ∧ fget 0 PWR_BASE.MODE = 0) ∧
    (∃ s : State, Reached s PWR_FLOOR.addr ∧ s.pwr.entry = none ∧
      (s.setReg PWR_FLOOR.addr (writeWord PWR_FLOOR.fields (s.reg PWR_FLOOR.addr) 1)).target = s.mode) ∧
    (∃ s : State, s.pwr.entry = some aEntry ∧ aEntry.phase = EntryPhase.query ∧
      aEntry.blocks.find 5888 = some BlockState.asked ∧ aEntry.blocks.find 6144 = some BlockState.asked) ∧
    (∃ s : State, s.pwr.entry = some aEntry3 ∧ aEntry3.phase = EntryPhase.query ∧
      aEntry3.blocks.find 4096 = some BlockState.asked ∧ s.refuses 4096 aEntry3.to_ = none ∧
      s.delayMax 4096 aEntry3.to_ ≠ 0) ∧
    (∃ s : State, s.pwr.entry = some aEntry4 ∧ aEntry4.phase = EntryPhase.query ∧
      aEntry4.blocks.find 4096 = some BlockState.asked ∧ aEntry4.to_ ≤ 3 ∧ s.catchingUp = true ∧
      s.pwr.modeWaits = []) ∧
    (∃ s : State, s.pwr.entry = some aEntry2 ∧ aEntry2.blocks.find 4096 = some (BlockState.delayed 1000) ∧
      1000 + s.delayMax 4096 aEntry2.to_ < s.el ∧ s.pwr.modeWaits = []) ∧
    (∃ s : State, s.pwr.entry = some aEntry5 ∧ aEntry5.phase = EntryPhase.powerDown ∧ s.anyLatched = false ∧
      s.pwr.modeWaits = [] ∧ aEntry5.to_ = 1 ∧ s.ohp.records = true) ∧
    (∃ s : State, s.pwr.entry = some aEntry6 ∧ aEntry6.phase = EntryPhase.powerDown ∧ s.anyLatched = false ∧
      s.pwr.modeWaits = [] ∧ aEntry6.to_ ≠ 1) ∧
    (∃ s : State, s.pwr.retryAt = some 77 ∧ 77 ≤ s.el ∧ s.pwr.entry = none ∧
      (s.setPwr { s.pwr with retryAt := none : Pwr }).target = s.mode) ∧
    (∃ s : State, s.latched 12 = true ∧ (∀ i < 12, s.latched i = false) ∧ s.lowMode = false ∧
      s.pwr.entry = none ∧ s.target = s.mode ∧ s.isOn 0 = true) ∧
    (∃ s : State, (s.pwr.entry = none ∧ (s.setPwr
          { s.pwr with demands := List.filter (fun (t : Nat) => decide (s.el < t)) s.pwr.demands : Pwr }).target =
         s.mode)) ∧
    (∃ s : State, s.nextRequest 0 = some { dom := 771, at_ := 5 : WakeReq } ∧
      ({ dom := 771, at_ := 5 : WakeReq }.dom / 256 = 3 → s.keptSlice ({ dom := 771, at_ := 5 : WakeReq }.dom % 256)
          = false) ∧ wakeCredits { dom := 771, at_ := 5 : WakeReq }.dom ≤ s.freeCredits 0) ∧
    (∃ s : State, s.nextRequest 0 = some { dom := 771, at_ := 5 : WakeReq } ∧
      ({ dom := 771, at_ := 5 : WakeReq }.dom / 256 = 3 → s.keptSlice ({ dom := 771, at_ := 5 : WakeReq }.dom % 256)
          = false) ∧ s.freeCredits 0 < wakeCredits { dom := 771, at_ := 5 : WakeReq }.dom) ∧
    (∃ s : State, (List.find? (fun (g : WakeGrant) => decide (g.dom = 263)) s.pwr.grants = some
          { dom := 263, credits := 3, ready := 5000001 : WakeGrant }) ∧ s.pwr.waking = false ∧
      s.el < { dom := 263, credits := 3, ready := 5000001 : WakeGrant }.ready) ∧
    (∃ s : State, (List.find? (fun (g : WakeGrant) => decide (g.dom = 263)) s.pwr.grants = some
          { dom := 263, credits := 3, ready := 7 : WakeGrant }) ∧ s.pwr.waking = false ∧
      { dom := 263, credits := 3, ready := 7 : WakeGrant }.ready ≤ s.el) ∧
    (∃ s : State, (List.find? (fun (g : WakeGrant) => decide (g.dom = 0x2303)) s.pwr.grants = some
          { dom := 0x2303, credits := 1, ready := 7 : WakeGrant }) ∧ s.pwr.waking = false ∧ 7 ≤ s.el ∧ s.topcoatUp = true ∧
      s.copies = [(0x2303, { words := [(ADC_SDCFG.addr 3, 0x90000123)], cells := [], desc := [], micro := [] })]) ∧
    (∃ s : State, s.mode = 1 ∧ s.pwr.entry = none ∧ s.sup.descent = none ∧
      edgeSelected (s.fld PWR_KWAKE.addr PWR_KWAKE.EDGE / 16384 % 4) true = true ∧ s.time.eioLevel.getLsbD 7 ≠ true ∧
      s.supply PWR_SUPPLY.MAINOK = 0) ∧
    (∃ s : State, s.mode = 1 ∧ s.pwr.entry = none ∧ s.sup.descent = none ∧
      edgeSelected (s.fld PWR_KWAKE.addr PWR_KWAKE.EDGE / 16384 % 4) true = true ∧ s.time.eioLevel.getLsbD 7 ≠ true ∧
      s.canStart 11 = true) ∧
    (∃ s : State, s.mode = 1 ∧ s.pwr.entry = none ∧ s.sup.descent = none ∧ s.fld PWR_KALARM1.addr PWR_KALARM1.EN = 1 ∧
      BitVec.toNat (s.reg PWR_KALARM0.addr) + 4294967296 * s.fld PWR_KALARM1.addr PWR_KALARM1.SEC_HI ≤
        s.time.keep.toNat / 18446744073709551616 ∧ s.supply PWR_SUPPLY.MAINOK = 0) ∧
    (∃ s : State, Reached s PWR_COMMIT.addr ∧ fget (fset 0 PWR_COMMIT.GO 1) PWR_COMMIT.GO = 1 ∧
      (∀ i < 4, decide (s.fld PWR_SKIM.addr (PWR_SKIM.EN i) = 1) = false)) ∧
    (∃ s : State, Reached s PWR_COMMIT.addr ∧ fget (fset 0 PWR_COMMIT.GO 1) PWR_COMMIT.GO = 1 ∧
      decide (s.fld PWR_SKIM.addr (PWR_SKIM.EN 0) = 1) = true ∧
      decide (s.fld PWR_SKIM.addr (PWR_SKIM.EN 3) = 1) = true ∧
      s.fld PWR_SKIM.addr (PWR_SKIM.TILE 0) = s.fld PWR_SKIM.addr (PWR_SKIM.TILE 3)) ∧
    (∃ s : State, Reached s PWR_RESTORE.addr) ∧
    (∃ s : State, Reached s PWR_RESTORE.addr) :=
  ⟨⟨{ (live 5 5000000 |> rf PWR_FLOOR.addr (PWR_FLOOR.HOLD 3) 1 |> rf PWR_FLOOR.addr (PWR_FLOOR.MODE 3) 7) with
           pwr := { Pwr.reset with lastWake := 0 } }, by decide +kernel⟩,
   ⟨{ (live 5 5000000) with pwr := { Pwr.reset with hwake := 8, demands := [77] } }, by decide +kernel⟩,
   ⟨{ (live 5 5000000) with pwr := { Pwr.reset with hwake := 8, demands := [77] } }, by decide +kernel⟩,
   ⟨{ (live 5 5000000 |> rf PWR_BASE.addr PWR_BASE.MODE 5) with pwr := { Pwr.reset with lastWake := 0 } },
      by decide +kernel⟩,
   ⟨{ (live 5 5000000 |> rf PWR_BASE.addr PWR_BASE.MODE 5) with pwr := { Pwr.reset with lastWake := 0 } },
      by decide +kernel⟩,
   ⟨{ (live 5 5000000 |> rf PWR_BASE.addr PWR_BASE.MODE 5) with pwr := { Pwr.reset with lastWake := 0 } },
      by decide +kernel⟩,
   ⟨{ (live 5 5000000) with
           pwr := { Pwr.reset with
                 entry := some { from_ := 5, to_ := 2, phase := .query,
                                 blocks := [(0x1700, .asked), (0x1800, .asked)], saves := [] } } }, by decide +kernel⟩,
   ⟨{ (live 5 5000000) with
           pwr := { Pwr.reset with
                 entry := some { from_ := 5, to_ := 4, phase := .query, blocks := [(0x1000, .asked)], saves := [] } } },
      by decide +kernel⟩,
   ⟨{ (live 5 5000000) with
           pwr := { Pwr.reset with
                 entry := some { from_ := 5, to_ := 3, phase := .query, blocks := [(0x1000, .asked)], saves := [] } }
           sec := { Sec.reset with passNow := true } }, by decide +kernel⟩,
   ⟨{ (live 5 5000000) with
           pwr := { Pwr.reset with
                 entry := some
                   { from_ := 5, to_ := 2, phase := .query, blocks := [(0x1000, .delayed 1000)], saves := [] } } },
      by decide +kernel⟩,
   ⟨{ (live 5 5000000) with
           pwr := { Pwr.reset with
                 entry := some { from_ := 5, to_ := 1, phase := .powerDown, blocks := [], saves := [] } }
           ohp := { Ohp.reset with records := true }
           mem := [(5,1),(0x10000000,7)]
           cores := [(0, Core.reset 0)] }, by decide +kernel⟩,
   ⟨{ (live 5 5000000) with
           pwr := { Pwr.reset with
                 entry := some { from_ := 5, to_ := 3, phase := .powerDown, blocks := [], saves := [] } }
           mem := [(5,1),(0x10000000,7)]
           cores := [(0, Core.reset 0)] }, by decide +kernel⟩,
   ⟨{ (live 5 5000000 |> rf PWR_BASE.addr PWR_BASE.MODE 5) with pwr := { Pwr.reset with retryAt := some 77 } },
      by decide +kernel⟩,
   ⟨{ (live 5 5000000 |> rf PWR_BASE.addr PWR_BASE.MODE 5) with
           pwr := { Pwr.reset with lastWake := 0 }
           mem := (((live 5 5 |> rf PWR_BASE.addr PWR_BASE.MODE 5).latch 12 6) : State).mem }, by decide +kernel⟩,
   ⟨{ (live 5 5000000 |> rf PWR_BASE.addr PWR_BASE.MODE 5) with pwr := { Pwr.reset with demands := [7] } },
      by decide +kernel⟩,
   ⟨{ (live 5 5000000) with
           pwr := { Pwr.reset with queue := [{ dom := 0x0303, at_ := 5 }, { dom := 0x0205, at_ := 3000000 }] } },
      by decide +kernel⟩,
   ⟨{ (live 5 5000000) with
           pwr := { Pwr.reset with
                 queue := [{ dom := 0x0303, at_ := 5 }]
                 grants := List.replicate 9 { dom := 0x0303, credits := 3, ready := 7 } } }, by decide +kernel⟩,
   ⟨{ (live 5 5000000) with
           pwr := { Pwr.reset with
                 grants :=
                   [{ dom := 0x0107, credits := 3, ready := 5000001 }, { dom := 0x205, credits := 1, ready := 9 }] } },
      by decide +kernel⟩,
   ⟨{ (live 5 5000000) with
           pwr := { Pwr.reset with
                 grants := [{ dom := 0x0107, credits := 3, ready := 7 }, { dom := 0x205, credits := 1, ready := 9 }] } },
      by decide +kernel⟩,
   ⟨{ (live 5 5000000) with
           pwr := { Pwr.reset with grants := [{ dom := 0x2303, credits := 1, ready := 7 }] }
           ohp := { Ohp.reset with running := true }
           copies := [(0x2303, { words := [(ADC_SDCFG.addr 3, 0x90000123)], cells := [], desc := [], micro := [] })] },
      by decide +kernel⟩,
   ⟨{ (live 1 5000000 |> rf PWR_KWAKE.addr PWR_KWAKE.EDGE 0xAAAA |> rf PWR_SUPPLY.addr PWR_SUPPLY.MAINOK 0) with
           pwr := { Pwr.reset with lastWake := 0 }
           time := Time.reset }, by decide +kernel⟩,
   ⟨{ (live 1 5000000 |> rf PWR_KWAKE.addr PWR_KWAKE.EDGE 0xAAAA) with
           pwr := { Pwr.reset with lastWake := 0 }
           time := Time.reset }, by decide +kernel⟩,
   ⟨{ (live 1 5000000 |> rf PWR_KALARM1.addr PWR_KALARM1.EN 1 |> rf PWR_SUPPLY.addr PWR_SUPPLY.MAINOK 0) with
           pwr := { Pwr.reset with lastWake := 0 }
           time := Time.reset }, by decide +kernel⟩,
   ⟨{ (live 5 5000000) with pwr := { Pwr.reset with lastWake := 0 } }, by decide +kernel⟩,
   ⟨{ (live 5 5000000 |> rf PWR_SKIM.addr (PWR_SKIM.EN 0) 1 |> rf PWR_SKIM.addr (PWR_SKIM.EN 3) 1 |> rf PWR_SKIM.addr
          (PWR_SKIM.TILE 0) 31 |> rf PWR_SKIM.addr (PWR_SKIM.TILE 3) 31) with
           pwr := { Pwr.reset with lastWake := 0 } }, by decide +kernel⟩,
   ⟨{ (live 5 5000000) with pwr := { Pwr.reset with held := [0] } }, by decide +kernel⟩,
   ⟨{ (live 5 5000000) with pwr := { Pwr.reset with held := [0] }, mem := ((live 5 5).saveCluster 0).mem },
      by decide +kernel⟩⟩

/-- States that meet the hypotheses of SuppliesFailSafely, clause by clause. -/
theorem witness_supplies_fail_safely :
    (∃ s : State, s.pwr.entry = none) ∧
    (∃ s : State, s.sup.descent = some (7, 5)) ∧
    (∃ s : State, s.poweringDown = some 5 ∧ s.sup.gap = none) ∧
    (∃ s : State, s.poweringDown = none) ∧
    (∃ s : State, s.sup.safeAt = some 7 ∧ 100000007 ≤ s.el ∧ s.supply PWR_SUPPLY.MAINOK = 1 ∧
      ((List.filter (fun (x : Nat) => decide (s.el < x + 10000000000)) s.sup.starts).length < 3)) ∧
    (∃ s : State, s.sup.safeAt = some 7 ∧ 100000007 ≤ s.el ∧ s.supply PWR_SUPPLY.MAINOK = 1 ∧
      (3 ≤ (List.filter (fun (x : Nat) => decide (s.el < x + 10000000000)) s.sup.starts).length)) ∧
    (∃ s : State, s.supply PWR_SUPPLY.MAINOK = 0) ∧
    (∃ s : State, s.supply PWR_SUPPLY.MAINOK = 1) ∧
    (∃ s : State, s.sup.validating = some 7 ∧ s.sup.descent = none ∧ 2000007 ≤ s.el ∧ s.mode ≠ 1) ∧
    (∃ s : State, s.sup.validating = some 7 ∧ s.sup.descent = none ∧ 2000007 ≤ s.el ∧ s.mode = 1 ∧
      s.sup.absent = true ∧ s.sup.safeAt = none ∧ s.pwr.entry = none) ∧
    (∃ s : State, s.sup.gap = some 7 ∧ 400007 < s.el ∧ s.sup.lost = false) ∧
    (∃ s : State, s.sup.gap = some 7 ∧ s.el ≤ 400007) ∧
    (∃ s : State, s.mode ≠ 1 ∧ s.sup.step = none ∧ s.sup.vcore ≠ vcorePoint s.mode) ∧
    (∃ s : State, s.sup.step = some (650, 7) ∧ s.vcoreNow = 650) ∧
    (∃ s : State, s.sup.step = some (650, 7) ∧ s.vcoreNow ≠ 650) :=
  ⟨⟨{ (live 1 500000000) with
           sup := { Sup.reset with vcore := 700 }
           pwr := { Pwr.reset with queue := [{ dom := 0x1400, at_ := 3 }] } }, by decide +kernel⟩,
   ⟨{ (live 1 500000000) with
           sup := { Sup.reset with descent := some (7,5) }
           mem := [(5,1),(0x10000000,7),(0x20000005,9)]
           cores := [(0, Core.reset 0)] }, by decide +kernel⟩,
   ⟨{ (live 1 500000000 |> rf PWR_DOWNFAULT.addr PWR_DOWNFAULT.COUNT 255) with
           sup := { Sup.reset with descent := some (7,5) } }, by decide +kernel⟩,
   ⟨{ (live 5 500000000) with sup := { Sup.reset with vcore := 700 } }, by decide +kernel⟩,
   ⟨{ (live 1 500000000) with sup := { Sup.reset with safeAt := some 7, starts := [499999999] } }, by decide +kernel⟩,
   ⟨{ (live 1 500000000) with sup := { Sup.reset with safeAt := some 7, starts := [1,2,3] } }, by decide +kernel⟩,
   ⟨{ (live 5 500000000 |> rf PWR_SUPPLY.addr PWR_SUPPLY.MAINOK 0) with sup := { Sup.reset with vcore := 700 } },
      by decide +kernel⟩,
   ⟨{ (live 5 500000000) with sup := { Sup.reset with vcore := 700 } }, by decide +kernel⟩,
   ⟨{ (live 5 500000000 |> rf PWR_SUPPLY.addr PWR_SUPPLY.MAINOK 0) with
           sup := { Sup.reset with validating := some 7 } }, by decide +kernel⟩,
   ⟨{ (live 1 500000000 |> rf PWR_SUPPLY.addr PWR_SUPPLY.MAINOK 0) with
           sup := { Sup.reset with validating := some 7, absent := true }
           time := Time.reset }, by decide +kernel⟩,
   ⟨{ (live 5 500000000) with sup := { Sup.reset with gap := some 7 }, mem := [(0x20000005,9)] }, by decide +kernel⟩,
   ⟨{ (live 5 400007) with sup := { Sup.reset with gap := some 7 } }, by decide +kernel⟩,
   ⟨{ (live 4 500000000) with sup := { Sup.reset with vcore := 123 } }, by decide +kernel⟩,
   ⟨{ (live 5 500000000) with sup := { Sup.reset with step := some (650, 7), vcore := 550 } }, by decide +kernel⟩,
   ⟨{ (live 5 1000) with sup := { Sup.reset with step := some (650, 7), vcore := 550 } }, by decide +kernel⟩⟩

/-- States that meet the hypotheses of TheGangLinkSpeaks, clause by clause. -/
theorem witness_the_gang_link_speaks :
    (∃ s : State, s.flxRuns = true ∧ flxIntact (flxFrame 0 16 5 [1, 2]) = true ∧
      leAt (flxFrame 0 16 5 [1, 2]) 0 1 = 1 ∧ s.flx.trains = 7 ∧ s.flxB = false) ∧
    (∃ s : State, s.flxRuns = true ∧ flxIntact (flxFrame 0 16 5 [1, 2]) = true ∧
      leAt (flxFrame 0 16 5 [1, 2]) 0 1 = 1 ∧ s.flx.trains < 7 ∧ s.flxB = false) ∧
    (∃ s : State, s.flxRuns = true ∧ flxIntact [1, 16, 0, 5, 0, 0] = false) ∧
    (∃ s : State, s.flxRuns = true ∧
      flxIntact ([18, 0, 0, 0] ++ leBytes 1 (crc16 [18, 0, 0, 0] / 256) ++ leBytes 1 (crc16 [18, 0, 0, 0])) = true ∧
      1 < leAt ([18, 0, 0, 0] ++ leBytes 1 (crc16 [18, 0, 0, 0] / 256) ++ leBytes 1 (crc16 [18, 0, 0, 0])) 0 1 % 16) ∧
    (∃ s : State, s.flxRuns = true ∧ flxIntact (flxFrame 2 24 5 (List.replicate 24 1)) = true ∧
      leAt (flxFrame 2 24 5 (List.replicate 24 1)) 0 1 = 33 ∧ s.flxB = true ∧ s.flxLeads = true) ∧
    (∃ s : State, s.flxRuns = true ∧ s.flxA = false) ∧
    (∃ s : State, s.flxRuns = true ∧ s.flxA = true) ∧
    (∃ s : State, s.flxRuns = true) ∧
    (∃ s : State, s.flxRuns = true ∧ s.flxA = true ∧ s.flx.lastSent + 100000 ≤ s.el) ∧
    (∃ s : State, s.flxRuns = true ∧ s.flxA = true ∧ s.el < s.flx.lastSent + 100000) ∧
    (∃ s : State, s.flxRuns = true ∧ s.flxA = true ∧ s.claimDue = some 0) ∧
    (∃ s : State, s.flxRuns = true ∧ s.flxA = true ∧ s.flxB = false ∧ s.flxLeads = false ∧
      s.flx.aUpAt + 1000000000 ≤ s.el ∧ s.fld FLX_CTL.addr FLX_CTL.LEADREQ = 1) ∧
    (∃ s : State, s.flxRuns = true ∧ s.flxLed = true ∧ s.flxLeads = false ∧ s.flx.lastSync + 1000000000 ≤ s.el) ∧
    (∃ s : State, s.flxRuns = true ∧ s.flxA = true ∧ s.flxLed = true ∧ s.flx.syncSent ≠ s.now.toNat / 137438953472) ∧
    (∃ s : State, s.flxRuns = true ∧ s.flxA = true ∧ s.flx.syncSent ≠ 0 ∧ s.flx.delays = []) ∧
    (∃ s : State, s.flxRuns = true ∧ Serves s 3 (hmsg 83 [11] [3, 0, 0, 0, 0, 0, 0, 0, 1, 2, 3]) ∧
      meshSend 3 (hmsg 83 [11] [3, 0, 0, 0, 0, 0, 0, 0, 1, 2, 3]) = true ∧ s.flxA = true ∧ s.flxLed = true ∧
      (hmsg 83 [11] [3, 0, 0, 0, 0, 0, 0, 0, 1, 2, 3]).at 2 2 / 256 % 4 < s.fld FLX_STATUS.addr FLX_STATUS.SIZE ∧
      (hmsg 83 [11] [3, 0, 0, 0, 0, 0, 0, 0, 1, 2, 3]).at 2 2 % 32 < 16) ∧
    (∃ s : State, s.flxRuns = true ∧ Serves s 3 (hmsg 83 [11] [3, 0, 0, 0, 0, 0, 0, 0, 1, 2, 3]) ∧
      meshSend 3 (hmsg 83 [11] [3, 0, 0, 0, 0, 0, 0, 0, 1, 2, 3]) = true ∧ s.flxA = false) ∧
    (∃ s : State, s.flxRuns = true ∧
      (List.find? (fun (w : MbxOut) => decide (w.sentAt + 100000 ≤ s.el)) s.flx.waiting = some
          { port := 3, seq := 9, pos := 2, frame := [5, 1, 2], sentAt := 7, sends := 1 : MbxOut }) ∧ s.flxA = true ∧
      { port := 3, seq := 9, pos := 2, frame := [5, 1, 2], sentAt := 7, sends := 1 : MbxOut }.sends < 2) ∧
    (∃ s : State, s.flxRuns = true ∧
      (List.find? (fun (w : MbxOut) => decide (w.sentAt + 100000 ≤ s.el)) s.flx.waiting = some
          { port := 3, seq := 9, pos := 2, frame := [5, 1, 2], sentAt := 7, sends := 2 : MbxOut }) ∧
      2 ≤ { port := 3, seq := 9, pos := 2, frame := [5, 1, 2], sentAt := 7, sends := 2 : MbxOut }.sends) :=
  ⟨⟨{ (live 5 3000000000 |> lit [0x1200] |> rf FLX_CTL.addr FLX_CTL.EN 1) with
           flx := { Flx.reset with trains := 7, crcRun := 2 } }, by decide +kernel⟩,
   ⟨{ (live 5 3000000000 |> lit [0x1200] |> rf FLX_CTL.addr FLX_CTL.EN 1) with
           flx := { Flx.reset with trains := 6, crcRun := 2 } }, by decide +kernel⟩,
   ⟨{ (live 5 3000000000 |> lit [0x1200] |> rf FLX_CTL.addr FLX_CTL.EN 1 |> rf FLX_STATUS.addr FLX_STATUS.BUP 0 |> rf
          FLX_STATUS.addr FLX_STATUS.AUP 0 |> rf FLX_STATUS.addr FLX_STATUS.VER 1) with
           flx := { Flx.reset with crcRun := 0, trains := 5 } }, by decide +kernel⟩,
   ⟨{ (live 5 3000000000 |> lit [0x1200] |> rf FLX_CTL.addr FLX_CTL.EN 1) with flx := { Flx.reset with seq := 255 } },
      by decide +kernel⟩,
   ⟨{ (live 5 3000000000 |> lit [0x1200] |> rf FLX_CTL.addr FLX_CTL.EN 1 |> rf FLX_STATUS.addr FLX_STATUS.BUP 1 |> rf
          FLX_STATUS.addr FLX_STATUS.LEAD 1 |> rf FLX_STATUS.addr FLX_STATUS.VER 1) with
           flx := { Flx.reset with seq := 255 } }, by decide +kernel⟩,
   ⟨{ (live 5 3000000000 |> lit [0x1200] |> rf FLX_CTL.addr FLX_CTL.EN 1) with
           flx := { Flx.reset with delays := [4] } }, by decide +kernel⟩,
   ⟨{ (live 5 3000000000 |> lit [0x1200] |> rf FLX_CTL.addr FLX_CTL.EN 1 |> rf FLX_STATUS.addr FLX_STATUS.AUP 1) with
           flx := { Flx.reset with seq := 255 } }, by decide +kernel⟩,
   ⟨{ (live 5 3000000000 |> lit [0x1200] |> rf FLX_CTL.addr FLX_CTL.EN 1 |> rf FLX_STATUS.addr FLX_STATUS.AUP 1 |> rf
          FLX_STATUS.addr FLX_STATUS.BUP 1) with
           flx := { Flx.reset with seq := 255 } }, by decide +kernel⟩,
   ⟨{ (live 5 3000000000 |> lit [0x1200] |> rf FLX_CTL.addr FLX_CTL.EN 1 |> rf FLX_STATUS.addr FLX_STATUS.AUP 1) with
           flx := { Flx.reset with seq := 255 } }, by decide +kernel⟩,
   ⟨{ (live 5 3000000000 |> lit [0x1200] |> rf FLX_CTL.addr FLX_CTL.EN 1 |> rf FLX_STATUS.addr FLX_STATUS.AUP 1) with
           flx := { Flx.reset with lastSent := 2999900001 } }, by decide +kernel⟩,
   ⟨{ (live 5 3000000000 |> lit [0x1200] |> rf FLX_CTL.addr FLX_CTL.EN 1 |> rf FLX_STATUS.addr FLX_STATUS.AUP 1 |> rf
          FLX_CTL.addr FLX_CTL.LEADOK 1) with
           flx := { Flx.reset with seq := 255 } }, by decide +kernel⟩,
   ⟨{ (live 5 3000000000 |> lit [0x1200] |> rf FLX_CTL.addr FLX_CTL.EN 1 |> rf FLX_STATUS.addr FLX_STATUS.AUP 1 |> rf
          FLX_CTL.addr FLX_CTL.LEADREQ 1) with
           flx := { Flx.reset with seq := 255 } }, by decide +kernel⟩,
   ⟨{ (live 5 3000000000 |> lit [0x1200] |> rf FLX_CTL.addr FLX_CTL.EN 1 |> rf FLX_STATUS.addr FLX_STATUS.AUP 1 |> rf
          FLX_STATUS.addr FLX_STATUS.VER 1 |> rf FLX_STATUS.addr FLX_STATUS.POS 2) with
           flx := { Flx.reset with seq := 255 } }, by decide +kernel⟩,
   ⟨{ (live 5 3000000000 |> lit [0x1200] |> rf FLX_CTL.addr FLX_CTL.EN 1 |> rf FLX_STATUS.addr FLX_STATUS.AUP 1 |> rf
          FLX_STATUS.addr FLX_STATUS.VER 1 |> rf FLX_STATUS.addr FLX_STATUS.POS 2) with
           flx := { Flx.reset with syncSent := 99 } }, by decide +kernel⟩,
   ⟨{ (live 5 3000000000 |> lit [0x1200] |> rf FLX_CTL.addr FLX_CTL.EN 1 |> rf FLX_STATUS.addr FLX_STATUS.AUP 1 |> rf
          FLX_STATUS.addr FLX_STATUS.VER 1 |> rf FLX_STATUS.addr FLX_STATUS.POS 2 |> rf FLX_STATUS.addr
          FLX_STATUS.LEAD 1) with
           flx := { Flx.reset with syncSent := 99 } }, by decide +kernel⟩,
   ⟨{ (serving 5 (hmsg 0x53 [11] [3,0,0,0,0,0,0,0,1,2,3]) |> lit [0x1200] |> rf FLX_CTL.addr FLX_CTL.EN 1 |> rf
          FLX_STATUS.addr FLX_STATUS.AUP 1 |> rf FLX_STATUS.addr FLX_STATUS.VER 1 |> rf FLX_STATUS.addr
          FLX_STATUS.POS 1 |> rf FLX_STATUS.addr FLX_STATUS.SIZE 3) with
           flx := { Flx.reset with seq := 255 } }, by decide +kernel⟩,
   ⟨{ (serving 5 (hmsg 0x53 [11] [3,0,0,0,0,0,0,0,1,2,3]) |> lit [0x1200] |> rf FLX_CTL.addr FLX_CTL.EN 1) with
           flx := { Flx.reset with seq := 255 } }, by decide +kernel⟩,
   ⟨{ (live 5 3000000000 |> lit [0x1200] |> rf FLX_CTL.addr FLX_CTL.EN 1 |> rf FLX_STATUS.addr FLX_STATUS.AUP 1) with
           flx := { Flx.reset with
                 waiting := [{ port := 3, seq := 9, pos := 2, frame := [5, 1, 2], sentAt := 7, sends := 1 }] } },
      by decide +kernel⟩,
   ⟨{ (live 5 3000000000 |> lit [0x1200] |> rf FLX_CTL.addr FLX_CTL.EN 1 |> rf FLX_STATUS.addr FLX_STATUS.AUP 1) with
           flx := { Flx.reset with
                 waiting := [{ port := 3, seq := 9, pos := 2, frame := [5, 1, 2], sentAt := 7, sends := 2 }] } },
      by decide +kernel⟩⟩

/-- States that meet the hypotheses of TheMeshCarriesMessages, clause by clause. -/
theorem witness_the_mesh_carries_messages :
    (∃ s : State, s.sec.profile = some aProfile ∧ s.works 4608 = true ∧
      aNeigh.accept 96 = some ((aNeigh.accept 96).getD aNeigh)) ∧
    (∃ s : State, s.sec.profile = some aProfile ∧ s.works 4608 = true ∧ s.mesh.running = false ∧
      s.conflictUnit [(3, 20 + aProfile.csp), (4, aProfile.pin), (6, (s.meshEngine aProfile.pin).getD 0)] 768 = none) ∧
    (∃ s : State, s.sec.profile = some aProfile ∧ s.works 4608 = true ∧ s.mesh.running = false ∧
      s.conflictUnit [(3, 20 + aProfile.csp), (4, aProfile.pin), (6, (s.meshEngine aProfile.pin).getD 0)] 768 = some
        (3, 25)) ∧
    (∃ s : State, s.sec.profile = some aProfile ∧ s.works 4608 = true ∧ s.mesh.running = true ∧
      s.sec.tampered = false ∧ (s.sec.domKeys.find 0).isSome = true ∧ s.mesh.fc < 4294967296 ∧
      s.mesh.beaconAt + aProfile.beacon * 900000000 ≤ s.el) ∧
    (∃ s : State, s.sec.profile = some aProfile ∧ s.works 4608 = true ∧ s.mesh.running = true ∧
      s.el < s.mesh.beaconAt + aProfile.beacon * 900000000) ∧
    (∃ s : State, s.sec.profile = some aProfile ∧ s.works 4608 = true ∧ s.mesh.running = true ∧
      (∀ z ∈ s.staleNeigh aProfile, z.watched = false)) ∧
    (∃ s : State, s.sec.profile = some aProfile ∧ s.works 4608 = true ∧ s.mesh.running = true ∧
      s.sec.tampered = false ∧ (s.sec.domKeys.find 0).isSome = true ∧ s.mesh.fc < 4294967296 ∧
      s.mesh.parent = some 85 ∧ s.joined = true ∧ s.mesh.exchAt + 4000000000 ≤ s.el) ∧
    (∃ s : State, s.sec.profile = some aProfile ∧ s.works 4608 = true ∧ s.mesh.running = true ∧
      s.sec.tampered = false ∧ (s.sec.domKeys.find 0).isSome = true ∧ s.mesh.fc < 4294967296 ∧ s.mesh.role = some 85 ∧
      s.mesh.roleAt + 600000000000 ≤ s.el) ∧
    (∃ s : State, s.sec.profile = some aProfile ∧ s.works 4608 = true ∧ s.mesh.running = true ∧
      (s.sec.tampered = false ∧ aScrimFrame2.domain = aProfile.domain ∧ aScrimFrame2.mic = true ∧
         (s.sec.domKeys.find aScrimFrame2.slot).isSome = true ∧ aScrimFrame2.body ≠ ScrimBody.other ∧
         (aScrimFrame2.rx = aProfile.node ∨ aScrimFrame2.rx = 65535)) ∧ s.neighbour aScrimFrame2.tx = some aNeigh ∧
      aNeigh.accept aScrimFrame2.fc = none) ∧
    (∃ s : State, s.sec.profile = some aProfile ∧ s.works 4608 = true ∧ s.mesh.running = true ∧
      s.sec.tampered = false ∧
      { slot := 0, left := 3, domain := 77, tx := 85, rx := 291, fc := 300, mic := false,
        body := ScrimBody.leave : ScrimFrame }.mic = false) ∧
    (∃ s : State, s.sec.profile = some aProfile ∧ s.works 4608 = true ∧ s.mesh.running = true ∧
      (s.sec.tampered = false ∧ aScrimFrame.domain = aProfile.domain ∧ aScrimFrame.mic = true ∧
         (s.sec.domKeys.find aScrimFrame.slot).isSome = true ∧ aScrimFrame.body ≠ ScrimBody.other ∧
         (aScrimFrame.rx = aProfile.node ∨ aScrimFrame.rx = 65535)) ∧ s.neighbour aScrimFrame.tx = some aNeigh ∧
      aNeigh.accept aScrimFrame.fc = some ((aNeigh.accept 200).getD aNeigh) ∧ aScrimFrame.body = ScrimBody.leave) ∧
    (∃ s : State, s.sec.profile = some aProfile ∧ s.works 4608 = true ∧ s.mesh.running = true ∧
      (List.find? (fun (q : MeshMsg) => decide (q.sentAt + 2000000000 ≤ s.el)) s.mesh.queue = some aMeshMsg) ∧
      3 ≤ aMeshMsg.sends) ∧
    (∃ s : State, s.sec.profile = some aProfile ∧ s.works 4608 = true ∧ s.mesh.running = true ∧
      s.sec.tampered = false ∧ (s.sec.domKeys.find 0).isSome = true ∧ s.mesh.fc < 4294967296 ∧
      (List.find? (fun (q : MeshMsg) => decide (q.sentAt + 2000000000 ≤ s.el)) s.mesh.queue = some aMeshMsg2) ∧
      aMeshMsg2.sends < 3 ∧ aMeshMsg2.ack = true ∧ aMeshMsg2.dkind = 0 ∧ aMeshMsg2.dest ≠ aProfile.node) ∧
    (∃ s : State, s.sec.profile = some aProfile ∧ s.works 4608 = true ∧ s.mesh.running = true ∧
      s.mesh.table = [aRepEntry] ∧ aRepEntry.ready = false ∧ aRepEntry.closeAt ≤ s.now.toNat) ∧
    (∃ s : State, s.sec.profile = some aProfile ∧ s.works 4608 = true ∧ s.mesh.running = true ∧
      s.sec.tampered = false ∧ (s.sec.domKeys.find 0).isSome = true ∧ s.mesh.fc < 4294967296 ∧
      s.mesh.table = [aRepEntry2] ∧ aRepEntry2.ready = true ∧ s.mesh.hops ≠ 0 ∧ s.mesh.parent = some 85) ∧
    (∃ s : State, s.sec.profile = some aProfile ∧ s.works 4608 = true ∧
      Serves s 3 (hmsg 83 [11] [0, 1, 102, 0, 0, 0, 0, 0, 1, 2, 3]) ∧
      meshSend 0 (hmsg 83 [11] [0, 1, 102, 0, 0, 0, 0, 0, 1, 2, 3]) = true ∧ s.mesh.running = true ∧
      s.sec.tampered = false ∧ (s.sec.domKeys.find 0).isSome = true ∧ s.mesh.fc < 4294967296 ∧ s.mesh.hops ≤ 16 ∧
      s.mesh.queue.length < 16 ∧ (hmsg 83 [11] [0, 1, 102, 0, 0, 0, 0, 0, 1, 2, 3]).at 1 1 % 2 = 1 ∧
      (hmsg 83 [11] [0, 1, 102, 0, 0, 0, 0, 0, 1, 2, 3]).at 2 2 ≠ aProfile.node) ∧
    (∃ s : State, s.sec.profile = some aProfile ∧ s.works 4608 = true ∧
      Serves s 3 (hmsg 83 [11] [0, 1, 102, 0, 0, 0, 0, 0, 1, 2, 3]) ∧
      meshSend 0 (hmsg 83 [11] [0, 1, 102, 0, 0, 0, 0, 0, 1, 2, 3]) = true ∧ s.mesh.running = true ∧
      s.mesh.hops ≤ 16 ∧ 16 ≤ s.mesh.queue.length) ∧
    (∃ s : State, s.sec.profile = some aProfile ∧ s.works 4608 = true ∧
      Serves s 3 (hmsg 83 [11] [0, 1, 102, 0, 0, 0, 0, 0, 1, 2, 3]) ∧
      meshSend 0 (hmsg 83 [11] [0, 1, 102, 0, 0, 0, 0, 0, 1, 2, 3]) = true ∧ s.joined = false) ∧
    (∃ s : State, s.sec.profile = some aProfile ∧ s.works 4608 = true ∧
      Serves s 3 (hmsg 83 [11] [1, 1, 102, 0, 7, 0, 0, 0, 1, 2, 3]) ∧
      meshSend 1 (hmsg 83 [11] [1, 1, 102, 0, 7, 0, 0, 0, 1, 2, 3]) = true ∧ s.mesh.running = true ∧
      s.sec.tampered = false ∧ (s.sec.domKeys.find 0).isSome = true ∧ s.mesh.fc < 4294967296 ∧ s.mesh.hops ≤ 16 ∧
      s.mesh.queue.length < 16 ∧ (hmsg 83 [11] [1, 1, 102, 0, 7, 0, 0, 0, 1, 2, 3]).at 1 1 % 2 = 1 ∧
      (hmsg 83 [11] [1, 1, 102, 0, 7, 0, 0, 0, 1, 2, 3]).at 4 2 = s.roleEpoch
        ((hmsg 83 [11] [1, 1, 102, 0, 7, 0, 0, 0, 1, 2, 3]).at 2 2) ∧
      s.mesh.role ≠ some ((hmsg 83 [11] [1, 1, 102, 0, 7, 0, 0, 0, 1, 2, 3]).at 2 2)) ∧
    (∃ s : State, s.sec.profile = some aProfile ∧ s.works 4608 = true ∧
      Serves s 3 (hmsg 83 [11] [1, 1, 102, 0, 7, 0, 0, 0, 1, 2, 3]) ∧
      meshSend 1 (hmsg 83 [11] [1, 1, 102, 0, 7, 0, 0, 0, 1, 2, 3]) = true ∧ s.mesh.running = true ∧
      s.mesh.hops ≤ 16 ∧
      (hmsg 83 [11] [1, 1, 102, 0, 7, 0, 0, 0, 1, 2, 3]).at 4 2 ≠ s.roleEpoch
        ((hmsg 83 [11] [1, 1, 102, 0, 7, 0, 0, 0, 1, 2, 3]).at 2 2)) ∧
    (∃ s : State, s.sec.profile = some aProfile ∧ s.works 4608 = true ∧
      Serves s 3 (hmsg 83 [11] [0, 3, 102, 0, 7, 0, 0, 0, 1, 2, 3]) ∧
      (hmsg 83 [11] [0, 3, 102, 0, 7, 0, 0, 0, 1, 2, 3]).op = 83 ∧
      (hmsg 83 [11] [0, 3, 102, 0, 7, 0, 0, 0, 1, 2, 3]).at 1 1 / 2 % 2 = 1 ∧ s.mesh.running = true ∧
      s.mesh.table = []) ∧
    (∃ s : State, s.sec.profile = some aProfile ∧ s.works 4608 = true ∧
      Serves s 3 (hmsg 82 [8] [3, 0, 0, 0, 0, 0, 5, 0]) ∧ (hmsg 82 [8] [3, 0, 0, 0, 0, 0, 5, 0]).op = 82 ∧
      (hmsg 82 [8] [3, 0, 0, 0, 0, 0, 5, 0]).at 0 1 = 3 ∧ s.mesh.running = true ∧
      (hmsg 82 [8] [3, 0, 0, 0, 0, 0, 5, 0]).at 6 2 = 5 ∧
      (hmsg 82 [8] [3, 0, 0, 0, 0, 0, 5, 0]).at 4 2 = s.roleEpoch 5) ∧
    (∃ s : State, s.sec.profile = some aProfile ∧ s.works 4608 = true ∧
      Serves s 3 (hmsg 82 [8] [3, 0, 0, 0, 0, 0, 5, 0]) ∧ (hmsg 82 [8] [3, 0, 0, 0, 0, 0, 5, 0]).op = 82 ∧
      (hmsg 82 [8] [3, 0, 0, 0, 0, 0, 5, 0]).at 0 1 = 3 ∧ s.mesh.running = true ∧
      (hmsg 82 [8] [3, 0, 0, 0, 0, 0, 5, 0]).at 6 2 = 5 ∧
      (hmsg 82 [8] [3, 0, 0, 0, 0, 0, 5, 0]).at 4 2 ≠ s.roleEpoch 5) ∧
    (∃ s : State, s.sec.profile = some aProfile ∧ s.works 4608 = true ∧ s.mesh.running = true ∧
      (s.sec.tampered = false ∧ anAckFrame.domain = aProfile.domain ∧ anAckFrame.mic = true ∧
         (s.sec.domKeys.find anAckFrame.slot).isSome = true ∧ anAckFrame.body ≠ ScrimBody.other ∧
         (anAckFrame.rx = aProfile.node ∨ anAckFrame.rx = 65535)) ∧ s.neighbour anAckFrame.tx = some aNeigh ∧
      aNeigh.accept anAckFrame.fc = some ((aNeigh.accept 200).getD aNeigh) ∧
      (∃ o k, anAckFrame.body = .ack o k aProfile.node aMeshMsg.msg false ∧ s.mesh.seen.contains (o, k) = false) ∧
      s.sentHandle aMeshMsg.msg = some aMeshMsg.handle) :=
  ⟨⟨{ (live 5 5 |> lit [0x1200]) with
           el := 10000000000000
           time := { (live 5 5).time with t0El := 10000000000000 }
           mesh := { Mesh.reset with fcEnd := 0x10000 }
           sec := { Sec.reset with
                 profile := some { leadReq := false, leadOk := false, domain := 77, node := 0x123, csp := 5,
                                   pin := 47, beacon := 10, lostn := 3, window := 100, quota := 5, watched := true,
                                   gateway := false, repAlarm := false, txLat := 3, rxLat := 4 }
                 domKeys := [(0, [1])] } }, by decide +kernel⟩,
   ⟨{ (live 5 5 |> lit [0x1200]) with
           el := 10000000000000
           time := { (live 5 5).time with t0El := 10000000000000 }
           mesh := { Mesh.reset with fcEnd := 0x10000 }
           sec := { Sec.reset with
                 profile := some { leadReq := false, leadOk := false, domain := 77, node := 0x123, csp := 5,
                                   pin := 47, beacon := 10, lostn := 3, window := 100, quota := 5, watched := true,
                                   gateway := false, repAlarm := false, txLat := 3, rxLat := 4 }
                 domKeys := [(0, [1])] } }, by decide +kernel⟩,
   ⟨{ (live 5 5 |> lit [0x1200]) with
           el := 10000000000000
           time := { (live 5 5).time with t0El := 10000000000000 }
           mesh := { Mesh.reset with fcEnd := 0x10000 }
           sec := { Sec.reset with
                 profile := some { leadReq := false, leadOk := false, domain := 77, node := 0x123, csp := 5,
                                   pin := 47, beacon := 10, lostn := 3, window := 100, quota := 5, watched := true,
                                   gateway := false, repAlarm := false, txLat := 3, rxLat := 4 }
                 domKeys := [(0, [1])] }
           owner := [(unitKey 3 25, 0x1300)] }, by decide +kernel⟩,
   ⟨{ (live 5 5 |> lit [0x1200]) with
           el := 10000000000000
           time := { (live 5 5).time with t0El := 10000000000000 }
           mesh := { Mesh.reset with running := true, fc := 0x1FF, fcEnd := 0x10000 }
           sec := { Sec.reset with
                 profile := some { leadReq := false, leadOk := false, domain := 77, node := 0x123, csp := 5,
                                   pin := 47, beacon := 10, lostn := 3, window := 100, quota := 5, watched := true,
                                   gateway := false, repAlarm := false, txLat := 3, rxLat := 4 }
                 domKeys := [(0, [1])] } }, by decide +kernel⟩,
   ⟨{ (live 5 5 |> lit [0x1200]) with
           el := 10000000000000
           time := { (live 5 5).time with t0El := 10000000000000 }
           mesh := { Mesh.reset with running := true, fc := 0x1FF, fcEnd := 0x10000, beaconAt := 9999999999999 }
           sec := { Sec.reset with
                 profile := some { leadReq := false, leadOk := false, domain := 77, node := 0x123, csp := 5,
                                   pin := 47, beacon := 10, lostn := 3, window := 100, quota := 5, watched := true,
                                   gateway := false, repAlarm := false, txLat := 3, rxLat := 4 }
                 domKeys := [(0, [1])] } }, by decide +kernel⟩,
   ⟨{ (live 5 5 |> lit [0x1200]) with
           el := 10000000000000
           time := { (live 5 5).time with t0El := 10000000000000 }
           mesh := { Mesh.reset with
                 running := true
                 fc := 0x1FF
                 fcEnd := 0x10000
                 neigh := [{ node := 0x55, heard := 5, role := 1, epoch := 2, hops := 1, parent := 0x66, unc := 5,
                             watched := false, gateway := false, fc := 100, window := 5 },
                    { node := 0x55, heard := 9999999999999, role := 1, epoch := 2, hops := 1, parent := 0x66,
                      unc := 5, watched := true, gateway := false, fc := 100, window := 5 }] }
           sec := { Sec.reset with
                 profile := some { leadReq := false, leadOk := false, domain := 77, node := 0x123, csp := 5,
                                   pin := 47, beacon := 10, lostn := 3, window := 100, quota := 5, watched := true,
                                   gateway := false, repAlarm := false, txLat := 3, rxLat := 4 }
                 domKeys := [(0, [1])] } }, by decide +kernel⟩,
   ⟨{ (live 5 5 |> lit [0x1200]) with
           el := 10000000000000
           time := { (live 5 5).time with t0El := 10000000000000 }
           mesh := { Mesh.reset with
                 running := true
                 fc := 0x1FF
                 fcEnd := 0x10000
                 parent := some 0x55
                 hops := 3
                 neigh := [{ node := 0x55, heard := 9999999999999, role := 1, epoch := 2, hops := 1, parent := 0x66,
                             unc := 5, watched := true, gateway := false, fc := 100, window := 5 }] }
           sec := { Sec.reset with
                 profile := some { leadReq := false, leadOk := false, domain := 77, node := 0x123, csp := 5,
                                   pin := 47, beacon := 10, lostn := 3, window := 100, quota := 5, watched := true,
                                   gateway := false, repAlarm := false, txLat := 3, rxLat := 4 }
                 domKeys := [(0, [1])] } }, by decide +kernel⟩,
   ⟨{ (live 5 5 |> lit [0x1200]) with
           el := 10000000000000
           time := { (live 5 5).time with t0El := 10000000000000 }
           mesh := { Mesh.reset with running := true, fc := 0x1FF, fcEnd := 0x10000, role := some 0x55, hops := 3 }
           sec := { Sec.reset with
                 profile := some { leadReq := false, leadOk := false, domain := 77, node := 0x123, csp := 5,
                                   pin := 47, beacon := 10, lostn := 3, window := 100, quota := 5, watched := true,
                                   gateway := false, repAlarm := false, txLat := 3, rxLat := 4 }
                 domKeys := [(0, [1])] } }, by decide +kernel⟩,
   ⟨{ (live 5 5 |> lit [0x1200]) with
           el := 10000000000000
           time := { (live 5 5).time with t0El := 10000000000000 }
           mesh := { Mesh.reset with
                 running := true
                 fc := 0x1FF
                 fcEnd := 0x10000
                 neigh := [{ node := 0x55, heard := 5, role := 1, epoch := 2, hops := 1, parent := 0x66, unc := 5,
                             watched := false, gateway := false, fc := 100, window := 5 }] }
           sec := { Sec.reset with
                 profile := some { leadReq := false, leadOk := false, domain := 77, node := 0x123, csp := 5,
                                   pin := 47, beacon := 10, lostn := 3, window := 100, quota := 5, watched := true,
                                   gateway := false, repAlarm := false, txLat := 3, rxLat := 4 }
                 domKeys := [(0, [1])] } }, by decide +kernel⟩,
   ⟨{ (live 5 5 |> lit [0x1200]) with
           el := 10000000000000
           time := { (live 5 5).time with t0El := 10000000000000 }
           mesh := { Mesh.reset with running := true, fc := 0x1FF, fcEnd := 0x10000 }
           sec := { Sec.reset with
                 profile := some { leadReq := false, leadOk := false, domain := 77, node := 0x123, csp := 5,
                                   pin := 47, beacon := 10, lostn := 3, window := 100, quota := 5, watched := true,
                                   gateway := false, repAlarm := false, txLat := 3, rxLat := 4 }
                 domKeys := [(0, [1])] } }, by decide +kernel⟩,
   ⟨{ (live 5 5 |> lit [0x1200]) with
           el := 10000000000000
           time := { (live 5 5).time with t0El := 10000000000000 }
           mesh := { Mesh.reset with
                 running := true
                 fc := 0x1FF
                 fcEnd := 0x10000
                 neigh := [{ node := 0x55, heard := 5, role := 1, epoch := 2, hops := 1, parent := 0x66, unc := 5,
                             watched := false, gateway := false, fc := 100, window := 5 }]
                 parent := some 0x55
                 hops := 2 }
           sec := { Sec.reset with
                 profile := some { leadReq := false, leadOk := false, domain := 77, node := 0x123, csp := 5,
                                   pin := 47, beacon := 10, lostn := 3, window := 100, quota := 5, watched := true,
                                   gateway := false, repAlarm := false, txLat := 3, rxLat := 4 }
                 domKeys := [(0, [1])] } }, by decide +kernel⟩,
   ⟨{ (live 5 5 |> lit [0x1200]) with
           el := 10000000000000
           time := { (live 5 5).time with t0El := 10000000000000 }
           mesh := { Mesh.reset with
                 running := true
                 fc := 0x1FF
                 fcEnd := 0x10000
                 queue := [{ handle := 3, port := 3, msg := 5, dkind := 0, dest := 0x66, epoch := 0, ack := true,
                             data := [1,2], sentAt := 5, sends := 3 }] }
           sec := { Sec.reset with
                 profile := some { leadReq := false, leadOk := false, domain := 77, node := 0x123, csp := 5,
                                   pin := 47, beacon := 10, lostn := 3, window := 100, quota := 5, watched := true,
                                   gateway := false, repAlarm := false, txLat := 3, rxLat := 4 }
                 domKeys := [(0, [1])] } }, by decide +kernel⟩,
   ⟨{ (live 5 5 |> lit [0x1200]) with
           el := 10000000000000
           time := { (live 5 5).time with t0El := 10000000000000 }
           mesh := { Mesh.reset with
                 running := true
                 fc := 0x1FF
                 fcEnd := 0x10000
                 queue := [{ handle := 3, port := 3, msg := 5, dkind := 0, dest := 0x66, epoch := 0, ack := true,
                             data := [1,2], sentAt := 5, sends := 2 }] }
           sec := { Sec.reset with
                 profile := some { leadReq := false, leadOk := false, domain := 77, node := 0x123, csp := 5,
                                   pin := 47, beacon := 10, lostn := 3, window := 100, quota := 5, watched := true,
                                   gateway := false, repAlarm := false, txLat := 3, rxLat := 4 }
                 domKeys := [(0, [1])] } }, by decide +kernel⟩,
   ⟨{ (live 5 5 |> lit [0x1200]) with
           el := 10000000000000
           time := { (live 5 5).time with acc := 0x10000000000000000000, t0El := 10000000000000 }
           mesh := { Mesh.reset with
                 running := true
                 fc := 0x1FF
                 fcEnd := 0x10000
                 table := [{ rep := { gts := ⟨5,1⟩, subj := 1, cause := 2, epoch := 0, count := 1, flags := 0,
                                      hops := 0, first := 1 }, closeAt := 9, ready := false, order := 0 }] }
           sec := { Sec.reset with
                 profile := some { leadReq := false, leadOk := false, domain := 77, node := 0x123, csp := 5,
                                   pin := 47, beacon := 10, lostn := 3, window := 100, quota := 5, watched := true,
                                   gateway := false, repAlarm := false, txLat := 3, rxLat := 4 }
                 domKeys := [(0, [1])] } }, by decide +kernel⟩,
   ⟨{ (live 5 5 |> lit [0x1200]) with
           el := 10000000000000
           time := { (live 5 5).time with t0El := 10000000000000 }
           mesh := { Mesh.reset with
                 running := true
                 fc := 0x1FF
                 fcEnd := 0x10000
                 table := [{ rep := { gts := ⟨5,1⟩, subj := 1, cause := 2, epoch := 0, count := 1, flags := 0,
                                      hops := 0, first := 1 }, closeAt := 9, ready := true, order := 0 }]
                 hops := 3
                 parent := some 0x55 }
           sec := { Sec.reset with
                 profile := some { leadReq := false, leadOk := false, domain := 77, node := 0x123, csp := 5,
                                   pin := 47, beacon := 10, lostn := 3, window := 100, quota := 5, watched := true,
                                   gateway := false, repAlarm := false, txLat := 3, rxLat := 4 }
                 domKeys := [(0, [1])] } }, by decide +kernel⟩,
   ⟨{ (serving 5 (hmsg 0x53 [11] [0,1,102,0,0,0,0,0,1,2,3]) |> lit [0x1200]) with
           el := 10000000000000
           time := { (live 5 5).time with t0El := 10000000000000 }
           mesh := { Mesh.reset with running := true, fc := 0x1FF, fcEnd := 0x10000, hops := 1 }
           sec := { Sec.reset with
                 profile := some { leadReq := false, leadOk := false, domain := 77, node := 0x123, csp := 5,
                                   pin := 47, beacon := 10, lostn := 3, window := 100, quota := 5, watched := true,
                                   gateway := false, repAlarm := false, txLat := 3, rxLat := 4 }
                 domKeys := [(0, [1])] } }, by decide +kernel⟩,
   ⟨{ (serving 5 (hmsg 0x53 [11] [0,1,102,0,0,0,0,0,1,2,3]) |> lit [0x1200]) with
           el := 10000000000000
           time := { (live 5 5).time with t0El := 10000000000000 }
           mesh := { Mesh.reset with
                 running := true
                 fc := 0x1FF
                 fcEnd := 0x10000
                 hops := 16
                 queue := List.replicate 16 { handle := 3, port := 3, msg := 5, dkind := 0, dest := 0x66, epoch := 0,
                                              ack := true, data := [1,2], sentAt := 5, sends := 1 } }
           sec := { Sec.reset with
                 profile := some { leadReq := false, leadOk := false, domain := 77, node := 0x123, csp := 5,
                                   pin := 47, beacon := 10, lostn := 3, window := 100, quota := 5, watched := true,
                                   gateway := false, repAlarm := false, txLat := 3, rxLat := 4 }
                 domKeys := [(0, [1])] } }, by decide +kernel⟩,
   ⟨{ (serving 5 (hmsg 0x53 [11] [0,1,102,0,0,0,0,0,1,2,3]) |> lit [0x1200]) with
           el := 10000000000000
           time := { (live 5 5).time with t0El := 10000000000000 }
           mesh := { Mesh.reset with fcEnd := 0x10000 }
           sec := { Sec.reset with
                 profile := some { leadReq := false, leadOk := false, domain := 77, node := 0x123, csp := 5,
                                   pin := 47, beacon := 10, lostn := 3, window := 100, quota := 5, watched := true,
                                   gateway := false, repAlarm := false, txLat := 3, rxLat := 4 }
                 domKeys := [(0, [1])] } }, by decide +kernel⟩,
   ⟨{ (serving 5 (hmsg 0x53 [11] [1,1,102,0,7,0,0,0,1,2,3]) |> lit [0x1200]) with
           el := 10000000000000
           time := { (live 5 5).time with t0El := 10000000000000 }
           mesh := { Mesh.reset with
                 running := true
                 fc := 0x1FF
                 fcEnd := 0x10000
                 hops := 1
                 roles := [(0x66,(0x99,7))] }
           sec := { Sec.reset with
                 profile := some { leadReq := false, leadOk := false, domain := 77, node := 0x123, csp := 5,
                                   pin := 47, beacon := 10, lostn := 3, window := 100, quota := 5, watched := true,
                                   gateway := false, repAlarm := false, txLat := 3, rxLat := 4 }
                 domKeys := [(0, [1])] } }, by decide +kernel⟩,
   ⟨{ (serving 5 (hmsg 0x53 [11] [1,1,102,0,7,0,0,0,1,2,3]) |> lit [0x1200]) with
           el := 10000000000000
           time := { (live 5 5).time with t0El := 10000000000000 }
           mesh := { Mesh.reset with
                 running := true
                 fc := 0x1FF
                 fcEnd := 0x10000
                 hops := 1
                 roles := [(0x66,(0x99,8))] }
           sec := { Sec.reset with
                 profile := some { leadReq := false, leadOk := false, domain := 77, node := 0x123, csp := 5,
                                   pin := 47, beacon := 10, lostn := 3, window := 100, quota := 5, watched := true,
                                   gateway := false, repAlarm := false, txLat := 3, rxLat := 4 }
                 domKeys := [(0, [1])] } }, by decide +kernel⟩,
   ⟨{ (serving 5 (hmsg 0x53 [11] [0,3,102,0,7,0,0,0,1,2,3]) |> lit [0x1200]) with
           el := 10000000000000
           time := { (live 5 5).time with t0El := 10000000000000 }
           mesh := { Mesh.reset with running := true, fc := 0x1FF, fcEnd := 0x10000 }
           sec := { Sec.reset with
                 profile := some { leadReq := false, leadOk := false, domain := 77, node := 0x123, csp := 5,
                                   pin := 47, beacon := 10, lostn := 3, window := 100, quota := 5, watched := true,
                                   gateway := false, repAlarm := false, txLat := 3, rxLat := 4 }
                 domKeys := [(0, [1])] } }, by decide +kernel⟩,
   ⟨{ (serving 5 (hmsg 0x52 [8] [3,0,0,0,0,0,5,0]) |> lit [0x1200]) with
           el := 10000000000000
           time := { (live 5 5).time with t0El := 10000000000000 }
           mesh := { Mesh.reset with running := true, fc := 0x1FF, fcEnd := 0x10000 }
           sec := { Sec.reset with
                 profile := some { leadReq := false, leadOk := false, domain := 77, node := 0x123, csp := 5,
                                   pin := 47, beacon := 10, lostn := 3, window := 100, quota := 5, watched := true,
                                   gateway := false, repAlarm := false, txLat := 3, rxLat := 4 }
                 domKeys := [(0, [1])] } }, by decide +kernel⟩,
   ⟨{ (serving 5 (hmsg 0x52 [8] [3,0,0,0,0,0,5,0]) |> lit [0x1200]) with
           el := 10000000000000
           time := { (live 5 5).time with t0El := 10000000000000 }
           mesh := { Mesh.reset with running := true, fc := 0x1FF, fcEnd := 0x10000, roles := [(5,(0x99,8))] }
           sec := { Sec.reset with
                 profile := some { leadReq := false, leadOk := false, domain := 77, node := 0x123, csp := 5,
                                   pin := 47, beacon := 10, lostn := 3, window := 100, quota := 5, watched := true,
                                   gateway := false, repAlarm := false, txLat := 3, rxLat := 4 }
                 domKeys := [(0, [1])] } }, by decide +kernel⟩,
   ⟨{ (live 5 5 |> lit [0x1200]) with
           mesh := { Mesh.reset with
                 running := true
                 fc := 0x1FF
                 fcEnd := 0x10000
                 neigh := [aNeigh]
                 sent := [(aMeshMsg.msg, aMeshMsg.handle)]
                 queue := [aMeshMsg] }
           sec := { Sec.reset with profile := some aProfile, domKeys := [(0, [1])] } },
    by decide +kernel, by decide +kernel, by decide +kernel, by decide +kernel, by decide +kernel, by decide +kernel,
    ⟨85, 9, by decide +kernel, by decide +kernel⟩, by decide +kernel⟩⟩

/-- States that meet the hypotheses of BootsUpdatesAndScrubs, clause by clause. -/
theorem witness_boots_updates_and_scrubs :
    (State.reset.isOn 0x1000 = true ∧ State.reset.ohp.running = false ∧ State.reset.ohp.recovery = false ∧
      4 ≤ State.reset.mode ∧ State.reset.isOn 0x1900 = false) ∧
    (∃ s : State, s.isOn 4096 = true ∧ s.ohp.running = false ∧ s.ohp.recovery = false ∧ 4 ≤ s.mode ∧
      s.isOn 0x1900 = true ∧ s.isOn 0x1700 = true ∧ s.pwr.entry = none ∧ s.sec.tampered = false ∧ s.repairJournal.journal = some aJournal ∧ aJournal.trial = false) ∧
    (∃ s : State, s.isOn 4096 = true ∧ s.ohp.running = false ∧ s.ohp.recovery = false ∧ 4 ≤ s.mode ∧
      s.isOn 0x1900 = true ∧ s.isOn 0x1700 = true ∧ s.pwr.entry = none ∧ s.sec.tampered = false ∧ s.repairJournal.journal = none ∧ s.repairJournal.slotVerifies 0 0 = false ∧
      s.repairJournal.slotVerifies 1 0 = false) ∧
    (∃ s : State, slotOf 272629764 = some 1 ∧ 0 = 0 ∧ Reached s 272629764 ∧ s.mode = 7) ∧
    (∃ s : State, slotOf 272629756 = some 0 ∧ 0 = 0 ∧ Reached s 272629756 ∧ s.mode ≠ 7) ∧
    (∃ s : State, Reached s SEC_SCRUB.addr ∧ s.sec.scrub = none ∧
      fget (fset (fset 0 SEC_SCRUB.GO 1) SEC_SCRUB.BLOCK 0) SEC_SCRUB.GO = 1) ∧
    (∃ s : State, Reached s SEC_SCRUB.addr ∧ s.sec.scrub ≠ none) ∧
    (∃ s : State, s.ohp.running = true ∧ s.works 4096 = true ∧ 4 ≤ s.mode ∧ s.sec.scrub = none ∧
      s.sec.scrubbedAt + 3600000000000 ≤ s.el) ∧
    (∃ s : State, s.ohp.running = true ∧ s.works 4096 = true ∧ 4 ≤ s.mode ∧ s.sec.scrub = none ∧ s.catchingUp = true ∧
      s.sec.scrubbedAt + 10000000 ≤ s.el) ∧
    (∃ s : State, s.catchingUp = false) ∧
    (∃ s : State, s.sec.scrub = some (7, 77) ∧ s.ohp.running = false) ∧
    (∃ s : State, s.sec.scrub = some (0, 77) ∧ s.ohp.running = true ∧ 0 = s.scrubNext) ∧
    (∃ s : State, (s.fld SEC_TAMPCFG.addr SEC_TAMPCFG.EN).testBit 7 = true ∧
      (s.fld SEC_TAMPCFG.addr SEC_TAMPCFG.LEVEL).testBit 7 = false ∧
      (s.fld SEC_TAMP.addr SEC_TAMP.PINS).testBit 7 = false ∧ 4 ≤ s.mode ∧ s.pwr.entry = none ∧ s.sup.descent = none) ∧
    (∃ s : State, (s.fld SEC_TAMPCFG.addr SEC_TAMPCFG.EN).testBit 7 = true ∧
      (s.fld SEC_TAMPCFG.addr SEC_TAMPCFG.LEVEL).testBit 7 = true ∧
      (s.fld SEC_TAMP.addr SEC_TAMP.PINS).testBit 7 = false ∧ s.mode = 1 ∧ s.pwr.entry = none ∧ s.sup.descent = none ∧
      s.supply PWR_SUPPLY.MAINOK = 0) ∧
    (∃ s : State, (s.fld SEC_TAMPCFG.addr SEC_TAMPCFG.EN).testBit 7 = false) ∧
    (∃ s : State, Serves s 3 (hmsg 96 [4] [0, 0, 64, 0]) ∧ (hmsg 96 [4] [0, 0, 64, 0]).op = 96 ∧ s.mode = 7 ∧
      128 ≤ (hmsg 96 [4] [0, 0, 64, 0]).at 0 4 ∧ (hmsg 96 [4] [0, 0, 64, 0]).at 0 4 ≤ 4194304 ∧
      (s.tookFrom 3).journalNow.trial = false ∧ s.updateHeld = false) ∧
    (∃ s : State, Serves s 3 (hmsg 96 [4] [0, 0, 64, 0]) ∧ (hmsg 96 [4] [0, 0, 64, 0]).op = 96 ∧ s.mode ≠ 7) ∧
    (∃ s : State, Serves s 3 (hmsg 96 [4] [0, 0, 64, 0]) ∧ (hmsg 96 [4] [0, 0, 64, 0]).op = 96 ∧ s.mode = 7 ∧
      128 ≤ (hmsg 96 [4] [0, 0, 64, 0]).at 0 4 ∧ (hmsg 96 [4] [0, 0, 64, 0]).at 0 4 ≤ 4194304 ∧
      (s.tookFrom 3).journalNow.trial = true) ∧
    (∃ s : State, Serves s 3 (hmsg 97 [7] [0, 0, 0, 0, 1, 2, 3]) ∧ s.mode = 7 ∧ s.updateHeld = true ∧ s.updPort = 3 ∧
      (hmsg 97 [7] [0, 0, 0, 0, 1, 2, 3]).op = 97 ∧ (hmsg 97 [7] [0, 0, 0, 0, 1, 2, 3]).at 0 4 ≤ s.updCount ∧
      (hmsg 97 [7] [0, 0, 0, 0, 1, 2, 3]).at 0 4 + (List.take ((hmsg 97 [7] [0, 0, 0, 0, 1, 2, 3]).len - 4)
          (List.drop 4 (hmsg 97 [7] [0, 0, 0, 0, 1, 2, 3]).payload)).length ≤ s.updLength ∧
      List.take ((hmsg 97 [7] [0, 0, 0, 0, 1, 2, 3]).len - 4)
        (List.drop 4 (hmsg 97 [7] [0, 0, 0, 0, 1, 2, 3]).payload) ≠ []) ∧
    (∃ s : State, Serves s 3 (hmsg 97 [7] [5, 0, 0, 0, 1, 2, 3]) ∧ s.mode = 7 ∧ s.updateHeld = true ∧ s.updPort = 3 ∧
      (hmsg 97 [7] [5, 0, 0, 0, 1, 2, 3]).op = 97 ∧ s.updCount < (hmsg 97 [7] [5, 0, 0, 0, 1, 2, 3]).at 0 4) ∧
    (∃ s : State, Serves s 3 (hmsg 98 [0] []) ∧ s.mode = 7 ∧ s.updateHeld = true ∧ s.updPort = 3 ∧
      (hmsg 98 [0] []).op = 98) ∧
    (∃ s : State, Serves s 3 (hmsg 99 [0] []) ∧ s.mode = 7 ∧ s.updateHeld = true ∧ s.updPort = 3 ∧
      (hmsg 99 [0] []).op = 99 ∧ s.updVerified = false) ∧
    (∃ s : State, Serves s 3 (hmsg 99 [0] []) ∧ s.mode = 7 ∧ s.updateHeld = true ∧ s.updPort = 3 ∧
      (hmsg 99 [0] []).op = 99 ∧ s.updVerified = true ∧ hdrKind ((s.tookFrom 3).header s.updTarget) = 0) ∧
    (∃ s : State, Serves s 3 (hmsg 99 [0] []) ∧ s.mode = 7 ∧ s.updateHeld = true ∧ s.updPort = 3 ∧
      (hmsg 99 [0] []).op = 99 ∧ s.updVerified = true ∧ hdrKind ((s.tookFrom 3).header s.updTarget) = 1) ∧
    (∃ s : State, Serves s 3 (hmsg 99 [0] []) ∧ s.mode = 7 ∧ s.updateHeld = true ∧ s.updPort = 3 ∧
      (hmsg 99 [0] []).op = 99 ∧ s.updVerified = true ∧ hdrKind ((s.tookFrom 3).header s.updTarget) = 2) ∧
    (∃ s : State, Serves s 3 (hmsg 99 [0] []) ∧ s.mode = 7 ∧ s.updateHeld = true ∧ s.updPort = 3 ∧
      (hmsg 99 [0] []).op = 99 ∧ s.updVerified = true ∧ hdrKind ((s.tookFrom 3).header s.updTarget) = 3) ∧
    (∃ s : State, Serves s 3 (hmsg 100 [0] []) ∧ (hmsg 100 [0] []).op = 100 ∧ s.mode = 7 ∧
      (s.updateHeld = true → s.updPort = 3) ∧ (s.tookFrom 3).journalNow.trial = true) ∧
    (∃ s : State, s.ohp.activate = some (3, 5, 77) ∧ 100000077 ≤ s.el) ∧
    (∃ s : State, s.ohp.activate = some (3, 5, 77) ∧ s.el < 100000077 ∧ 32767 < seqDiff (s.aOut 3) 5) ∧
    (∃ s : State, s.ohp.running = true ∧ s.isOn 4096 = true) ∧
    (∃ s : State, s.ohp.running = false) :=
  ⟨by decide +kernel, ⟨{ (live 5 5 |> lit [0x1700, 0x1900] |> (fun s => (s.store (journalBase 0) (Journal.bytes
                 { seq := 3, active := 1, trial := false, trials := 2, version := 7, floor := 2, scrub := 0,
                   passday := 0 })).store (journalBase 1) (Journal.bytes
               { seq := 3, active := 1, trial := false, trials := 2, version := 7, floor := 2, scrub := 0,
                 passday := 0 }))) with
           el := 10000000000000
           ohp := Ohp.reset
           time := { (live 5 5).time with t0El := 10000000000000 } }, by decide +kernel⟩,
   ⟨{ (live 5 5 |> lit [0x1700, 0x1900] |> (fun s => (s.store 0x10000004 [1]).store 0x10400004 [1])) with
           el := 10000000000000
           ohp := Ohp.reset
           time := { (live 5 5).time with t0El := 10000000000000 } }, by decide +kernel⟩,
   ⟨{ (live 7 5 |> lit [0x1700, 0x1900]) with
           el := 10000000000000
           time := { (live 5 5).time with t0El := 10000000000000 } }, by decide +kernel⟩,
   ⟨{ (live 5 5 |> lit [0x1700, 0x1900]) with
           el := 10000000000000
           time := { (live 5 5).time with t0El := 10000000000000 } }, by decide +kernel⟩,
   ⟨{ (live 5 5 |> lit [0x1700, 0x1900]) with
           el := 10000000000000
           time := { (live 5 5).time with t0El := 10000000000000 } }, by decide +kernel⟩,
   ⟨{ (live 5 5 |> lit [0x1700, 0x1900]) with
           el := 10000000000000
           sec := { Sec.reset with scrub := some (3,4) }
           time := { (live 5 5).time with t0El := 10000000000000 } }, by decide +kernel⟩,
   ⟨{ (live 5 5 |> lit [0x1700, 0x1900]) with
           el := 10000000000000
           time := { (live 5 5).time with t0El := 10000000000000 } }, by decide +kernel⟩,
   ⟨{ (live 5 5 |> lit [0x1700, 0x1900]) with
           el := 10000000000000
           sec := { Sec.reset with passNow := true }
           time := { (live 5 5).time with t0El := 10000000000000 } }, by decide +kernel⟩,
   ⟨{ (live 5 5 |> lit [0x1700, 0x1900]) with
           el := 10000000000000
           time := { (live 5 5).time with t0El := 10000000000000 } }, by decide +kernel⟩,
   ⟨{ (live 5 5 |> lit [0x1700, 0x1900]) with
           el := 10000000000000
           sec := { Sec.reset with scrub := some (7, 77), bad := [] }
           ohp := Ohp.reset
           time := { (live 5 5).time with t0El := 10000000000000 } }, by decide +kernel⟩,
   ⟨{ (live 5 5 |> lit [0x1700, 0x1900]) with
           el := 10000000000000
           sec := { Sec.reset with scrub := some (0, 77), bad := [] }
           time := { (live 5 5).time with t0El := 10000000000000 } }, by decide +kernel⟩,
   ⟨{ (live 5 5 |> lit [0x1700, 0x1900] |> rf SEC_TAMPCFG.addr SEC_TAMPCFG.EN 0x80 |> rf SEC_TAMPCFG.addr
           SEC_TAMPCFG.LEVEL 0 |> rf SEC_TAMP.addr SEC_TAMP.PINS 3) with
           el := 10000000000000
           sec := { Sec.reset with domKeys := [(0,[1])] }
           time := { (live 5 5).time with t0El := 10000000000000 } }, by decide +kernel⟩,
   ⟨{ (live 1 5 |> lit [0x1700, 0x1900] |> rf SEC_TAMPCFG.addr SEC_TAMPCFG.EN 0x80 |> rf SEC_TAMPCFG.addr
           SEC_TAMPCFG.LEVEL 128 |> rf SEC_TAMP.addr SEC_TAMP.PINS 3 |> rf PWR_SUPPLY.addr PWR_SUPPLY.MAINOK 0) with
           el := 10000000000000
           sec := { Sec.reset with domKeys := [(0,[1])] }
           time := Time.reset }, by decide +kernel⟩,
   ⟨{ (live 5 5 |> lit [0x1700, 0x1900]) with
           el := 10000000000000
           time := { (live 5 5).time with t0El := 10000000000000 } }, by decide +kernel⟩,
   ⟨{ (serving 7 (hmsg 96 [4] [0,0,64,0]) |> lit [0x1700, 0x1900]) with
           el := 10000000000000
           time := { (live 5 5).time with t0El := 10000000000000 } }, by decide +kernel⟩,
   ⟨{ (serving 5 (hmsg 96 [4] [0,0,64,0]) |> lit [0x1700, 0x1900]) with
           el := 10000000000000
           time := { (live 5 5).time with t0El := 10000000000000 } }, by decide +kernel⟩,
   ⟨{ (serving 7 (hmsg 96 [4] [0,0,64,0]) |> lit [0x1700, 0x1900] |> (fun s => (s.store (journalBase 0)
               (Journal.bytes { seq := 3, active := 1, trial := true, trials := 2, version := 7, floor := 2,
                                scrub := 0, passday := 0 })).store (journalBase 1)
             (Journal.bytes { seq := 3, active := 1, trial := true, trials := 2, version := 7, floor := 2,
                              scrub := 0, passday := 0 }))) with
           el := 10000000000000
           time := { (live 5 5).time with t0El := 10000000000000 } }, by decide +kernel⟩,
   ⟨{ (serving 7 (hmsg 97 [7] [0,0,0,0,1,2,3]) |> lit [0x1700, 0x1900] |> (fun s => s.setUpdate true true 3 1 4 7)) with
           el := 10000000000000
           time := { (live 5 5).time with t0El := 10000000000000 } }, by decide +kernel⟩,
   ⟨{ (serving 7 (hmsg 97 [7] [5,0,0,0,1,2,3]) |> lit [0x1700, 0x1900] |> (fun s => s.setUpdate true false 3 1 4 8)) with
           el := 10000000000000
           time := { (live 5 5).time with t0El := 10000000000000 } }, by decide +kernel⟩,
   ⟨{ (serving 7 (hmsg 98 [0] []) |> lit [0x1700, 0x1900] |> (fun s => s.setUpdate true false 3 1 128 128)) with
           el := 10000000000000
           time := { (live 5 5).time with t0El := 10000000000000 } }, by decide +kernel⟩,
   ⟨{ (serving 7 (hmsg 99 [0] []) |> lit [0x1700, 0x1900] |> (fun s => s.setUpdate true false 3 1 128 128)) with
           el := 10000000000000
           time := { (live 5 5).time with t0El := 10000000000000 } }, by decide +kernel⟩,
   ⟨{ (serving 7 (hmsg 99 [0] []) |> lit [0x1700, 0x1900] |> (fun s => s.setUpdate true true 3 1 128 128)) with
           el := 10000000000000
           time := { (live 5 5).time with t0El := 10000000000000 } }, by decide +kernel⟩,
   ⟨{ (serving 7 (hmsg 99 [0] []) |> lit [0x1700, 0x1900] |> (fun s => s.store 0x10400004 [1]) |>
           (fun s => s.setUpdate true true 3 1 128 128)) with
           el := 10000000000000
           time := { (live 5 5).time with t0El := 10000000000000 } }, by decide +kernel⟩,
   ⟨{ (serving 7 (hmsg 99 [0] []) |> lit [0x1700, 0x1900] |> (fun s => s.store 0x10400004 [2]) |>
           (fun s => s.setUpdate true true 3 1 128 128)) with
           el := 10000000000000
           time := { (live 5 5).time with t0El := 10000000000000 } }, by decide +kernel⟩,
   ⟨{ (serving 7 (hmsg 99 [0] []) |> lit [0x1700, 0x1900] |> (fun s => s.store 0x10400004 [3]) |>
           (fun s => s.setUpdate true true 3 1 128 128)) with
           el := 10000000000000
           time := { (live 5 5).time with t0El := 10000000000000 } }, by decide +kernel⟩,
   ⟨{ (serving 7 (hmsg 100 [0] []) |> lit [0x1700, 0x1900] |> (fun s => (s.store (journalBase 0)
               (Journal.bytes { seq := 3, active := 1, trial := true, trials := 2, version := 7, floor := 2,
                                scrub := 0, passday := 0 })).store (journalBase 1)
             (Journal.bytes { seq := 3, active := 1, trial := true, trials := 2, version := 7, floor := 2,
                              scrub := 0, passday := 0 }))) with
           el := 10000000000000
           time := { (live 5 5).time with t0El := 10000000000000 } }, by decide +kernel⟩,
   ⟨{ (live 5 5 |> lit [0x1700, 0x1900]) with
           el := 10000000000000
           ohp := { Ohp.reset with running := true, activate := some (3, 5, 77) }
           time := { (live 5 5).time with t0El := 10000000000000 } }, by decide +kernel⟩,
   ⟨{ (live 5 5 |> lit [0x1700, 0x1900]) with
           el := 100
           ohp := { Ohp.reset with running := true, activate := some (3, 5, 77) }
           time := { (live 5 5).time with t0El := 10000000000000 } }, by decide +kernel⟩,
   ⟨{ (live 5 5 |> lit [0x1700, 0x1900]) with
           el := 10000000000000
           time := { (live 5 5).time with t0El := 10000000000000 } }, by decide +kernel⟩,
   ⟨{ (live 5 5 |> lit [0x1700, 0x1900]) with
           el := 10000000000000
           ohp := Ohp.reset
           time := { (live 5 5).time with t0El := 10000000000000 } }, by decide +kernel⟩⟩

end Sys2Proof.Tests
end

section
/-! SUPPORT. States that differ in one processor, and what a GSI command that executes leaves. -/

namespace Sys2Proof.Machine

/-! ## States that differ in one processor -/

theorem OnlyCore.refl (s : State) (c : Nat) : OnlyCore s s c := ⟨rfl, fun _ _ => rfl⟩

/-- The processor of a state that differs in that processor only, replaced again. -/
theorem OnlyCore.setCore {s t : State} {c : Nat} (h : OnlyCore s t c) (x : Core) : OnlyCore s (t.setCore c x) c :=
  ⟨congrArg (fun u : State => { u with cores := (t.setCore c x).cores }) h.1,
    fun k hk => (State.core_setCore_other t x (Ne.symm hk)).trans (h.2 k hk)⟩

theorem OnlyCore.mem_eq {s t : State} {c : Nat} (h : OnlyCore s t c) : t.mem = s.mem := by rw [h.1]

theorem OnlyCore.pipe_eq {s t : State} {c : Nat} (h : OnlyCore s t c) : t.pipe = s.pipe := by rw [h.1]

/-! ## Instructions that issue with their inputs -/

section
variable {s : State} {c : Nat} {d : Decoded} {o : Op} {ins : List Word} {outs : Nat} {a : Word}

theorem Ready.issues (h : Ready s c d o ins outs) : Issues s c d := h.1

theorem Ready.op_eq (h : Ready s c d o ins outs) : d.op = o := h.2.1

theorem Ready.fits (h : Ready s c d o ins outs) (hk : d.keep = false) : Fits (s.core c) ins.length outs 0 0 := by
  obtain ⟨-, -, -, hf⟩ := h
  simpa [hk] using hf

theorem Ready.ds_eq_cons (h : Ready s c d o [a] outs) : (s.core c).ds = some a :: (s.core c).ds.drop 1 := by
  obtain ⟨-, -, ht, -⟩ := h
  calc (s.core c).ds = (s.core c).ds.take 1 ++ (s.core c).ds.drop 1 := (List.take_append_drop 1 _).symm
    _ = some a :: (s.core c).ds.drop 1 := congrArg (· ++ (s.core c).ds.drop 1) ht

end

/-! ## Instructions that execute, R277 -/

theorem Answers.intro {s t : State} {i : Instr} {P : State → Prop} (h : exec i s = .next t) (hp : P t) :
    Answers s i P := ⟨t, h, hp⟩

/-- A command whose instruction executes: its processor completes it, and nothing else changes. -/
theorem Runs.of_ok {s t : State} {c : Nat} {d : Decoded} {sel : Op → Bool} {body : Decoded → State → Ran Nat} {i : Instr}
    {next : Nat} (h : Issues s c d) (hi : exec i s = s.gsi c sel body) (hs : sel d.op = true)
    (hb : body d s = .ok t next) (ht : OnlyCore s t c) :
    Runs s i c d ((t.core c).completed d.here next false) := by
  refine ⟨t.setCore c ((t.core c).completed d.here next false), ?_, ht.setCore _, State.core_setCore_same ..⟩
  rw [hi, State.gsi_issues h hs, hb]

/-- A pure stack instruction on a processor that is ready for it. -/
theorem Runs.of_pure {s : State} {c : Nat} {d : Decoded} {o : Op} {ins : List Word} {n m : Nat} {sel : Op → Bool}
    {f : List Word → List Word} {i : Instr} (h : Ready s c d o ins m)
    (hi : exec i s = s.gsi c sel (fun d s => s.pure c d n m f)) (hs : sel o = true) (hn : n = ins.length) :
    Runs s i c d ((s.core c).pushed d n (f ins) (s.core c).flags) := by
  have hr := Runs.of_ok h.issues hi (h.op_eq ▸ hs) (State.pure_ready f h n hn) (onlyCore_setCore s c _)
  rwa [State.core_setCore_same] at hr

@[simp] theorem Core.pushed_enc (x : Core) (d : Decoded) (n : Nat) (outs : List Word) (f : BitVec 4) :
    (x.pushed d n outs f).enc = x.enc := rfl
@[simp] theorem Core.pushed_acting (x : Core) (d : Decoded) (n : Nat) (outs : List Word) (f : BitVec 4) :
    (x.pushed d n outs f).acting = x.acting := rfl

/-! ## The instruction space, R260 -/

theorem Core.space_dvd (x : Core) (c : Nat) : x.space c ∣ 2 ^ 32 := by
  unfold Core.space
  split
  · exact dvd_rfl
  · split <;> decide

/-- An address brought into the instruction space is taken modulo the space: the space divides 2^32. -/
theorem State.inSpace_eq (s : State) (c : Nat) (i : Int) :
    s.inSpace c i = (i % ((s.core c).space c : Int)).toNat := by
  have hd : ((s.core c).space c : Int) ∣ 2 ^ 32 := by exact_mod_cast (s.core c).space_dvd c
  have hi : 0 ≤ i % (2 ^ 32 : Int) := Int.emod_nonneg _ (by decide)
  rw [State.inSpace, wrap, ← Int.emod_emod_of_dvd i hd, Int.toNat_emod hi (Int.natCast_nonneg _), Int.toNat_natCast]

theorem State.inSpace_natCast (s : State) (c a : Nat) : s.inSpace c (a : Int) = a % (s.core c).space c := by
  rw [State.inSpace_eq, ← Int.natCast_emod, Int.toNat_natCast]

theorem State.branchTarget_eq (s : State) {c : Nat} {d : Decoded} {cc : Nat} {disp : Int} (h : d.op = .branch cc disp) :
    s.branchTarget c d = (((d.next : Int) + disp) % ((s.core c).space c : Int)).toNat := by
  rw [State.branchTarget, State.inSpace_eq, h, Op.disp]

end Sys2Proof.Machine
end

section
/-! SUPPORT. Branches, calls and returns, R266 and R271. -/

namespace Sys2Proof.Machine

section
variable {s : State} {c : Nat} {d : Decoded} {i : Instr} {a : Word} {cc : Nat} {disp : Int}

/-- A branch goes to its target where its condition holds, else on; it moves no entry. -/
theorem Runs.branch (h : Issues s c d)
    (hi : exec i s = s.gsi c (Op.isBranch cc) (fun d s => s.branchOp c d cc)) (hd : d.op = .branch cc disp) :
    Runs s i c d ((s.core c).completed d.here (if branchTaken cc (s.core c).flags then
      (((d.next : Int) + disp) % ((s.core c).space c : Int)).toNat else d.next) false) :=
  Runs.of_ok h hi (by simp [hd, Op.isBranch]) (by rw [State.branchOp, State.branchTarget_eq s hd]) (OnlyCore.refl s c)

theorem State.callOp_fits (hd : d.op = .branch cc disp) (hf : Fits (s.core c) 0 0 0 1) :
    s.callOp c d = .ok (s.pushReturn c d.next) (((d.next : Int) + disp) % ((s.core c).space c : Int)).toNat := by
  obtain ⟨h1, h2, h3, h4⟩ := hf
  rw [State.callOp, State.prepare_fits s c 0 0 0 1 h1 h2 h3 h4, Ran.bind, State.branchTarget_eq s hd]

theorem State.callsOp_fits {r : List (Option Word)} (hs : (s.core c).ds = some a :: r) (hf : Fits (s.core c) 1 0 0 1) :
    s.callsOp c d = .ok ((s.setCore c { s.core c with ds := r }).pushReturn c d.next) (a.toNat % (s.core c).space c) := by
  obtain ⟨h1, h2, h3, h4⟩ := hf
  rw [State.callsOp, State.prepare_fits s c 1 0 0 1 h1 h2 h3 h4, Ran.bind, ← State.inSpace_natCast, hs]

theorem State.jmpsOp_fits {r : List (Option Word)} (hs : (s.core c).ds = some a :: r) (hf : Fits (s.core c) 1 0 0 0) :
    s.jmpsOp c = .ok (s.setCore c { s.core c with ds := r }) (a.toNat % (s.core c).space c) := by
  obtain ⟨h1, h2, h3, h4⟩ := hf
  rw [State.jmpsOp, State.prepare_fits s c 1 0 0 0 h1 h2 h3 h4, Ran.bind, ← State.inSpace_natCast, hs]

theorem State.retOp_fits {r : List Word} (hs : (s.core c).rs = a :: r) (hf : Fits (s.core c) 0 0 1 0) :
    s.retOp c = .ok (s.setCore c { s.core c with rs := r }) (a.toNat % (s.core c).space c) := by
  obtain ⟨h1, h2, h3, h4⟩ := hf
  simp only [State.retOp, State.prepare_fits s c 0 0 1 0 h1 h2 h3 h4, Ran.bind, State.inSpace_natCast, hs, List.drop_one,
    List.tail_cons, List.headD_cons]

/-- CALL goes to its target with the address of the next instruction pushed on the return stack. -/
theorem Runs.call {c : Fin 18} (h : Issues s c d) (hd : d.op = .branch 7 disp) (hf : Fits (s.core c) 0 0 0 1) :
    Runs s (.call c) c d (({ s.core c with rs := Word.ofNat d.next :: (s.core c).rs } : Core).completed d.here
      (((d.next : Int) + disp) % ((s.core c).space c : Int)).toNat false) := by
  have hi : exec (.call c) s = s.gsi c (Op.isBranch 7) (fun d s => s.callOp c d) := rfl
  have hr := Runs.of_ok h hi (by simp [hd, Op.isBranch]) (State.callOp_fits hd hf) (onlyCore_setCore s c _)
  rwa [State.pushReturn, State.core_setCore_same] at hr

/-- CALLS goes to the address that it pops, with the address of the next instruction pushed on the return stack. -/
theorem Runs.calls {c : Fin 18} {r : List (Option Word)} (h : Issues s c d) (hd : d.op = .zero 0x4A)
    (hs : (s.core c).ds = some a :: r) (hf : Fits (s.core c) 1 0 0 1) :
    Runs s (.calls c) c d (({ s.core c with ds := r, rs := Word.ofNat d.next :: (s.core c).rs } : Core).completed d.here
      (a.toNat % (s.core c).space c) false) := by
  have hi : exec (.calls c) s = s.gsi c (· == .zero 0x4A) (fun d s => s.callsOp c d) := rfl
  have hr := Runs.of_ok h hi (by simp [hd]) (State.callsOp_fits hs hf) ((onlyCore_setCore s c _).setCore _)
  rwa [State.pushReturn, State.core_setCore_same, State.core_setCore_same] at hr

/-- JMPS goes to the address that it pops. -/
theorem Runs.jmps {c : Fin 18} {r : List (Option Word)} (h : Issues s c d) (hd : d.op = .zero 0x49)
    (hs : (s.core c).ds = some a :: r) (hf : Fits (s.core c) 1 0 0 0) :
    Runs s (.jmps c) c d (({ s.core c with ds := r } : Core).completed d.here (a.toNat % (s.core c).space c) false) := by
  have hi : exec (.jmps c) s = s.gsi c (· == .zero 0x49) (fun _ s => s.jmpsOp c) := rfl
  have hr := Runs.of_ok h hi (by simp [hd]) (State.jmpsOp_fits hs hf) (onlyCore_setCore s c _)
  rwa [State.core_setCore_same] at hr

/-- RET goes to the address that it pops from the return stack. -/
theorem Runs.ret {c : Fin 18} {r : List Word} (h : Issues s c d) (hd : d.op = .zero 0x48)
    (hs : (s.core c).rs = a :: r) (hf : Fits (s.core c) 0 0 1 0) :
    Runs s (.ret c) c d (({ s.core c with rs := r } : Core).completed d.here (a.toNat % (s.core c).space c) false) := by
  have hi : exec (.ret c) s = s.gsi c (· == .zero 0x48) (fun _ s => s.retOp c) := rfl
  have hr := Runs.of_ok h hi (by simp [hd]) (State.retOp_fits hs hf) (onlyCore_setCore s c _)
  rwa [State.core_setCore_same] at hr

end

/-- Settles O19: each instruction executes on stacks that need no move, and its target is an address brought into the
instruction space, which is the address modulo the space. -/
theorem branchesAndCallsGoToTheirTargets : Obligations.BranchesAndCallsGoToTheirTargets := by
  intro s c d disp a r h
  refine ⟨Runs.branch h rfl, Runs.branch h rfl, Runs.branch h rfl, Runs.branch h rfl, Runs.branch h rfl,
    Runs.branch h rfl, Runs.branch h rfl, Runs.call h, fun hr hk hn => ?_, fun hr hk => ?_, Runs.ret h⟩
  · obtain ⟨h1, h2, h3, -⟩ := hr.fits hk
    exact Runs.calls h hr.op_eq hr.ds_eq_cons ⟨h1, h2, h3, .inr hn⟩
  · exact Runs.jmps h hr.op_eq hr.ds_eq_cons (hr.fits hk)

end Sys2Proof.Machine
end

section
/-! SUPPORT. The instruction cache of a watch core, R289 and R307. -/

namespace Sys2Proof.Machine

variable {s : State} {c a : Nat} {b : List Byte}

/-- Outside deterministic mode an instruction byte comes from the line that the cache holds. -/
theorem State.byteAt_cached (ha : a < 65536) (hb : s.cached c a = some b) (hd : (s.core c).det = false) :
    s.byteAt c a = b.getD (a % 16) 0 := by
  simp [State.byteAt, Nat.mod_eq_of_lt ha, hb, hd]

/-- An instruction byte comes from program memory where no line holds it, and in deterministic mode. -/
theorem State.byteAt_memory (ha : a < 65536) (h : s.cached c a = none ∨ (s.core c).det = true) :
    s.byteAt c a = (memReadBytes s.mem (progMemBase (s.ident c) + a) 1).headD 0 := by
  rcases h with h | h <;> simp [State.byteAt, State.load, Nat.mod_eq_of_lt ha, h]

theorem State.cached_congr {t : State} (h : t.pipe = s.pipe) : t.cached c a = s.cached c a := by
  simp only [State.cached, h]

/-- The line that a fill brings in. -/
theorem State.cached_fillLine_same (ha : a < 65536) (h : s.cached c a = none) :
    (s.fillLine c a).cached c a = some (memReadBytes s.mem (progMemBase (s.ident c) + a / 16 * 16) 16) := by
  simp only [State.fillLine, Nat.mod_eq_of_lt ha, h]
  simp [State.cached, Tab.find_put_same, State.load]

/-- A fill keeps a line that the cache holds, unless it brings in another line of the same index. -/
theorem State.cached_fillLine_other {k : Nat} (h : s.cached c a = some b)
    (hk : k % 65536 / 16 % 256 = a / 16 % 256 → k % 65536 / 4096 = a / 4096) :
    (s.fillLine c k).cached c a = some b := by
  unfold State.fillLine
  simp only
  split
  · exact h
  next hn =>
    have hi : k % 65536 / 16 % 256 ≠ a / 16 % 256 := fun e => by
      have hka : s.cached c (k % 65536) = s.cached c a := by simp only [State.cached, e, hk e]
      rw [hka, h] at hn
      cases hn
    simpa [State.cached, Tab.find_put_other _ _ hi] using h

/-- The line of an instruction in the byte encoding is cached after its decode. -/
theorem State.cached_lined (hc : c < 16) (he : (s.core c).enc = true) (ha : a < 65536) (h : s.cached c a = none) :
    (s.lined false c a).cached c a = some (memReadBytes s.mem (progMemBase (s.ident c) + a / 16 * 16) 16) := by
  have hl : s.lined false c a = (s.fillLine c a).fillLine c (a + 7) := by
    simp [State.lined, he, Nat.not_le.mpr hc]
  rw [hl]
  exact State.cached_fillLine_other (State.cached_fillLine_same ha h) (by omega)

end Sys2Proof.Machine
end

section
/-! SUPPORT. A field of a register set and read back, R5. -/

namespace Sys2Proof.Machine

/-- A field set and read back holds the value modulo the field's width. -/
theorem fget_fset (w : Word) (f : Fld) (v : Nat) (hlo : f.lo ≤ f.hi) (hhi : f.hi < 32) :
    fget (fset w f v) f = v % 2 ^ (f.hi + 1 - f.lo) := by
  have hw : 2 ^ (f.hi + 1) = 2 ^ (f.hi + 1 - f.lo) * 2 ^ f.lo := by rw [← pow_add]; congr 1; omega
  have h32 : 2 ^ 32 = 2 ^ (31 - f.hi) * 2 ^ (f.hi + 1) := by rw [← pow_add]; congr 1; omega
  have hl : w.toNat % 2 ^ f.lo < 2 ^ f.lo := Nat.mod_lt _ (Nat.two_pow_pos _)
  have hv : v % 2 ^ (f.hi + 1 - f.lo) < 2 ^ (f.hi + 1 - f.lo) := Nat.mod_lt _ (Nat.two_pow_pos _)
  have hq : w.toNat / 2 ^ (f.hi + 1) < 2 ^ (31 - f.hi) := Nat.div_lt_of_lt_mul (by rw [mul_comm, ← h32]; exact w.isLt)
  have hlt := Nat.mul_add_lt_mul_of_lt_of_lt (Nat.mul_add_lt_mul_of_lt_of_lt hq hv) hl
  have hn : w.toNat / 2 ^ (f.hi + 1) * 2 ^ (f.hi + 1) + v % 2 ^ (f.hi + 1 - f.lo) * 2 ^ f.lo + w.toNat % 2 ^ f.lo =
      2 ^ f.lo * (2 ^ (f.hi + 1 - f.lo) * (w.toNat / 2 ^ (f.hi + 1)) + v % 2 ^ (f.hi + 1 - f.lo)) +
        w.toNat % 2 ^ f.lo := by
    generalize w.toNat / 2 ^ (f.hi + 1) = q
    rw [hw]
    ring
  rw [mul_assoc, ← hw, ← h32] at hlt
  rw [fget, fset, Word.ofNat, BitVec.toNat_ofNat, hn, Nat.mod_eq_of_lt hlt, Nat.mul_add_div (Nat.two_pow_pos _),
    Nat.div_eq_of_lt hl, add_zero, Nat.mul_add_mod, Nat.mod_mod]

theorem State.fld_setFld_same (s : State) (a : Nat) (f : Fld) (v : Nat) (hlo : f.lo ≤ f.hi) (hhi : f.hi < 32) :
    (s.setFld a f v).fld a f = v % 2 ^ (f.hi + 1 - f.lo) := by
  rw [State.fld, State.setFld, State.reg_setReg_same, fget_fset _ _ _ hlo hhi]

end Sys2Proof.Machine
end

section
/-! SUPPORT. Stores drained, a core halted, resumed and reset, R304, R314 and R315. -/

namespace Sys2Proof.Machine

/-! ## States that differ in one processor and in memory -/

theorem OnlyCore.onlyCoreMem {s t : State} {c : Nat} (h : OnlyCore s t c) : OnlyCoreMem s t c :=
  ⟨h.1.trans (by rw [h.mem_eq]), h.2⟩

theorem OnlyCoreMem.setCore {s t : State} {c : Nat} (h : OnlyCoreMem s t c) (x : Core) :
    OnlyCoreMem s (t.setCore c x) c :=
  ⟨congrArg (fun u : State => { u with cores := (t.setCore c x).cores }) h.1,
    fun k hk => (State.core_setCore_other t x (Ne.symm hk)).trans (h.2 k hk)⟩

theorem OnlyCoreMem.emptyCache {s t : State} {c : Nat} (h : OnlyCoreMem s t c) :
    OnlyCoreMem (s.emptyCache c) (t.emptyCache c) c :=
  ⟨congrArg (fun u : State => u.emptyCache c) h.1, h.2⟩

theorem OnlyCoreMem.setCycles {s t : State} {c : Nat} (h : OnlyCoreMem s t c) (n : Nat) :
    OnlyCoreMem (s.setCycles c n) (t.setCycles c n) c :=
  ⟨congrArg (fun u : State => u.setCycles c n) h.1, h.2⟩

/-! ## The store buffer, R304 -/

/-- Memory after a watch core's stores drained in order. -/
def drainedMem (c : Nat) (l : List StoreEntry) (m : List Host.Cell) : List Host.Cell :=
  l.foldl (fun m e => memWriteBytes m (dataBase c + e.addr) e.bytes) m

theorem State.foldl_drainEntry (c : Nat) (l : List StoreEntry) (s : State) :
    l.foldl (fun s e => s.drainEntry c e) s = { s with mem := drainedMem c l s.mem } := by
  induction l generalizing s with
  | nil => rfl
  | cons e r ih => exact ih (s.drainEntry c e)

theorem State.drainAll_eq (s : State) (c : Nat) :
    s.drainAll c = ({ s with mem := drainedMem c ((s.core c).stores.filter (fun e => !e.shadow)) s.mem } : State).setCore c
      { s.core c with stores := (s.core c).stores.filter (·.shadow) } := by
  rw [State.drainAll, State.foldl_drainEntry]

/-- Draining changes memory and the core's own store buffer only. -/
theorem State.drainAll_onlyCoreMem (s : State) (c : Nat) : OnlyCoreMem s (s.drainAll c) c := by
  rw [State.drainAll_eq]
  exact OnlyCoreMem.setCore ⟨rfl, fun _ _ => rfl⟩ _

theorem State.core_drainAll (s : State) (c : Nat) :
    (s.drainAll c).core c = { s.core c with stores := (s.core c).stores.filter (·.shadow) } := by
  rw [State.drainAll_eq, State.core_setCore_same]

/-- A byte of the only buffered store, after the drain. -/
theorem State.memRead_drainAll {s : State} {c : Nat} {e : StoreEntry} (h : (s.core c).stores = [e])
    (he : e.shadow = false) (i : Nat) (hi : i < e.bytes.length) :
    memRead (s.drainAll c).mem (dataBase c + e.addr + i) = e.bytes.getD i 0 := by
  have hm : (s.drainAll c).mem = memWriteBytes s.mem (dataBase c + e.addr) e.bytes := by
    simp [State.drainAll_eq, h, he, drainedMem]
  rw [hm, memRead_writeBytes_inside _ _ _ _ hi, List.getD_eq_getElem _ _ hi]

/-! ## RUN, R315 -/

@[simp] theorem Core.landed_pc (x : Core) : x.landed.pc = x.pc := by unfold Core.landed; split <;> rfl
@[simp] theorem Core.landed_stores (x : Core) : x.landed.stores = x.stores := by unfold Core.landed; split <;> rfl
@[simp] theorem Core.landed_ds (x : Core) : x.landed.ds = x.ds := by unfold Core.landed; split <;> rfl
@[simp] theorem Core.landed_rs (x : Core) : x.landed.rs = x.rs := by unfold Core.landed; split <;> rfl

/-- A running core without a long instruction in flight halts with its committed stores drained. -/
theorem State.haltCore_running {s : State} {c : Nat} (m : MemPort) (done : Nat) (hh : (s.core c).halted = false)
    (hl : (s.core c).long = none) :
    s.haltCore m c done = (s.drainAll c).setCore c
      { ((s.drainAll c).core c).landed with run := false, halted := true, waiting := false } := by
  simp [State.haltCore, State.abandon, hh, hl]

/-- The core that RUN 1 lets go on: with its committed encoding, at vector 0 after a reset. -/
def Core.resumed (x : Core) (c : Nat) (enc : Bool) : Core :=
  let y := { x with run := true, halted := false, fresh := false, enc }
  if x.fresh then { y with pc := y.vector c 0, ecause := 0, eaddr := 0, eval := 0 } else y

theorem State.resumeCore_halted {s : State} {c : Nat} (hh : (s.core c).halted = true) (ha : (s.core c).acting = none)
    (hp : s.pwr.held.contains (c / 2) = false) :
    s.resumeCore c = (s.emptyCache c).setCore c ((s.core c).resumed c (s.encOf c)) := by
  have he : (s.emptyCache c).core c = s.core c := rfl
  have hn : (s.emptyCache c).encOf c = s.encOf c := rfl
  unfold Core.resumed
  simp only [State.resumeCore, hh, hp, ha, he, hn]
  cases (s.core c).fresh <;> rfl

theorem State.core_resumeCore {s : State} {c : Nat} (hh : (s.core c).halted = true) (ha : (s.core c).acting = none)
    (hp : s.pwr.held.contains (c / 2) = false) : (s.resumeCore c).core c = (s.core c).resumed c (s.encOf c) := by
  rw [State.resumeCore_halted hh ha hp, State.core_setCore_same]

@[simp] theorem Core.resumed_run (x : Core) (c : Nat) (enc : Bool) : (x.resumed c enc).run = true := by
  unfold Core.resumed; split <;> rfl
@[simp] theorem Core.resumed_halted (x : Core) (c : Nat) (enc : Bool) : (x.resumed c enc).halted = false := by
  unfold Core.resumed; split <;> rfl
@[simp] theorem Core.resumed_enc (x : Core) (c : Nat) (enc : Bool) : (x.resumed c enc).enc = enc := by
  unfold Core.resumed; split <;> rfl

theorem Core.resumed_pc_halted {x : Core} (c : Nat) (enc : Bool) (h : x.fresh = false) : (x.resumed c enc).pc = x.pc := by
  simp [Core.resumed, h]

theorem Core.resumed_pc_fresh {x : Core} (c : Nat) (enc : Bool) (h : x.fresh = true) :
    (x.resumed c enc).pc = (x.vbase.toNat / 16 * 16) % (x.resumed c enc).space c := by
  simp [Core.resumed, h, Core.vector, Core.space]

/-! ## RST, R258 and R314 -/

/-- A core after RST: as at reset, with its decode table. -/
def Core.afterRst (x : Core) (c : Nat) : Core := { Core.reset c with desc := x.desc, micro := x.micro }

/-- The state in which a core reset begins: a running core's committed stores drained, its cache empty, no cycle counted. -/
def State.rstBegun (s : State) (c : Nat) : State :=
  ((if (s.core c).halted then s else s.drainAll c).emptyCache c).setCycles c 0

theorem State.rstBegun_halted {s : State} {c : Nat} (h : (s.core c).halted = true) :
    s.rstBegun c = (s.emptyCache c).setCycles c 0 := by
  rw [State.rstBegun, if_pos h]

theorem State.rstBegun_onlyCoreMem (s : State) (c : Nat) :
    OnlyCoreMem ((s.emptyCache c).setCycles c 0) (s.rstBegun c) c := by
  have h : OnlyCoreMem s (if (s.core c).halted then s else s.drainAll c) c := by
    split
    · exact (OnlyCore.refl s c).onlyCoreMem
    · exact s.drainAll_onlyCoreMem c
  exact h.emptyCache.setCycles 0

theorem State.rstCore_alone {s : State} {c : Nat} (h : (s.core c).acting = none) :
    s.rstCore c = (s.rstBegun c).setCore c ((s.core c).afterRst c) := by
  simp only [State.rstCore, h]
  rfl

/-- The reset of a core that runs its partner's program ends the takeover, R316. -/
theorem State.rstCore_acting {s : State} {c : Nat} (h : (s.core c).acting ≠ none) :
    s.rstCore c = ((s.rstBegun c).setFld (CL_PAIRSTAT.addr (c / 2)) CL_PAIRSTAT.ACTING 0).setCore c
      ((s.core c).afterRst c) := by
  simp only [State.rstCore, Option.isSome_iff_ne_none.mpr h]
  rfl

@[simp] theorem State.core_rstCore (s : State) (c : Nat) : (s.rstCore c).core c = (s.core c).afterRst c :=
  State.core_setCore_same ..

theorem State.mem_rstCore (s : State) (c : Nat) : (s.rstCore c).mem = (s.rstBegun c).mem := by
  by_cases h : (s.core c).acting = none
  · rw [State.rstCore_alone h, State.setCore_mem]
  · rw [State.rstCore_acting h]
    rfl

theorem State.rstBegun_running_mem {s : State} {c : Nat} (h : (s.core c).halted = false) :
    (s.rstBegun c).mem = (s.drainAll c).mem := by
  rw [State.rstBegun, h]
  rfl

/-- Of a core that runs its partner's program the reset changes the registers as well. -/
theorem State.rstCore_acting_frame {s : State} {c : Nat} (h : (s.core c).acting ≠ none) : s.rstCore c =
    { (s.emptyCache c).setCycles c 0 with
      cores := (s.rstCore c).cores, mem := (s.rstCore c).mem, regs := (s.rstCore c).regs } := by
  obtain ⟨hb, -⟩ := s.rstBegun_onlyCoreMem c
  rw [State.rstCore_acting h]
  generalize s.rstBegun c = v at hb ⊢
  exact congrArg (fun u : State => { u with
    cores := (v.setCore c ((s.core c).afterRst c)).cores
    regs := (v.setFld (CL_PAIRSTAT.addr (c / 2)) CL_PAIRSTAT.ACTING 0).regs }) hb

theorem State.rstCore_acting_fld {s : State} {c : Nat} (h : (s.core c).acting ≠ none) :
    (s.rstCore c).fld (CL_PAIRSTAT.addr (c / 2)) CL_PAIRSTAT.ACTING = 0 := by
  rw [State.rstCore_acting h]
  exact State.fld_setFld_same _ _ CL_PAIRSTAT.ACTING 0 (by decide) (by decide)

/-! ## The writes of CLn_CORECTLc -/

theorem exec_corectlRun {s : State} {c : Fin 16} (h : Reached s (CL_CORECTL.addr (c / 2) (c % 2))) (run : Bool)
    (done : Nat) : exec (.corectlRun .keeper c run done) s =
      .next (if run then s.resumeCore c else s.haltCore (watchPort c) c done) :=
  congrArg Host.Outcome.next (State.access_reached _ h.1 h.2)

theorem exec_corectlRst {s : State} {c : Fin 16} (h : Reached s (CL_CORECTL.addr (c / 2) (c % 2))) :
    exec (.corectlRst .keeper c) s = .next (s.rstCore c) :=
  congrArg Host.Outcome.next (State.access_reached _ h.1 h.2)

/-! ## The stacks after a reset, R258 -/

theorem Core.reset_even {c : Nat} (hc : c < 16) (h : c % 2 = 0) : (Core.reset c).dsbase = 0x10000 ∧
    (Core.reset c).dslim = 0xF800 ∧ (Core.reset c).rsbase = 0xF800 ∧ (Core.reset c).rslim = 0xF000 := by
  simp [Core.reset, Nat.not_le.mpr hc, h]

theorem Core.reset_odd {c : Nat} (hc : c < 16) (h : c % 2 = 1) : (Core.reset c).dsbase = 0x20000 ∧
    (Core.reset c).dslim = 0x1F800 ∧ (Core.reset c).rsbase = 0x1F800 ∧ (Core.reset c).rslim = 0x1F000 := by
  simp [Core.reset, Nat.not_le.mpr hc, h]

/-- The Keeper's and the Link processor's stacks hold no entry, and their stack registers are 0. -/
theorem core_reset_side (k : Fin 2) : let y := State.reset.core (16 + k)
    y.ds = [] ∧ y.rs = [] ∧ y.dsp = 0 ∧ y.dsbase = 0 ∧ y.dslim = 0 ∧ y.rsp = 0 ∧ y.rsbase = 0 ∧ y.rslim = 0 := by
  have h : State.reset.core (16 + k) = Core.reset (16 + k) := rfl
  simp [h, Core.reset]

end Sys2Proof.Machine
end

section
/-! SUPPORT. A core that runs, halts and is reset, and the lines that its instructions bring in, R289 and R314. -/

namespace Sys2Proof.Machine

section
variable {s : State} {d : Decoded}

theorem Runs.nop {c : Fin 18} (h : Ready s c d (.zero 0x00) [] 0) :
    Runs s (.nop c) c d ((s.core c).pushed d 0 [] (s.core c).flags) :=
  Runs.of_pure (sel := (· == .zero 0x00)) (f := fun _ => []) h rfl rfl rfl

/-- The line of an instruction that issues is in the cache afterwards. -/
theorem nop_caches_line {c : Fin 16} (h : Ready s c d (.zero 0x00) [] 0) (ha : d.here < 65536)
    (he : (s.core c).enc = true) (hd : (s.core c).det = false) (hn : s.cached c d.here = none) :
    Answers s (.nop (c.castLE (by decide))) (fun t => t.cached c d.here =
      some (memReadBytes s.mem (progMemBase (s.ident c) + d.here / 16 * 16) 16)) := by
  obtain ⟨t, hx, ho, hc⟩ := Runs.nop (c := c.castLE (by decide)) h
  rw [Fin.val_castLE] at hx ho hc
  have hte : (t.core c).enc = true := by rw [hc, Core.pushed_enc, he]
  have hti : t.ident c = s.ident c := by rw [State.ident, hc, Core.pushed_acting, State.ident]
  refine Answers.intro hx ?_
  rw [hd, State.cached_lined c.isLt hte ha ((State.cached_congr ho.pipe_eq).trans hn), ho.mem_eq, hti]

end

/-- Settles O30: the cache's clauses say what a byte is read from and what a fill brings in; the writes of CLn_CORECTLc act at
once on a cluster that is reached, and each leaves what draining the stores and replacing the core leave. -/
theorem runHaltAndReset : Obligations.RunHaltAndReset := by
  intro s c done a b d e hr
  refine ⟨core_reset_side, State.byteAt_cached, State.byteAt_memory, nop_caches_line, fun hh ha hp => ?_,
    fun hh hl => ?_, ?_⟩
  · refine Answers.intro (exec_corectlRun hr true done) ?_
    rw [if_pos rfl, State.core_resumeCore hh ha hp]
    exact ⟨State.resumeCore_halted hh ha hp ▸ onlyCore_setCore _ _ _, Core.resumed_run .., Core.resumed_halted ..,
      Core.resumed_enc .., Core.resumed_pc_halted _ _, Core.resumed_pc_fresh _ _⟩
  · refine Answers.intro (exec_corectlRun hr false done) ?_
    rw [if_neg Bool.false_ne_true, State.haltCore_running _ done hh hl]
    refine ⟨(s.drainAll_onlyCoreMem c).setCore _, ?_⟩
    simp [State.core_drainAll]
  · refine Answers.intro (exec_corectlRst hr) ⟨fun ha hh => ?_, fun ha => ?_, fun ha => ?_, fun hh hs he => ?_, ?_⟩
    · rw [State.rstCore_alone ha, State.rstBegun_halted hh]
      exact onlyCore_setCore _ _ _
    · rw [State.rstCore_alone ha]
      exact (s.rstBegun_onlyCoreMem c).setCore _
    · exact ⟨State.rstCore_acting_frame ha, State.rstCore_acting_fld ha⟩
    · rw [State.mem_rstCore, State.rstBegun_running_mem hh]
      exact State.memRead_drainAll hs he
    · rw [State.core_rstCore]
      exact ⟨decide_eq_true c.isLt, rfl, rfl, rfl, rfl, rfl, rfl, rfl, rfl, ⟨Core.reset_even c.isLt,
        Core.reset_odd c.isLt⟩, rfl, rfl, rfl, rfl, rfl⟩

end Sys2Proof.Machine
end

section
/-! SUPPORT. Entry to a vector, interrupts, and the return from one, R299 to R303. -/

namespace Sys2Proof.Machine

/-! ## Entry, R299 -/

section
variable (x : Core) (c v ret : Nat) (cause eaddr eval : Word) (imprecise : Bool)

/-- The products in flight touch nothing but PH and PL, R272. -/
theorem Core.landed_eq : ∃ ph pl products, x.landed = { x with ph, pl, products } := by
  unfold Core.landed
  split <;> exact ⟨_, _, _, rfl⟩

@[simp] theorem Core.landed_long : x.landed.long = x.long := by unfold Core.landed; split <;> rfl
@[simp] theorem Core.landed_dsp : x.landed.dsp = x.dsp := by unfold Core.landed; split <;> rfl
@[simp] theorem Core.landed_flags : x.landed.flags = x.flags := by unfold Core.landed; split <;> rfl
@[simp] theorem Core.landed_loops : x.landed.loops = x.loops := by unfold Core.landed; split <;> rfl

@[simp] theorem Core.framed_ds : (x.framed c v ret cause eaddr eval imprecise).ds = x.ds := x.landed_ds
@[simp] theorem Core.framed_dsp : (x.framed c v ret cause eaddr eval imprecise).dsp = x.dsp := x.landed_dsp
@[simp] theorem Core.framed_flags : (x.framed c v ret cause eaddr eval imprecise).flags = x.flags := x.landed_flags
@[simp] theorem Core.framed_loops : (x.framed c v ret cause eaddr eval imprecise).loops = x.loops := x.landed_loops
@[simp] theorem Core.framed_long : (x.framed c v ret cause eaddr eval imprecise).long = x.long := x.landed_long
@[simp] theorem Core.framed_stores : (x.framed c v ret cause eaddr eval imprecise).stores = x.stores := x.landed_stores

/-- A frame is the return address under the status word. -/
theorem Core.framed_rs : (x.framed c v ret cause eaddr eval imprecise).rs =
    x.statusWord v imprecise :: Word.ofNat ret :: x.rs := rfl

end

/-- The products in flight land whatever the exception registers hold. -/
theorem Core.landed_caused (x : Core) (cause eaddr eval : Word) :
    ({ x with ecause := cause, eaddr, eval } : Core).landed = { x.landed with ecause := cause, eaddr, eval } := by
  unfold Core.landed
  dsimp only
  cases x.products.getLast? <;> rfl

/-- An entry that finds at most 14 entries on the return stack makes its frame, R254. -/
theorem State.enter_framed {s : State} {c : Nat} (v ret : Nat) (cause eaddr eval : Word) (imprecise : Bool)
    (h : (s.core c).rs.length ≤ 14) : s.enter c v ret cause eaddr eval imprecise =
      s.setCore c ((s.core c).framed c v ret cause eaddr eval imprecise) := by
  simp only [State.enter, if_neg (Nat.not_lt.mpr h), Core.landed_caused]
  obtain ⟨ph, pl, products, hl⟩ := (s.core c).landed_eq
  rw [Core.framed, hl]
  rfl

/-- CORE_ECAUSE of an interrupt is its vector. -/
theorem causeWord_interrupt (v : Nat) : causeWord v 0 0 false = Word.ofNat v := by
  simp [causeWord, b2n]

/-! ## Interrupt entry, R301 and R302 -/

/-- What an interrupt entry makes its frame on: the WAIT completed, or the long instruction in flight abandoned. -/
def State.beforeEntry (s : State) (c done : Nat) : State :=
  let x := s.core c
  if x.waiting then s.setCore c (x.completed x.pc (s.after c x.pc) false) else s.abandon (memPort c) c done

/-- A core that enters vector v: SOFT and DOORBELL are cleared by the entry to their own vector. -/
def Core.acknowledged (x : Core) (v : Nat) : Core := { x with soft := x.soft && v != 12, bell := x.bell && v != 11 }

section
variable {s : State} {c : Nat} {d : Decoded} {l : LongOp}

theorem State.interrupt_masked (done : Nat) (h : (s.core c).ie = false ∨ (s.core c).halted = true) :
    s.interrupt c done = s := by
  rcases h with h | h <;> simp [State.interrupt, h]

theorem State.interrupt_pending {v : Nat} (done : Nat) (hh : (s.core c).halted = false)
    (hw : s.works (coreBlock c) = true) (hi : (s.core c).ie = true) (hv : s.interruptOf c = some v) :
    s.interrupt c done =
      let u := s.beforeEntry c done
      let x := u.core c
      (u.setCore c (x.acknowledged v)).enter c v x.pc (Word.ofNat v) (Word.ofNat x.pc) 0 false := by
  have ha (x : Core) : { x with soft := if v = 12 then false else x.soft, bell := if v = 11 then false else x.bell } =
      x.acknowledged v := by
    by_cases h12 : v = 12 <;> by_cases h11 : v = 11 <;> simp [Core.acknowledged, h12, h11]
  simp only [State.interrupt, hh, hw, hi, hv, ha, causeWord_interrupt, State.core_setCore_same]
  rfl

theorem State.beforeEntry_waiting (done : Nat) (hw : (s.core c).waiting = true) (hf : s.fetch c (s.core c).pc = .got s d) :
    s.beforeEntry c done = s.setCore c ((s.core c).completed (s.core c).pc d.next false) := by
  have ha : s.after c (s.core c).pc = d.next := by rw [State.after, hf]
  rw [State.beforeEntry, if_pos hw, ha]

theorem State.beforeEntry_idle (done : Nat) (hw : (s.core c).waiting = false) (hl : (s.core c).long = none) :
    s.beforeEntry c done = s := by
  simp [State.beforeEntry, State.abandon, hw, hl]

/-- A division leaves nothing behind when it is abandoned. -/
theorem State.beforeEntry_div (done : Nat) (hw : (s.core c).waiting = false) (hl : (s.core c).long = some l)
    (hk : l.kind = .div) : s.beforeEntry c done = s.setCore c ((s.core c).restored l.saved) := by
  simp [State.beforeEntry, State.abandon, hw, hl, hk]

end

/-- INTERRUPT_ENTRY with a source pending and enabled frames the core as the completed WAIT or the abandoned instruction
leaves it. -/
theorem Turns.interruptEntry {s u : State} {c : Fin 18} {v done : Nat} (hh : (s.core c).halted = false)
    (hw : s.works (coreBlock c) = true) (hi : (s.core c).ie = true) (hv : s.interruptOf c = some v)
    (hu : s.beforeEntry c done = u) (ho : OnlyCore s u c) (hr : (u.core c).rs.length ≤ 14) :
    Turns s (.interruptEntry c done) c (((u.core c).acknowledged v).framed c v (u.core c).pc (Word.ofNat v)
      (Word.ofNat (u.core c).pc) 0 false) := by
  have he : exec (.interruptEntry c done) s = .next (s.interrupt c done) := rfl
  have hr' : ((u.setCore c ((u.core c).acknowledged v)).core c).rs.length ≤ 14 := by
    rw [State.core_setCore_same]
    exact hr
  rw [State.interrupt_pending done hh hw hi hv, hu, State.enter_framed _ _ _ _ _ _ hr', State.core_setCore_same] at he
  exact ⟨_, he, (ho.setCore _).setCore _, State.core_setCore_same ..⟩

/-! ## RETI, R303 -/

/-- The core that RETI leaves before it completes: FLAGS, IE and the masked depth of the status word st, no loop beyond its
LDEPTH, and the frame popped. -/
def Core.returned (x : Core) (st : Word) (r : List Word) : Core :=
  { x with
    rs := r, flags := st.extractLsb' 0 4, ie := st.getLsbD 30, masked := (st.extractLsb' 27 3).toNat
    loops := x.loops.drop (x.loops.length - (st.extractLsb' 24 3).toNat) }

theorem State.retiOp_fits {s : State} {c : Nat} {st ra : Word} {r : List Word} (hs : (s.core c).rs = st :: ra :: r)
    (hf : Fits (s.core c) 0 0 2 0) :
    s.retiOp c = .ok (s.setCore c ((s.core c).returned st r)) (ra.toNat % (s.core c).space c) := by
  obtain ⟨h1, h2, h3, h4⟩ := hf
  rw [State.retiOp, State.prepare_fits s c 0 0 2 0 h1 h2 h3 h4, Ran.bind, ← State.inSpace_natCast]
  simp [hs, Core.restoredBy, Core.returned, BitVec.extractLsb'_toNat, Nat.shiftRight_eq_div_pow]

/-- RETI goes to the return address with the state of the frame restored. -/
theorem Runs.reti {s : State} {c : Fin 18} {d : Decoded} {st ra : Word} {r : List Word} (h : Issues s c d)
    (hd : d.op = .zero 0x4B) (hs : (s.core c).rs = st :: ra :: r) (hf : Fits (s.core c) 0 0 2 0) :
    Runs s (.reti c) c d (((s.core c).returned st r).completed d.here (ra.toNat % (s.core c).space c) false) := by
  have hi : exec (.reti c) s = s.gsi c (· == .zero 0x4B) (fun _ s => s.retiOp c) := rfl
  have hr := Runs.of_ok h hi (by simp [hd]) (State.retiOp_fits hs hf) (onlyCore_setCore s c _)
  rwa [State.core_setCore_same] at hr

/-- Settles O27: an entry frames the core that the abandoned division or the completed WAIT leaves, and RETI takes the frame
off again. -/
theorem interruptsEnterAbandonAndReturn : Obligations.InterruptsEnterAbandonAndReturn := by
  intro s c d done v l st ra r
  refine ⟨Runs.reti, fun hh hw hi hv hx => ⟨fun hl hr => ?_, fun hl hk _ hr => ?_⟩, fun hh hw hi hv hx hf hp hr => ?_,
    fun h => congrArg Host.Outcome.next (State.interrupt_masked done h)⟩
  · exact Turns.interruptEntry hh hw hi hv (State.beforeEntry_idle done hx hl) (OnlyCore.refl s c) hr
  · have hb := State.beforeEntry_div done hx hl hk
    obtain ⟨t, he, ho, hc⟩ := Turns.interruptEntry hh hw hi hv hb (onlyCore_setCore s c _)
      (by rwa [State.core_setCore_same])
    refine Answers.intro he ⟨ho, ?_⟩
    rw [hc, State.core_setCore_same]
    simp [Core.framed_rs, Core.acknowledged, Core.restored]
  · have hb := State.beforeEntry_waiting done hx hf
    obtain ⟨t, he, ho, hc⟩ := Turns.interruptEntry hh hw hi hv hb (onlyCore_setCore s c _)
      (by rwa [State.core_setCore_same])
    refine Answers.intro he ⟨ho, ?_⟩
    rw [hc, State.core_setCore_same]
    simp [Core.framed, Core.acknowledged, Core.completed, loopEnd, hp, Core.space]

end Sys2Proof.Machine
end

section
/-! SUPPORT. BARRIER, WAIT and the writes of core-local registers, R263, R296, R301 and R306 to R313. -/

namespace Sys2Proof.Machine

variable {s : State}

/-- A command that replaces one processor. -/
theorem Turns.of_setCore {c : Nat} {i : Instr} {x : Core} (h : exec i s = .next (s.setCore c x)) : Turns s i c x :=
  ⟨_, h, onlyCore_setCore s c x, State.core_setCore_same ..⟩

/-! ## Instructions that wait, R294 to R296 -/

section
variable {c : Nat} {d : Decoded} {sel : Op → Bool} {body : Decoded → State → Ran Nat}

theorem State.gsi_waits {t : State} (h : Issues s c d) (hs : sel d.op = true) (hb : body d s = .waits t) :
    s.gsi c sel body = .next t := by
  rw [State.gsi_issues h hs, hb]

/-- While a long instruction is in flight, one that no shadow holds waits. -/
theorem State.gsi_unshadowable (hh : (s.core c).halted = false) (hw : s.works (coreBlock c) = true)
    (hl : (s.core c).long ≠ none) (hf : s.fetch c (s.core c).pc = .got s d) (hs : sel d.op = true)
    (hd : d.op.shadowable = false) : s.gsi c sel body = .next s := by
  obtain ⟨l, hl⟩ := Option.ne_none_iff_exists'.mp hl
  simp [State.gsi, hh, hw, hf, hs, Core.admits, hl, hd]

end

/-! ## Sources pending and enabled, R301 -/

section
variable {c : Nat}

theorem State.interruptOf_none (h : s.ipend c &&& (s.core c).ien = 0) : s.interruptOf c = none := by
  simp [State.interruptOf, h]

/-- CORE_IEN has five bits: where one of them is pending there is a lowest one. -/
theorem State.interruptOf_some (h : s.ipend c &&& (s.core c).ien ≠ 0) (hi : (s.core c).ien < 32) :
    ∃ v, s.interruptOf c = some v := by
  rw [← Option.ne_none_iff_exists']
  intro hn
  have hb : ∀ i < 5, (s.ipend c &&& (s.core c).ien).testBit i = false := by
    simpa [State.interruptOf, List.find?_eq_none, -Nat.testBit_and] using hn
  refine h (Nat.eq_of_testBit_eq fun i => ?_)
  rw [Nat.zero_testBit]
  by_cases hi5 : i < 5
  · exact hb i hi5
  · have hlt : s.ipend c &&& (s.core c).ien < 2 ^ i :=
      calc s.ipend c &&& (s.core c).ien ≤ (s.core c).ien := Nat.and_le_right
        _ < 2 ^ 5 := hi
        _ ≤ 2 ^ i := Nat.pow_le_pow_right (by decide) (Nat.not_lt.mp hi5)
    exact Nat.testBit_lt_two_pow hlt

/-! ## Writes of core-local registers, R306 -/

theorem State.outDone_idle (f : State → State) (hl : (s.core c).long = none) (hs : (s.core c).stores = []) :
    s.outDone c f = f s := by
  simp [State.outDone, hl, hs]

theorem State.outDone_busy (f : State → State) (h : (s.core c).long ≠ none ∨ (s.core c).stores ≠ []) :
    s.outDone c f = s := by
  rw [State.outDone, if_neg]
  rintro ⟨hl, hs⟩
  exact h.elim (· (Option.isNone_iff_eq_none.mp hl)) (· hs)

end

/-- GO of a watch core sets the doorbell of its partner. -/
theorem State.writeRing_go {c : Fin 16} {v : Word} (h : v.getLsbD 0 = true) :
    s.writeRing c v = s.setCore (partner c) { s.core (partner c) with bell := true } :=
  if_pos ⟨h, c.isLt⟩

@[simp] theorem State.mailbox_setMailbox_same (c : Nat) (m : Mbx) : (s.setMailbox c m).mailbox c = m := by
  simp [State.mailbox, State.setMailbox]

/-! ## The instructions and the writes -/

section
variable {c : Fin 18} {d : Decoded}

theorem Runs.barrier (h : Issues s c d) (hd : d.op = .zero 0x4C) (hs : (s.core c).stores = []) :
    Runs s (.barrier c) c d ((s.core c).completed d.here d.next false) := by
  have hi : exec (.barrier c) s = s.gsi c (· == .zero 0x4C) (fun d s => s.barrierOp c d) := rfl
  have ⟨_, _, hl, _⟩ := h
  exact Runs.of_ok h hi (by simp [hd]) (by simp [State.barrierOp, hl, hs]) (OnlyCore.refl s c)

theorem exec_barrier_stores (h : Issues s c d) (hd : d.op = .zero 0x4C) (hs : (s.core c).stores ≠ []) :
    exec (.barrier c) s = .next s := by
  have hi : exec (.barrier c) s = s.gsi c (· == .zero 0x4C) (fun d s => s.barrierOp c d) := rfl
  exact hi.trans (State.gsi_waits h (by simp [hd]) (by simp [State.barrierOp, hs]))

theorem exec_barrier_long (hh : (s.core c).halted = false) (hw : s.works (coreBlock c) = true)
    (hl : (s.core c).long ≠ none) (hf : s.fetch c (s.core c).pc = .got s d) (hd : d.op = .zero 0x4C) :
    exec (.barrier c) s = .next s := by
  have hi : exec (.barrier c) s = s.gsi c (· == .zero 0x4C) (fun d s => s.barrierOp c d) := rfl
  exact hi.trans (State.gsi_unshadowable hh hw hl hf (by simp [hd]) (by simp [hd, Op.shadowable]))

theorem Runs.wait (h : Issues s c d) (hd : d.op = .zero 0x4D) (hp : s.ipend c &&& (s.core c).ien ≠ 0)
    (hn : (s.core c).ien < 32) : Runs s (.wait c) c d ((s.core c).completed d.here d.next false) := by
  have hi : exec (.wait c) s = s.gsi c (· == .zero 0x4D) (fun d s => s.waitOp c d) := rfl
  obtain ⟨v, hv⟩ := State.interruptOf_some hp hn
  exact Runs.of_ok h hi (by simp [hd]) (by rw [State.waitOp, hv]) (OnlyCore.refl s c)

theorem Turns.wait (h : Issues s c d) (hd : d.op = .zero 0x4D) (hp : s.ipend c &&& (s.core c).ien = 0) :
    Turns s (.wait c) c { s.core c with waiting := true } := by
  have hi : exec (.wait c) s = s.gsi c (· == .zero 0x4D) (fun d s => s.waitOp c d) := rfl
  refine Turns.of_setCore ?_
  rw [hi, State.gsi_waits h (by simp [hd]) (by rw [State.waitOp, State.interruptOf_none hp])]

end

/-- Settles O29: BARRIER and WAIT execute where what they wait for holds; a core-local write acts once the core's long
instruction and its buffered stores are done, and until then leaves the state as it is. -/
theorem barriersWaitsAndCoreLocalWrites : Obligations.BarriersWaitsAndCoreLocalWrites := by
  intro s c k d v
  refine ⟨Runs.barrier, exec_barrier_stores, exec_barrier_long, Runs.wait, Turns.wait, fun hl hs => ?_, fun h => ?_,
    fun h => ?_, fun hg hl hs => ?_, fun hl hs => ?_, fun hl hs => ?_⟩
  · exact Turns.of_setCore (congrArg Host.Outcome.next (State.outDone_idle _ hl hs))
  · exact ⟨congrArg Host.Outcome.next (State.outDone_busy _ h), congrArg Host.Outcome.next (State.outDone_busy _ h)⟩
  · exact ⟨congrArg Host.Outcome.next (State.outDone_busy _ h), congrArg Host.Outcome.next (State.outDone_busy _ h)⟩
  · exact Turns.of_setCore (congrArg Host.Outcome.next ((State.outDone_idle _ hl hs).trans (State.writeRing_go hg)))
  · exact Turns.of_setCore (congrArg Host.Outcome.next (State.outDone_idle _ hl hs))
  · exact Answers.intro (congrArg Host.Outcome.next (State.outDone_idle _ hl hs))
      ⟨rfl, State.mailbox_setMailbox_same ..⟩

end Sys2Proof.Machine
end
